-- ==== Sys2Proof/Word.lean ====
section
/-!
DEFINITION. The word types of the XG2560 and the sparse map the state is built from.
-/
namespace Sys2Proof

abbrev Byte := BitVec 8
abbrev Half := BitVec 16
abbrev W32 := BitVec 32
abbrev W64 := BitVec 64

/-- A 72-bit tagged word: 6-bit tag, 2-bit GC colour, 64-bit payload (03 R100, R101). -/
structure TWord where
  tag : BitVec 6
  colour : BitVec 2
  payload : W64
  deriving DecidableEq, Repr, Inhabited

/-- Sparse data by key: keys strictly ascending. -/
abbrev AMap (α : Type) := List (Nat × α)

/-- The entry at a key, if there is one. -/
def AMap.find? {α : Type} : AMap α → Nat → Option α
  | [], _ => none
  | (a, v) :: m, k => if k = a then some v else AMap.find? m k

/-- The entry at a key, or the value an unlisted key stands for. -/
def AMap.get {α : Type} (d : α) (m : AMap α) (k : Nat) : α := (AMap.find? m k).getD d

/-- No entry at a key. -/
def AMap.erase {α : Type} : AMap α → Nat → AMap α
  | [], _ => []
  | (a, v) :: m, k => if k = a then AMap.erase m k else (a, v) :: AMap.erase m k

/-- Insert at the place that keeps the keys ascending, replacing an entry of the same key. -/
def AMap.insert {α : Type} : AMap α → Nat → α → AMap α
  | [], k, x => [(k, x)]
  | (a, v) :: m, k, x =>
    if k < a then (k, x) :: (a, v) :: m
    else if k = a then (k, x) :: m
    else (a, v) :: AMap.insert m k x

/-- Set a key to a value; the value an unlisted key stands for is not listed. -/
def AMap.put {α : Type} [DecidableEq α] (d : α) (m : AMap α) (k : Nat) (x : α) : AMap α :=
  if x = d then AMap.erase m k else AMap.insert m k x

/-- Keys strictly ascending, no entry equal to the value an unlisted key stands for. -/
def AMap.wf {α : Type} [DecidableEq α] (d : α) : AMap α → Bool
  | [] => true
  | [(_, v)] => decide (v ≠ d)
  | (a, v) :: (b, w) :: m => decide (v ≠ d) && decide (a < b) && AMap.wf d ((b, w) :: m)

/-- Keys strictly ascending. -/
def AMap.sorted {α : Type} : AMap α → Bool
  | [] => true
  | [_] => true
  | (a, _) :: (b, w) :: m => decide (a < b) && AMap.sorted ((b, w) :: m)

/-- Bits hi down to lo of a number. -/
def bits (x hi lo : Nat) : Nat := (x / 2 ^ lo) % 2 ^ (hi + 1 - lo)

/-- A number with bits hi down to lo replaced. -/
def setBits (x hi lo v : Nat) : Nat :=
  x - bits x hi lo * 2 ^ lo + (v % 2 ^ (hi + 1 - lo)) * 2 ^ lo

/-- 1 for true, 0 for false. -/
def b2n (b : Bool) : Nat := if b then 1 else 0

/-- The numbers from lo up, n of them. -/
def range' (lo n : Nat) : List Nat := (List.range n).map (· + lo)

end Sys2Proof
end

