-- ==== Sys2Proof/Machine/Words.lean ====
section
/-!
DEFINITION. Tags, tag classes, truth values and the payload rules of tagged words (03 R105 to R117).
-/
namespace Sys2Proof

/-- A word of a tag number, colour 0b00. -/
def mk (tag : Nat) (p : W64) : TWord := ⟨BitVec.ofNat 6 tag, 0#2, p⟩
def mkN (tag p : Nat) : TWord := mk tag (BitVec.ofNat 64 p)

abbrev tFIX : Nat := 0x00
abbrev tFLO : Nat := 0x01
abbrev tFIXQ : Nat := 0x02
abbrev tCHR : Nat := 0x03
abbrev tSYM : Nat := 0x04
abbrev tNIL : Nat := 0x05
abbrev tBOOL : Nat := 0x06
abbrev tUNB : Nat := 0x07
abbrev tCONS : Nat := 0x08
abbrev tVEC : Nat := 0x09
abbrev tSTR : Nat := 0x0A
abbrev tCLO : Nat := 0x0B
abbrev tBOX : Nat := 0x0C
abbrev tFWD : Nat := 0x0D
abbrev tHDR : Nat := 0x0E
abbrev tCODE : Nat := 0x0F
abbrev tRGBA : Nat := 0x10
abbrev tPT2 : Nat := 0x11
abbrev tSPRG : Nat := 0x12
abbrev tEVT : Nat := 0x13
abbrev tRAW : Nat := 0x14
abbrev tSTAMP : Nat := 0x15

def TWord.t (w : TWord) : Nat := w.tag.toNat
def TWord.p (w : TWord) : Nat := w.payload.toNat

def unb (n : Nat) : TWord := mkN tUNB n
def nil : TWord := mkN tNIL 0
def boolW (b : Bool) : TWord := mkN tBOOL (b2n b)
def fix (i : Int) : TWord := mk tFIX (BitVec.ofInt 64 i)
def codeW (a : Nat) : TWord := mkN tCODE (a % 2 ^ 32)
def rawW (n : Nat) : TWord := mkN tRAW n
def evtW (n : Nat) : TWord := mkN tEVT n
def stampW (t : Nat) : TWord := mkN tSTAMP t
def sprgW (slot gen : Nat) : TWord := mkN tSPRG (slot % 4096 + 4096 * (gen % 4096))

/-- The signed value of a FIX payload. -/
def TWord.i (w : TWord) : Int := w.payload.toInt

/-- Pointer-class tags (R105). -/
def isPtrTag (t : Nat) : Bool := 0x08 ≤ t && t ≤ 0x0C
/-- Reserved tags (R105). -/
def isReservedTag (t : Nat) : Bool := 0x16 ≤ t && t ≤ 0x2F
def isNumTag (t : Nat) : Bool := t ≤ 0x02

/-- The truth value of a word (R110). -/
def TWord.truth (w : TWord) : Bool :=
  !(w.t == tNIL || (w.t == tBOOL && w.p % 2 == 0))

/-- Identity: equal tags and all 64 payload bits (R137). -/
def TWord.eqv (a b : TWord) : Bool := a.tag == b.tag && a.payload == b.payload

/-- The payload bits that a producing operation may leave set for a tag (R105, R106). -/
def payloadMask (t : Nat) : Nat :=
  if t = tCHR then 2 ^ 21 - 1
  else if t = tSYM ∨ t = tRGBA then 2 ^ 32 - 1
  else if t = tNIL then 0
  else if t = tBOOL then 1
  else if t = tCODE then 2 ^ 32 - 4
  else if t = tSPRG then 2 ^ 24 - 1
  else 2 ^ 64 - 1

/-- A word as a producing operation delivers it: bits marked zero are zero, colour 0b00 (R106, R120). -/
def produce (t : Nat) (p : W64) : TWord := mk t (p &&& BitVec.ofNat 64 (payloadMask t))

/-- A word as a cell reads or writes it: colour 0b00 (R104). -/
def TWord.plain (w : TWord) : TWord := { w with colour := 0#2 }

/-- The tag class codes of TG.CLASS (05 R234). -/
def classCode (t : Nat) : Nat :=
  if t ≤ 0x02 then 0
  else if isPtrTag t then 2
  else if t = tFWD ∨ t = tHDR then 3
  else if t = tRGBA then 4
  else if t = tPT2 then 5
  else if t ≤ 0x15 then 1
  else if t ≤ 0x2F then 6
  else 7

/-- What TG.SETTAG and a long immediate do with a tag (R111 to R113): 0 accepted, 1 PRIV, 2 TAGMISS. -/
def tagCheck (t : Nat) (sup : Bool) : Nat :=
  if t = tFWD then 1
  else if isReservedTag t then 2
  else if (isPtrTag t || t == tHDR || t == tCODE || t == tSPRG || t == tSTAMP) && !sup then 1
  else 0

/-- A pointer payload bits [63:40] of which are zero (R115, R116). -/
def TWord.canonical (w : TWord) : Bool := w.p < 2 ^ 40

end Sys2Proof
end

