-- ==== Sys2Proof/Machine/CellTypes.lean ====
section
/-!
DEFINITION. The state of one cell (03 to 08): levels, status words, save sets, windows, unit sockets, operations in
flight, store buffer and pending events.
-/
namespace Sys2Proof.Machine

/-- The five levels (07 R323). -/
inductive Level where
  | l0 | l1 | l2 | l3 | ln
  deriving DecidableEq, Repr

/-- The encoding of a level in SV_CAUSE.FROM and in the window map: 0 to 3, or 4 for N. -/
def Level.num : Level → Nat
  | .l0 => 0 | .l1 => 1 | .l2 => 2 | .l3 => 3 | .ln => 4

def levelOf (n : Nat) : Level :=
  match n with
  | 0 => .l0 | 1 => .l1 | 2 => .l2 | 3 => .l3 | _ => .ln

/-- One value for each level. -/
structure PerLevel (α : Type) where
  l0 : α
  l1 : α
  l2 : α
  l3 : α
  ln : α
  deriving DecidableEq, Repr

def PerLevel.get {α : Type} (p : PerLevel α) : Level → α
  | .l0 => p.l0 | .l1 => p.l1 | .l2 => p.l2 | .l3 => p.l3 | .ln => p.ln

def PerLevel.set {α : Type} (p : PerLevel α) (l : Level) (v : α) : PerLevel α :=
  match l with
  | .l0 => { p with l0 := v }
  | .l1 => { p with l1 := v }
  | .l2 => { p with l2 := v }
  | .l3 => { p with l3 := v }
  | .ln => { p with ln := v }

def PerLevel.all {α : Type} (v : α) : PerLevel α := ⟨v, v, v, v, v⟩

/-- A save set (07 R335), with the level and the ST that the cell itself recorded at the entry (R348). -/
structure SaveSet where
  pc : TWord
  st : TWord
  cause : TWord
  info : TWord
  ml : TWord
  win : TWord
  fromLevel : Level
  fromSt : W32
  deriving DecidableEq, Repr

/-- A save set after chip reset and cell reset (R335). -/
def SaveSet.reset : SaveSet :=
  ⟨codeW 0, rawW 0, rawW 0, rawW 0, rawW 0, rawW 0, .l0, 0#32⟩

/-- An arithmetic operation that has not completed (04 R173, R177): its unit (false GA, true FX), operation number,
result, the sticky flags it sets, the exception it raises (0 none, 2 OVF, 3 DIVZ), its trigger move, how many moves
have issued from it on, the destination of the earliest later move that reads the result, and its level. -/
structure PendOp where
  fx : Bool
  op : Nat
  res : TWord
  setOv : Bool
  setDz : Bool
  fflags : Nat
  exc : Nat
  trig : Nat
  issued : Nat
  readDst : Option Nat
  level : Level
  deriving DecidableEq, Repr

/-- A predicate write that waits on a result socket (04 R191): the predicate block socket written, the result socket
read, the address of the move. -/
structure Defer where
  sock : Nat
  src : Nat
  pc : Nat
  deriving DecidableEq, Repr

/-- An entry of the store buffer (04 R187): slot, code space or heap, word address or code address, word. -/
structure StoreEntry where
  slot : Nat
  code : Bool
  addr : Nat
  word : TWord
  deriving DecidableEq, Repr

/-- A slab (09 R447): granule, next free word, end, parity of issue, epoch. -/
structure Slab where
  gran : Nat
  ptr : Nat
  lim : Nat
  parity : Bool
  epoch : Nat
  deriving DecidableEq, Repr

/-- What the Spinner has answered to the cell's request (09 R450, R451). -/
inductive SpinAnswer where
  | large (addr len : Nat)
  | exhausted
  deriving DecidableEq, Repr

/-- A wait in place (05 R265, R266; 10 R547): start, length of the move, socket, event mask, stamp. -/
structure WaitInPlace where
  since : Nat
  len : Nat
  sock : Nat
  mask : Nat
  until' : Option Nat
  deriving DecidableEq, Repr

/-- A hold window (07 R361, R363): moves left, timebase at which it ends. -/
structure Hold where
  level : Level
  left : Nat
  endsAt : Nat
  deriving DecidableEq, Repr

/-- What starts a micro-routine (08 R399, R419): its entry; OPA and OPB; for SPILL and FILL the window concerned, and
whether a lent window goes to the level it is lent to once its owner's data is stored (06 R296). -/
structure MicroStart where
  entry : Nat
  opa : TWord
  opb : TWord
  win : Nat
  give : Bool
  deriving DecidableEq, Repr

/-- A micro-routine at a microword boundary (08 R394 to R406): what started it; address, length and trigger socket of
the starting move; the next microword; the micro-stack; T0 to T31; WINSEL, MPTR and MOFF; the last ALU payload; whether
the last load returned FWD, and the last CASH succeeded; microwords run since the start or the last WAIT; after commit,
microwords run since, and whether the next one is the JUMP of a REOPEN; where a jump that it fired goes. -/
structure Micro where
  start : MicroStart
  pc : Nat
  len : Nat
  sock : Nat
  addr : Nat
  stack : List Nat
  temps : AMap TWord
  winsel : Nat
  mptr : TWord
  moff : TWord
  alu : W64
  fwd : Bool
  cash : Bool
  ran : Nat
  after : Option Nat
  reopen : Bool
  goto : Option Nat
  deriving DecidableEq, Repr

structure Cell where
  pc : Nat
  level : Level
  st : PerLevel W32
  save : PerLevel SaveSet
  regs : AMap TWord
  links : AMap W64
  owners : AMap (Option Level)
  lent : BitVec 8
  dirty : BitVec 36
  fregs : AMap W64
  socks : AMap TWord
  preds : PerLevel (BitVec 8)
  ustat : PerLevel (BitVec 2)
  vbase : PerLevel TWord
  tdbase : TWord
  gatebase : TWord
  fpown : TWord
  ops : List PendOp
  defer : Option Defer
  early : List Nat
  sbuf : List StoreEntry
  latebus : AMap W64
  irqPend : W32
  irqL2 : W32
  irqPay : AMap W32
  nmi : Option W64
  hold : Option Hold
  wait : Option WaitInPlace
  pageWait : Option (Nat × Nat)
  mlPend : Option (BitVec 36)
  obtain : Bool
  micro : Option Micro
  slab : Option Slab
  answer : Option SpinAnswer
  quar : Option Slab
  dropEpoch : Option Nat
  fetch : AMap W32
  sprig : Option Nat
  lastSprig : TWord
  placed : Bool
  deriving DecidableEq, Repr

/-- A cell after chip reset and cell reset (05 R221, R1022; 06 R312; 07 R332, R335, R359). The program counter, the
status words, the registers, the window map, the dirty mask and the floating registers hold the values of log entry 5. -/
def Cell.reset : Cell where
  pc := 0
  level := .l0
  st := PerLevel.all 0#32
  save := PerLevel.all SaveSet.reset
  regs := []
  links := []
  owners := []
  lent := 0#8
  dirty := 0#36
  fregs := []
  socks := []
  preds := PerLevel.all 0#8
  ustat := PerLevel.all 0#2
  vbase := PerLevel.all (unb 0)
  tdbase := codeW 0
  gatebase := unb 0
  fpown := unb 0
  ops := []
  defer := none
  early := []
  sbuf := []
  latebus := []
  irqPend := 0#32
  irqL2 := 0#32
  irqPay := []
  nmi := none
  hold := none
  wait := none
  pageWait := none
  mlPend := none
  obtain := false
  micro := none
  slab := none
  answer := none
  quar := none
  dropEpoch := none
  fetch := []
  sprig := none
  lastSprig := unb 0
  placed := true

/-- What an operand socket holds at reset (05 R221, R225, R241, R247, R259); result sockets deliver UNB payload 0
(04 R174). -/
def sockReset (n : Nat) : TWord :=
  if n = 0x300 ∨ n = 0x303 ∨ n = 0x306 ∨ n = 0x3C8 then mkN tFIX 0
  else if n = 0x401 then evtW 0
  else if n = 0x261 ∨ n = 0x262 then rawW 0
  else if n = 0x701 then boolW false
  else unb 0

/-- Sockets of a level's bank, keyed by level and number. -/
def sockKey (l : Level) (n : Nat) : Nat := l.num * 0x1000 + n

def Cell.sock (c : Cell) (l : Level) (n : Nat) : TWord := AMap.get (sockReset n) c.socks (sockKey l n)

def Cell.setSock (c : Cell) (l : Level) (n : Nat) (w : TWord) : Cell :=
  { c with socks := AMap.put (sockReset n) c.socks (sockKey l n) w }

def Cell.stw (c : Cell) : Nat := (c.st.get c.level).toNat

/-- ST fields of the current level (07, table ST fields). -/
def Cell.win (c : Cell) : Nat := bits c.stw 2 0
def Cell.sup (c : Cell) : Bool := bits c.stw 3 3 == 1
def Cell.exact (c : Cell) : Bool := bits c.stw 7 7 == 1
def Cell.ovfe (c : Cell) : Bool := bits c.stw 8 8 == 1
def Cell.dze (c : Cell) : Bool := bits c.stw 9 9 == 1
def Cell.fpa (c : Cell) : Bool := bits c.stw 10 10 == 1
def Cell.epoch (c : Cell) : Nat := bits c.stw 15 12
def Cell.pri (c : Cell) : Nat := bits c.stw 18 16

/-- Replace bits [hi:lo] of the ST of a level. -/
def Cell.setSt (c : Cell) (l : Level) (hi lo v : Nat) : Cell :=
  { c with st := c.st.set l (BitVec.ofNat 32 (setBits (c.st.get l).toNat hi lo v)) }

def Cell.owner (c : Cell) (i : Nat) : Option Level := AMap.get none c.owners (i % 8)

def Cell.setOwner (c : Cell) (i : Nat) (o : Option Level) : Cell :=
  { c with owners := AMap.put none c.owners (i % 8) o }

def Cell.isLent (c : Cell) (i : Nat) : Bool := c.lent.getLsbD (i % 8)

def Cell.setLent (c : Cell) (i : Nat) (b : Bool) : Cell :=
  { c with lent := BitVec.ofNat 8 (setBits c.lent.toNat (i % 8) (i % 8) (b2n b)) }

/-- Key of register j of window i in the register file; globals are keys 0 to 15. -/
def winKey (i j : Nat) : Nat := 16 + 16 * (i % 8) + j % 16

/-- Group of a register key (06 R301). -/
def groupOf (k : Nat) : Nat := k / 4

def Cell.markDirty (c : Cell) (g : Nat) (b : Bool) : Cell :=
  { c with dirty := BitVec.ofNat 36 (setBits c.dirty.toNat g g (b2n b)) }

def Cell.reg (c : Cell) (k : Nat) : TWord := AMap.get (unb 0) c.regs k

/-- Write a register; its group's dirty bit is set (06 R302). -/
def Cell.setReg (c : Cell) (k : Nat) (w : TWord) : Cell :=
  ({ c with regs := AMap.put (unb 0) c.regs k w.plain }).markDirty (groupOf k) true

def Cell.link (c : Cell) (i : Nat) : W64 := AMap.get 0#64 c.links (i % 8)

/-- The bits of a link word that exist (06 R276). -/
def linkMask : W64 := 0x00030FFFFFFFFFFF#64

/-- Write a link word; it belongs to the first group of its window (06 R306, R320). -/
def Cell.setLink (c : Cell) (i : Nat) (w : W64) : Cell :=
  ({ c with links := AMap.put 0#64 c.links (i % 8) (w &&& linkMask) }).markDirty (4 + 4 * (i % 8)) true

/-- A link word from its fields. -/
def linkOf (raddr dst : Nat) (dispatch valid : Bool) : W64 :=
  BitVec.ofNat 64 (raddr % 2 ^ 32 + dst % 2 ^ 12 * 2 ^ 32 + b2n dispatch * 2 ^ 48 + b2n valid * 2 ^ 49)

/-- Give window i to a level with every register UNB payload 0 and a link word (06 R278). -/
def Cell.initWindow (c : Cell) (i : Nat) (l : Level) (link : W64) : Cell :=
  let c := (List.range 16).foldl (fun c j => c.setReg (winKey i j) (unb 0)) c
  ((c.setOwner i (some l)).setLink i link)

/-- Make window i FREE; the dirty bits of its groups clear (06 R303). -/
def Cell.freeWindow (c : Cell) (i : Nat) : Cell :=
  let c := c.setOwner i none
  (List.range 4).foldl (fun c j => c.markDirty (4 + 4 * (i % 8) + j) false) c

/-- The Warden's pair from chip reset (19 R924, R931): level 0 with SUP set, window 0 owned, at the first byte of the
mask ROM (log entry 5). -/
def Cell.wardenReset : Cell :=
  { ((Cell.reset.setOwner 0 (some .l0)).setSt .l0 3 3 1) with pc := 0xFFFF0000 }

end Sys2Proof.Machine
end

