-- ==== Sys2Proof/Machine/HeapTypes.lean ====
section
/-!
DEFINITION. The state of the heap: Spinner, Gleaners, Larder and Ferrymen (09).
-/
namespace Sys2Proof.Machine

/-- What a granule of the collected region is (09 R447, R450, R452): free, the current slab of a cell or of the
Gleaner of a grove, a granule of the run that the endpoint fills for the SCENE of an order number (12 R630), in use, the first granule
of a large object, or another granule of one. -/
inductive GranState where
  | free
  | cellSlab (cell : Nat)
  | gleanerSlab (grove : Nat)
  | ringSlab (order : Nat)
  | used
  | largeHead
  | largeTail
  deriving DecidableEq, Repr

/-- A granule: state, parity of the slab it was, epoch (0 ivory), and whether it may not be issued before the
current cycle's marking ends (R452). -/
structure Gran where
  st : GranState
  parity : Bool
  epoch : Nat
  held : Bool
  deriving DecidableEq, Repr

def Gran.fresh : Gran := ⟨.free, false, 0, false⟩

/-- Who waits in the Spinner (R451): a cell for a slab or a large object, a sprig slot for its context record, the
SCENE command of an order number for its graph. -/
inductive SpinWho where
  | cell (c : Nat)
  | slot (n : Nat)
  | ring (n : Nat)
  deriving DecidableEq, Repr

/-- A request that waits in the Spinner (R451): kind, words after the header (0 for a slab), first and other words of
the object, epoch, cycles started before it. -/
structure SpinReq where
  who : SpinWho
  kind : Nat
  len : Nat
  first : TWord
  fill : TWord
  epoch : Nat
  cycle : Nat
  deriving DecidableEq, Repr

/-- Collection phases (R461). -/
inductive Phase where
  | idle | roots | mark | relocate | sweep | select
  deriving DecidableEq, Repr

def Phase.code : Phase → Nat
  | .idle => 0 | .roots => 1 | .mark => 2 | .relocate => 3 | .sweep => 4 | .select => 5

/-- A root of items 2 to 6 of R464: a context record, the root vector, an object of an ochre granule, a logged word,
a registered pointer. -/
inductive Root where
  | ctx (slot : Nat)
  | vec
  | obj (addr : Nat)
  | log (epoch addr : Nat)
  | registered (addr : Nat)
  deriving DecidableEq, Repr

/-- A bin of the Larder that is not free (R476 to R481). `next` is the page the bin goes to once the written page in
it has been written back (R479). -/
structure Bin where
  page : Nat
  transit : Bool
  pinned : Bool
  referenced : Bool
  written : Bool
  next : Option Nat
  deriving DecidableEq, Repr

/-- A request queued at a Ferryman: page, requesting grove, when it was made. -/
structure FryReq where
  page : Nat
  grove : Nat
  since : Nat
  deriving DecidableEq, Repr

/-- The words of resident pages (words), the granules that are not fresh (grans), the Spinner's queue, the state of
the cycle, the Larder and the Ferrymen. gslabs: granule and next free word of each Gleaner's slab.
answers: what the Spinner has answered to SCENE commands. -/
structure Heap where
  words : AMap TWord
  grans : AMap Gran
  reqs : List SpinReq
  phase : Phase
  cycle : W32
  lastStart : Nat
  scanned : List Nat
  rootsDone : List Root
  grey : AMap (List Nat)
  overflow : List Nat
  condemned : List Nat
  relocated : List Nat
  swept : List Nat
  gslabs : AMap (Nat × Nat)
  registered : List Nat
  answers : AMap SpinAnswer
  bins : AMap Bin
  queues : AMap (List FryReq)
  poison : List Nat
  badWords : List Nat
  hand : AMap Nat
  built : Bool
  deriving DecidableEq, Repr

/-- Nothing listed: every granule free, every bin free, no cycle (R438). -/
def Heap.reset : Heap where
  words := []
  grans := []
  reqs := []
  phase := .idle
  cycle := 0#32
  lastStart := 0
  scanned := []
  rootsDone := []
  grey := []
  overflow := []
  condemned := []
  relocated := []
  swept := []
  gslabs := []
  registered := []
  answers := []
  bins := []
  queues := []
  poison := []
  badWords := []
  hand := []
  built := false

/-- Current parity: bit 0 of the cycle count (R461). -/
def Heap.parity (h : Heap) : Bool := h.cycle.getLsbD 0

end Sys2Proof.Machine
end

