-- ==== Sys2Proof/Machine/RegTypes.lean ====
section
/-!
DEFINITION. Access codes, When classes and rows of the setup register tables (00 R10 to R22, 01 R53 to R55).
-/
namespace Sys2Proof.Machine

/-- A field of a setup register: BAR0 offset and bit range. -/
structure Fld where
  off : Nat
  hi : Nat
  lo : Nat
  deriving DecidableEq, Repr

/-- The lock bits that lock fields of other registers (04 R214, 09 R494, 13 R704). -/
inductive Lock where
  | fryCode | spn | fry | pnt
  deriving DecidableEq, Repr

/-- Access codes (00 R10). `l1 none` is a field that locks itself once 1 is written to it. -/
inductive Access where
  | rw | ro | w1c | wo | sn
  | l1 (lock : Option Lock)
  deriving DecidableEq, Repr

/-- Boundaries of EDGE fields (00 R19, R1020). The last five carry the instance. -/
inductive Boundary where
  | gcStart | gcSelect | gcEnd | place | audit | wit | adcCmp | lis
  | mir (n : Nat) | adcSeq (k : Nat) | adcUrg (k : Nat) | can (n : Nat) | lin (n : Nat) | pwm (n : Nat)
  deriving DecidableEq, Repr

/-- Boundaries whose instance is the register's own index. -/
inductive BoundaryI where
  | mirI | adcSeqI | adcUrgI | canI | linI | pwmI
  deriving DecidableEq, Repr

/-- What must be stopped before a HALT field can change (00 R22). -/
inductive HaltCond where
  | evrAll | evrRing | evrEvt | evrLog | mir | adcRef | adcDma | vioPort | vioRing | can | i3c | spi | uart | lin
  | gkpStream | ddr
  deriving DecidableEq, Repr

/-- When classes. -/
inductive When where
  | live
  | edge (b : Boundary)
  | edgeI (b : BoundaryI)
  | halt (h : HaltCond)
  deriving DecidableEq, Repr

/-- Who may write a field: host and Warden, the Warden only, or each requester its own copy (01 R53, R54). -/
inductive Who where
  | both | warden | each
  deriving DecidableEq, Repr

/-- One field of a register table. -/
structure Field where
  hi : Nat
  lo : Nat
  acc : Access
  reset : Nat
  when' : When
  who : Who
  deriving DecidableEq, Repr

/-- One row of a register table: offset of instance 0, number of instances, stride, fields. -/
structure RegRow where
  off : Nat
  count : Nat
  stride : Nat
  fields : List Field
  deriving DecidableEq, Repr

/-- A requester of register accesses: the host over BAR0, or the Warden in its system space (00 R35). -/
inductive Req where
  | host | warden
  deriving DecidableEq, Repr

/-- One value per requester. -/
structure PerReq (α : Type) where
  host : α
  warden : α
  deriving DecidableEq, Repr

def PerReq.get {α : Type} (p : PerReq α) : Req → α
  | .host => p.host
  | .warden => p.warden

def PerReq.set {α : Type} (p : PerReq α) (r : Req) (v : α) : PerReq α :=
  match r with
  | .host => { p with host := v }
  | .warden => { p with warden := v }

end Sys2Proof.Machine
end

