-- ==== Sys2Proof/Machine/TimeTypes.lean ====
section
/-!
DEFINITION. The timebase, the delay trims and the Weave (02).
-/
namespace Sys2Proof.Machine

/-- The always-on timebase (02 R90 to R98). -/
structure Timebase where
  ns : W64
  frac : BitVec 6
  slow : Bool
  rc : Bool
  pllEn : Bool
  pllLock : Bool
  toFast : Bool
  toSlow : Bool
  wake : W64
  wakeSrc : BitVec 2
  porw : Bool
  deriving DecidableEq, Repr

/-- At State.reset the switched domain has just left reset into Ochre mode (01 R56, 17 R851): the 100 MHz clock drives
the timebase. The values the spec does not give are those of log entry 3. -/
def Timebase.reset : Timebase where
  ns := 0#64
  frac := 0#6
  slow := false
  rc := false
  pllEn := true
  pllLock := true
  toFast := false
  toSlow := false
  wake := 0#64
  wakeSrc := 0#2
  porw := false

/-- The three copies of a delay element's code (02 R81). -/
structure Trim where
  a : BitVec 6
  b : BitVec 6
  c : BitVec 6
  deriving DecidableEq, Repr

/-- All copies 63 from chip reset (R83). -/
def Trim.reset : Trim := ⟨63#6, 63#6, 63#6⟩

/-- Virtual channels in the encoding of TBD_WV_STALL_ID.VC. -/
inductive VC where
  | req | rsp | evt | safe
  deriving DecidableEq, Repr

def VC.num : VC → Nat
  | .req => 0 | .rsp => 1 | .evt => 2 | .safe => 3

/-- A packet of the Weave that is not yet wholly delivered: source and destination node (0 to 15 groves, 16 to 23
edge nodes), channel, flits, and the flits that stand in each link input of its path. -/
structure Packet where
  src : Nat
  dst : Nat
  vc : VC
  flits : Nat
  at' : AMap Nat
  deriving DecidableEq, Repr

/-- An interrupt packet on the EVT channel that has not reached its cell (07 R367 to R371). -/
structure IrqPacket where
  cell : Nat
  irq : Nat
  payload : W32
  level2 : Bool
  deriving DecidableEq, Repr

/-- An ECC error that a move meets in a structure of its cell (07 R339, 19 R950, R951): none, a corrected one, or an
uncorrectable one in structure 0 to 5, with the word address that SV_INFO gives. -/
inductive Ecc where
  | none
  | corrected
  | bad (structure' : Fin 6) (addr : BitVec 40)
  deriving DecidableEq, Repr

/-- A CAN frame on a bus: identifier, formats, data length and data (16 R796, R800). -/
structure CanFrame where
  id : BitVec 29
  ide : Bool
  fdf : Bool
  brs : Bool
  rtr : Bool
  esi : Bool
  len : Fin 65
  data : List Byte
  deriving DecidableEq, Repr

/-- A LIN response on a bus: its bytes, and whether its checksum is good and of the enhanced model (16 R796). -/
structure LinSeen where
  data : List Byte
  good : Bool
  enhanced : Bool
  deriving DecidableEq, Repr

/-- How a transfer on a board bus ends (16 R793). -/
inductive VioEnd where
  | ok
  | noResponse
  | noAck
  | busError
  deriving DecidableEq, Repr

/-- What a wait command is about: a sprig, or a cell that waits in place (05 R265). -/
inductive Waiter where
  | sprig (slot : Fin 4096)
  | cell (c : Fin 257)
  deriving DecidableEq, Repr

/-- Packets not yet wholly delivered, oldest first; the injection times of SAFE packets of each node in the last 40 ns;
packets delivered. A credit is spent for each flit that stands in a link input (R68). -/
structure Weave where
  packets : List Packet
  safeLast : AMap (List Nat)
  delivered : Nat
  deriving DecidableEq, Repr

/-- Every sender holds full credit (R68). -/
def Weave.reset : Weave := ⟨[], [], 0⟩

end Sys2Proof.Machine
end

