-- ==== Sys2Proof/Syntax.lean ====
section
/-!
DEFINITION. The commands of the block: one constructor for each row of the opcode table, with the operands the row's
rule gives it. A physical input (a pin level, a measured value, an upset that a scrubber finds, the result of a link
training) is an operand of the command it comes with.
-/
namespace Sys2Proof

open Sys2Proof.Machine (Req VC Trim Ecc Waiter Root CanFrame LinSeen VioEnd)

/-- A cell: 0 to 255, or 256 for the Warden's lockstep pair. -/
abbrev CellId := Fin 257
/-- A grove. -/
abbrev Grove := Fin 16
/-- A Weave node: 0 to 15 the groves, 16 to 23 the edge nodes E0 to E7. -/
abbrev Node := Fin 24


/-- The commands of the block, one constructor for each row of the opcode table, in the order of the table. -/
inductive Instr where
  /-- REGISTER_WRITE (R10). A write to a setup register with no row of its own, taking effect under its access code and When class. -/
  | registerWrite (req : Req) (off : Nat) (v : W32)
  /-- SNAPSHOT_READ_LO (R25). A read of the _LO half of a 64-bit register latches the _HI half into the requester's snapshot. -/
  | snapshotReadLo (req : Req) (off : Nat)
  /-- WEAVE_PACKET (R65). A Weave packet is sent and routed by dimension order, spending and returning credits. -/
  | weavePacket (src dst : Node) (vc : VC) (words : Nat) (taken : Bool)
  /-- WEAVE_STALL (R74). A flit request goes unacknowledged for 1 µs; the link is recorded and WEAVE_STALL is raised. -/
  | weaveStall (node : Node) (port : Fin 5) (vc : VC)
  /-- TRIM_DATA_WRITE (R85). A write of TBD_TRIM_DATA sets all three copies of the selected element and advances TBD_TRIM_SEL. -/
  | trimDataWrite (req : Req) (code : BitVec 6)
  /-- TRIM_SCRUB (R86). Each 1 ms the scrubber visits every delay element and compares its three copies. -/
  | trimScrub (upsets : List (Nat × Trim))
  /-- SYSPLL_LOCK (R78). SYSPLL reports lock after being enabled. -/
  | syspllLock
  /-- TB_CHANGEOVER_TO_FAST (R93). At the first 32.768 kHz edge after SYSPLL lock, the timebase moves to the 100 MHz clock and drops its fraction. -/
  | tbChangeoverToFast
  /-- TB_CHANGEOVER_TO_SLOW (R94). At the first 32.768 kHz edge after a request, the timebase moves to the 32.768 kHz source. -/
  | tbChangeoverToSlow
  /-- TB_RC_FALLBACK (R95). No 32.768 kHz edge for 120 µs: the RC oscillator starts and RCFB is set. -/
  | tbRcFallback
  /-- TB_SOURCE_RESUME (R95). The first external 32.768 kHz edge after a fallback ends the fallback. -/
  | tbSourceResume
  /-- AON_POR (R90). The always-on domain's power-on reset zeroes the timebase and enters Umber mode. -/
  | aonPor
  /-- MOVE (R171). A cell issues a move that reads its source and writes a register, operand socket or predicate. -/
  | move (cell : CellId) (ecc : Ecc)
  /-- SY_ST_WRITE (R327). A write to SY.ST sets EXACT, OVFE, DZE and FPA and may clear SUP. -/
  | syStWrite (cell : CellId) (w : TWord)
  /-- GUARD_RESOLVE (R197). The guard of early-issued moves resolves; false squashes them, true retires them. -/
  | guardResolve (cell : CellId)
  /-- ARITH_OP_COMPLETE (R177). A GA or FX operation completes and may raise an imprecise OVF or DIVZ. -/
  | arithOpComplete (cell : CellId) (fx : Bool)
  /-- GA_ADD (R121). GA adds its operands under the result table. -/
  | gaAdd (cell : CellId) (w : TWord)
  /-- GA_SUB (R121). GA subtracts the second operand from the first. -/
  | gaSub (cell : CellId) (w : TWord)
  /-- GA_MUL (R122). GA multiplies its operands. -/
  | gaMul (cell : CellId) (w : TWord)
  /-- GA_DIV (R123). GA divides the first operand by the second. -/
  | gaDiv (cell : CellId) (w : TWord)
  /-- GA_REM (R133). GA computes the remainder with the sign of the first operand. -/
  | gaRem (cell : CellId) (w : TWord)
  /-- GA_NEG (R124). GA negates its operand. -/
  | gaNeg (cell : CellId) (w : TWord)
  /-- GA_ABS (R124). GA returns the magnitude of its operand. -/
  | gaAbs (cell : CellId) (w : TWord)
  /-- GA_LT (R136). GA compares exactly for less than. -/
  | gaLt (cell : CellId) (w : TWord)
  /-- GA_LE (R136). GA compares exactly for less than or equal. -/
  | gaLe (cell : CellId) (w : TWord)
  /-- GA_GT (R136). GA compares exactly for greater than. -/
  | gaGt (cell : CellId) (w : TWord)
  /-- GA_GE (R136). GA compares exactly for greater than or equal. -/
  | gaGe (cell : CellId) (w : TWord)
  /-- GA_NUMEQ (R136). GA tests numeric equality. -/
  | gaNumeq (cell : CellId) (w : TWord)
  /-- GA_EQ (R137). GA tests identity of tag and payload. -/
  | gaEq (cell : CellId) (w : TWord)
  /-- GA_MIN (R136). GA returns the smaller operand. -/
  | gaMin (cell : CellId) (w : TWord)
  /-- GA_MAX (R136). GA returns the larger operand. -/
  | gaMax (cell : CellId) (w : TWord)
  /-- GA_AND (R126). GA computes bitwise and. -/
  | gaAnd (cell : CellId) (w : TWord)
  /-- GA_OR (R126). GA computes bitwise or. -/
  | gaOr (cell : CellId) (w : TWord)
  /-- GA_XOR (R126). GA computes bitwise exclusive or. -/
  | gaXor (cell : CellId) (w : TWord)
  /-- GA_NOT (R126). GA computes the bitwise complement. -/
  | gaNot (cell : CellId) (w : TWord)
  /-- GA_SHL (R141). GA shifts left by the second operand. -/
  | gaShl (cell : CellId) (w : TWord)
  /-- GA_SHR (R142). GA shifts right arithmetically. -/
  | gaShr (cell : CellId) (w : TWord)
  /-- GA_SHRL (R142). GA shifts right logically. -/
  | gaShrl (cell : CellId) (w : TWord)
  /-- GA_TOFIX (R131). GA converts its operand to FIX. -/
  | gaTofix (cell : CellId) (w : TWord)
  /-- GA_TOFIXQ (R132). GA converts its operand to FIXQ. -/
  | gaTofixq (cell : CellId) (w : TWord)
  /-- GA_TOFLO (R130). GA converts its operand to FLO. -/
  | gaToflo (cell : CellId) (w : TWord)
  /-- FX_ADD (R227). FX adds binary64 values. -/
  | fxAdd (cell : CellId) (w : TWord)
  /-- FX_SUB (R227). FX subtracts binary64 values. -/
  | fxSub (cell : CellId) (w : TWord)
  /-- FX_MUL (R227). FX multiplies binary64 values. -/
  | fxMul (cell : CellId) (w : TWord)
  /-- FX_DIV (R229). FX divides binary64 values. -/
  | fxDiv (cell : CellId) (w : TWord)
  /-- FX_SQRT (R227). FX computes a square root. -/
  | fxSqrt (cell : CellId) (w : TWord)
  /-- FX_FMA (R225). FX computes A × B + C with one rounding. -/
  | fxFma (cell : CellId) (w : TWord)
  /-- FX_MIN (R225). FX computes the IEEE minimum. -/
  | fxMin (cell : CellId) (w : TWord)
  /-- FX_MAX (R225). FX computes the IEEE maximum. -/
  | fxMax (cell : CellId) (w : TWord)
  /-- FX_NEG (R228). FX flips the sign and sets no flag. -/
  | fxNeg (cell : CellId) (w : TWord)
  /-- FX_ABS (R228). FX clears the sign and sets no flag. -/
  | fxAbs (cell : CellId) (w : TWord)
  /-- FX_RINT (R225). FX rounds to an integral FLO under RM. -/
  | fxRint (cell : CellId) (w : TWord)
  /-- FX_TOFIX (R231). FX converts to FIX under RM. -/
  | fxTofix (cell : CellId) (w : TWord)
  /-- FX_FROMFIX (R225). FX converts FIX to FLO under RM. -/
  | fxFromfix (cell : CellId) (w : TWord)
  /-- FX_LT (R230). FX compares for less than. -/
  | fxLt (cell : CellId) (w : TWord)
  /-- FX_LE (R230). FX compares for less than or equal. -/
  | fxLe (cell : CellId) (w : TWord)
  /-- FX_EQ (R230). FX compares for equality. -/
  | fxEq (cell : CellId) (w : TWord)
  /-- FX_UN (R230). FX tests whether either operand is NaN. -/
  | fxUn (cell : CellId) (w : TWord)
  /-- TG_SETTAG (R235). TG makes a word of TG.SETTAGA's payload under a new tag. -/
  | tgSettag (cell : CellId) (w : TWord)
  /-- TG_GETTAG (R233). TG returns a word's tag as FIX. -/
  | tgGettag (cell : CellId) (w : TWord)
  /-- TG_RAW (R233). TG returns the payload as RAW. -/
  | tgRaw (cell : CellId) (w : TWord)
  /-- TG_IS (R233). TG tests a word's tag against TG.ISA. -/
  | tgIs (cell : CellId) (w : TWord)
  /-- TG_CLASS (R234). TG returns the tag class code. -/
  | tgClass (cell : CellId) (w : TWord)
  /-- TG_ISPTR (R233). TG tests for a pointer-class tag. -/
  | tgIsptr (cell : CellId) (w : TWord)
  /-- LX_CAR (R236). LX reads the first field of a pair. -/
  | lxCar (cell : CellId) (w : TWord)
  /-- LX_CDR (R236). LX reads the second field of a pair. -/
  | lxCdr (cell : CellId) (w : TWord)
  /-- LX_REF (R236). LX reads an element of a vector, string or closure. -/
  | lxRef (cell : CellId) (w : TWord)
  /-- LX_LEN (R236). LX returns an object's length. -/
  | lxLen (cell : CellId) (w : TWord)
  /-- LX_UNBOX (R236). LX reads a box's content. -/
  | lxUnbox (cell : CellId) (w : TWord)
  /-- LX_CODE (R249). LX reads a closure's CODE word. -/
  | lxCode (cell : CellId) (w : TWord)
  /-- LX_SETCAR (R236). LX stores a pair's first field. -/
  | lxSetcar (cell : CellId) (w : TWord)
  /-- LX_SETCDR (R236). LX stores a pair's second field. -/
  | lxSetcdr (cell : CellId) (w : TWord)
  /-- LX_SET (R236). LX stores an element of a vector, string or closure. -/
  | lxSet (cell : CellId) (w : TWord)
  /-- LX_SETBOX (R236). LX stores a box's content. -/
  | lxSetbox (cell : CellId) (w : TWord)
  /-- LX_CONS (R420). LX allocates a pair through the CONS routine. -/
  | lxCons (cell : CellId) (w : TWord)
  /-- LX_MKVEC (R420). LX allocates a vector through ALLOC. -/
  | lxMkvec (cell : CellId) (w : TWord)
  /-- LX_MKSTR (R420). LX allocates a string through ALLOC. -/
  | lxMkstr (cell : CellId) (w : TWord)
  /-- LX_MKBOX (R420). LX allocates a box through ALLOC. -/
  | lxMkbox (cell : CellId) (w : TWord)
  /-- LX_MKCLO (R420). LX allocates a closure through ALLOC. -/
  | lxMkclo (cell : CellId) (w : TWord)
  /-- MX_LD (R243). MX loads a word through the read barrier. -/
  | mxLd (cell : CellId) (w : TWord)
  /-- MX_ST (R243). MX stores a word through the write barrier. -/
  | mxSt (cell : CellId) (w : TWord)
  /-- MX_CAS (R244). MX performs an atomic compare-and-swap. -/
  | mxCas (cell : CellId) (w : TWord)
  /-- MX_FENCE (R184). MX waits until earlier stores are performed and loads returned. -/
  | mxFence (cell : CellId) (w : TWord)
  /-- MX_CODEST (R206). MX stores a word into code space. -/
  | mxCodest (cell : CellId) (w : TWord)
  /-- MX_CODELD (R207). MX loads a word from code space as RAW. -/
  | mxCodeld (cell : CellId) (w : TWord)
  /-- MX_SAVE (R306). MX saves the register groups of a mask. -/
  | mxSave (cell : CellId) (w : TWord)
  /-- MX_REST (R307). MX restores the register groups of a mask. -/
  | mxRest (cell : CellId) (w : TWord)
  /-- STORE_PERFORM (R181). A buffered store is accepted by its Larder slice or DRAM. -/
  | storePerform (cell : CellId) (k : Fin 16)
  /-- LATEBUS_FAIL (R352). A buffered store fails and makes LATEBUS pending for its slot. -/
  | latebusFail (cell : CellId) (k : Fin 16)
  /-- BR_JMP (R248). Control continues at a code address. -/
  | brJmp (cell : CellId) (w : TWord)
  /-- BR_CALL (R279). A call takes the next window and continues at the target. -/
  | brCall (cell : CellId) (w : TWord)
  /-- BR_RET (R281). A return frees the window and resumes the caller. -/
  | brRet (cell : CellId) (w : TWord)
  /-- BR_TRET (R283). A dispatch handler returns its result into GA.RES. -/
  | brTret (cell : CellId) (w : TWord)
  /-- BR_ENTER (R382). A supervisor gate is entered through the gate table. -/
  | brEnter (cell : CellId) (w : TWord)
  /-- BR_RESYNC (R211). The cell discards its fetch buffer. -/
  | brResync (cell : CellId) (w : TWord)
  /-- BR_SPAWN (R502). A sprig is created in a free or reclaimed slot. -/
  | brSpawn (cell : CellId) (w : TWord)
  /-- BR_CANCEL (R503). A live sprig is cancelled with exit value UNB payload 3. -/
  | brCancel (cell : CellId) (w : TWord)
  /-- BR_YIELD (R516). The sprig returns the cell and stays ready. -/
  | brYield (cell : CellId) (w : TWord)
  /-- BR_EXIT (R501). The sprig ends with the written exit value. -/
  | brExit (cell : CellId) (w : TWord)
  /-- BR_SPECULATE (R531). An epoch is opened and delivered as FIX. -/
  | brSpeculate (cell : CellId) (w : TWord)
  /-- BR_ECONFIRM (R549). The opener requests confirmation of an epoch. -/
  | brEconfirm (cell : CellId) (w : TWord)
  /-- BR_ESQUASH (R556). The opener requests a squash of an epoch. -/
  | brEsquash (cell : CellId) (w : TWord)
  /-- EV_WAIT (R262). The cell takes pending events in a mask or waits for one. -/
  | evWait (cell : CellId) (w : TWord)
  /-- EV_UNTIL (R263). The cell waits for an event or a timebase stamp. -/
  | evUntil (cell : CellId) (w : TWord)
  /-- EV_SEND (R267). An event mask is sent to a sprig or to a range of cells. -/
  | evSend (cell : CellId) (w : TWord)
  /-- EV_CLR (R261). Pending event bits are cleared and reported. -/
  | evClr (cell : CellId) (w : TWord)
  /-- WAIT_WAKE (R265). An event arrives for a waiting sprig or cell, which becomes ready or resumes. -/
  | waitWake (w : Waiter)
  /-- UNTIL_STAMP_REACHED (R263). The stamp of a waiting EV.UNTIL is reached and the wait completes with EVT 0. -/
  | untilStampReached (w : Waiter)
  /-- EVTO (R266). A handler-level wait or stall lasts 20 µs and raises EVTO. -/
  | evto (cell : CellId)
  /-- RESYNC_EVENT (R211). A cell receives the RESYNC cell event and discards its fetch buffer. -/
  | resyncEvent (cell : CellId)
  /-- SY_CPSET (R208). The state of the page named in SY.CPAGE is set to EXEC or PATCH. -/
  | syCpset (cell : CellId) (w : TWord)
  /-- CPSET_PATCH_COMPLETE (R209). A PATCH request completes once no fetch or cache holds the page. -/
  | cpsetPatchComplete (page : Nat)
  /-- SY_HOLD (R361). A hold window is opened or closed. -/
  | syHold (cell : CellId) (w : TWord)
  /-- HOLD_MOVE_BOUND (R363). The n-th move after a hold opens retires, ending the hold. -/
  | holdMoveBound (cell : CellId)
  /-- HOLD_TIME_BOUND (R363). 2 µs pass after a hold opens, ending the hold. -/
  | holdTimeBound (cell : CellId)
  /-- SY_RETI (R347). The handler leaves its level and the interrupted level resumes. -/
  | syReti (cell : CellId) (w : TWord)
  /-- SY_CONFIRM (R911). Supervisor software hands a trial-boot confirm to the Warden. -/
  | syConfirm (cell : CellId) (w : TWord)
  /-- SY_SYSLD (R932). The Warden loads 4 or 8 bytes from its system space. -/
  | sySysld (cell : CellId) (w : TWord) (ecc : Ecc)
  /-- SY_SYSST4 (R932). The Warden stores 4 bytes into its system space. -/
  | sySysst4 (cell : CellId) (w : TWord)
  /-- SY_SYSST8 (R932). The Warden stores 8 bytes into its system space. -/
  | sySysst8 (cell : CellId) (w : TWord)
  /-- IRQ_ARRIVE (R371). An interrupt packet reaches a cell and sets its pending bit. -/
  | irqArrive (cell : CellId)
  /-- INTERRUPT_ENTRY (R341). A pending interrupt, LATEBUS or NMI becomes takeable and the cell enters its level. -/
  | interruptEntry (cell : CellId)
  /-- NMI_PIN_EDGE (R375). The filter accepts a falling edge of NMI_N and NMI is delivered. -/
  | nmiPinEdge
  /-- IRQ_RAISE_WRITE (R374). The Warden raises IRQ 24 + NUM through ALM_IRQ_RAISE. -/
  | irqRaiseWrite (req : Req) (num : Fin 8) (payload : BitVec 24)
  /-- MC_WRITE (R427). A microword is written to all 16 control stores. -/
  | mcWrite (req : Req)
  /-- MC_READ (R429). A microword of one grove is read back into the data registers. -/
  | mcRead (req : Req) (grove : Grove)
  /-- MC_PATCH (R430). A microword is patched in Cobalt mode with cells held. -/
  | mcPatch (req : Req)
  /-- MC_SCRUB (R390). Each 4 ms the scrubber visits every microword and corrects or reports errors. -/
  | mcScrub (upsets : List (Fin 16 × Fin 4096 × Bool))
  /-- MCABORT_RUNAWAY (R414). A routine runs 65 536 microwords before commit and ends with MCABORT reason 7. -/
  | mcabortRunaway (cell : CellId) (addr : Fin 4096)
  /-- SPN_LOCK (R668). Setting SPN_CTL.LOCK builds the heap ledger and creates the Painter ports. -/
  | spnLock (req : Req)
  /-- SLAB_REFILL (R447). The Spinner answers a refill request with a free granule. -/
  | slabRefill
  /-- LARGE_ALLOC (R450). The Spinner serves a large-object request with a run of pages. -/
  | largeAlloc
  /-- HEAP_EXHAUSTED (R451). The Spinner answers a waiting request as exhausted. -/
  | heapExhausted
  /-- GC_START_CMD (R462). A write of SPN_GC_CMD.START requests a collection cycle. -/
  | gcStartCmd (req : Req)
  /-- GC_PERIOD_EXPIRE (R462). The cycle period elapses and a cycle starts. -/
  | gcPeriodExpire
  /-- ROOT_SCAN_PAUSE (R465). A Gleaner scans a cell's roots in a pause at a level-0 boundary. -/
  | rootScanPause (cell : CellId)
  /-- GLEANER_SCAN_OBJECT (R469). A Gleaner takes a grey-queue entry, shades its referents and blackens it. -/
  | gleanerScanObject (grove : Grove)
  /-- GREY_QUEUE_STEAL (R470). An idle Gleaner takes entries from the fullest other grey queue. -/
  | greyQueueSteal (grove : Grove)
  /-- GC_MARK_TERMINATE (R471). The Gleaners agree that marking is complete and MARK ends. -/
  | gcMarkTerminate
  /-- GC_RELOCATE_OBJECT (R472). A Gleaner moves a marked, non-excused object out of a condemned page. -/
  | gcRelocateObject (page : Nat)
  /-- GC_SWEEP_PAGE (R473). A Gleaner turns white objects and old copies of a page into filler. -/
  | gcSweepPage (page : Nat)
  /-- GC_SELECT (R474). The Gleaners choose the next condemned set and the cycle ends. -/
  | gcSelect
  /-- PIN_OBJECT (R446). The Spinner pins the object named in SPN_PIN_L and SPN_PIN_H. -/
  | pinObject (req : Req)
  /-- UNPIN_OBJECT (R446). The Spinner unpins the object, making it black. -/
  | unpinObject (req : Req)
  /-- PAGE_IN_REQUEST (R477). An access to a non-resident page queues a request to its Ferryman. -/
  | pageInRequest (grove : Grove) (page : Nat)
  /-- PAGE_IN_COMPLETE (R480). A Ferryman completes a page-in into a bin. -/
  | pageInComplete (f : Fin 4) (bad : Bool)
  /-- PAGE_WRITE_BACK (R479). A written victim page is written back before its bin is reused. -/
  | pageWriteBack (f : Fin 4)
  /-- BIN_WAIT_TIMEOUT (R482). Every bin is pinned or in transit for 20 µs and the load raises BINX. -/
  | binWaitTimeout (cell : CellId)
  /-- FRY_PIN_WRITE (R481). A FRY_PINn entry pins or releases a page's bin. -/
  | fryPinWrite (req : Req) (n : Fin 32) (v : W32)
  /-- SPRIG_PLACE (R512). The Shepherd places the highest-ranked ready sprig on a free cell. -/
  | sprigPlace (grove : Grove)
  /-- SPRIG_PREEMPT (R514). A higher-priority ready sprig preempts the lowest-ranked running one. -/
  | sprigPreempt (grove : Grove)
  /-- SLICE_EXPIRE (R515). A sprig's time slice ends and it is preempted for an equal or higher rank. -/
  | sliceExpire (cell : CellId)
  /-- SPRIG_STEAL (R517). A free cell steals a ready sprig from the busiest grove. -/
  | sprigSteal (grove : Grove)
  /-- DEADLINE_MISS (R526). The timebase reaches a DEADLINE sprig's deadline and DLMISS is sent. -/
  | deadlineMiss (n : Fin 4096)
  /-- APPLY_MARGIN_EXPIRE (R528). At the margin before a lock point, the Shepherd applies or defers an APPLY. -/
  | applyMarginExpire (ring : Fin 16) (out : Fin 2)
  /-- EPOCH_CONFIRM_INSTANT (R549). An epoch's effects become its parent's or ivory at one stamped instant. -/
  | epochConfirmInstant
  /-- LOG_WRITE_BACK (R554). After a confirm into ivory, a log entry's new word is written to memory. -/
  | logWriteBack
  /-- EPOCH_SQUASH_COMPLETE (R560). A squash completes, discarding the epoch's sprigs, logs, granules and tiles. -/
  | epochSquashComplete
  /-- TALLY_REPORT (R581). The Tally checks a block's report against its ledger terms. -/
  | tallyReport
  /-- TALLY_AUDIT (R583). Each audit period the Tally compares keepers' counts and equations. -/
  | tallyAudit
  /-- PCIE_LINK_UP (R599). The PCIe link trains and enters L0. -/
  | pcieLinkUp
  /-- PCIE_LINK_DOWN (R947). The PCIe link leaves L0 and PCIE_DOWN is raised. -/
  | pcieLinkDown
  /-- PCIE_RESET (R652). A function level reset, hot reset or link-down drains every ring. -/
  | pcieReset
  /-- CMD_PI_DOORBELL (R610). The host writes CMD_PIn to make descriptors ready. -/
  | cmdPiDoorbell (ring : Fin 16) (v : BitVec 16) (aci : Option (BitVec 16)) (host : List (Nat × BitVec 8))
  /-- ANS_CI_DOORBELL (R603). The host writes ANS_CIn to release consumed answers. -/
  | ansCiDoorbell (ring : Fin 16) (v : BitVec 16)
  /-- EVT_CI_DOORBELL (R603). The host writes EVT_CI for the event ring. -/
  | evtCiDoorbell (v : BitVec 16)
  /-- LOG_CI_DOORBELL (R603). The host writes LOG_CI for the log ring. -/
  | logCiDoorbell (v : BitVec 16)
  /-- DESCRIPTOR_CONSUME (R611). The endpoint reads and consumes the next ready descriptor of a ring. -/
  | descriptorConsume (ring : Fin 16) (err : Bool)
  /-- NOP (R622). NOP is answered OK. -/
  | nop (ring : Fin 16)
  /-- SIGNALS (R625). SIGNALS stores values into the signal table and notifies the service sprig. -/
  | signals (ring : Fin 16)
  /-- SCENE (R629). SCENE copies a scene graph into the heap and hands it to firmware. -/
  | scene (ring : Fin 16) (err : Bool)
  /-- SCENE_HANDOFF (R632). A copied graph is stored in an inbox record and EVOSER_CMD is sent. -/
  | sceneHandoff (ring : Fin 16)
  /-- INBOX_ANSWER (R633). Firmware's store to an inbox record's state is performed and the answer is written. -/
  | inboxAnswer (record : Fin 256)
  /-- PICTURE (R636). PICTURE copies host pixels into guest-plane tiles. -/
  | picture (ring : Fin 16) (err : Bool)
  /-- PICTURE_COPY_COMPLETE (R693). The guest tiles are written and become ivory for the next lock point. -/
  | pictureCopyComplete (ring : Fin 16)
  /-- LAMPREQ (R627). LAMPREQ sets and clears host flags and answers after the commit. -/
  | lampreq (ring : Fin 16)
  /-- STAGE (R637). STAGE adds register writes to the ring's staged set. -/
  | stage (ring : Fin 16)
  /-- APPLY (R639). APPLY takes the staged set to a frame lock point. -/
  | apply (ring : Fin 16)
  /-- IMAGE (R644). IMAGE hands an image to the Warden for install or recovery boot. -/
  | image (ring : Fin 16)
  /-- CONFIRM (R645). CONFIRM confirms a running trial boot. -/
  | confirm (ring : Fin 16)
  /-- QUERY (R646). QUERY returns the selected status values. -/
  | query (ring : Fin 16)
  /-- PROOF (R647). PROOF is answered with the next proof frame's content. -/
  | proof (ring : Fin 16)
  /-- DRAINLOG (R624). DRAINLOG is answered once earlier log entries are written or lost. -/
  | drainlog (ring : Fin 16)
  /-- FENCE (R623). FENCE is answered once earlier commands are answered. -/
  | fence (ring : Fin 16)
  /-- RING_ENABLE (R650). Setting EVR_RCTLn.EN enables a command ring and grants credit. -/
  | ringEnable (req : Req) (ring : Fin 16) (k : Fin 32)
  /-- RING_DRAIN (R651). Clearing EVR_RCTLn.EN starts a drain of the ring. -/
  | ringDrain (req : Req) (ring : Fin 16)
  /-- RING_DRAIN_COMPLETE (R651). Every consumed descriptor has been answered and ACTIVE clears. -/
  | ringDrainComplete (ring : Fin 16)
  /-- PAINTER_TAKE_JOB (R671). The Painters take a job from a port slot. -/
  | painterTakeJob (port : Fin 16)
  /-- TILE_COMPLETE (R674). A Painter finishes a tile and marks it DONE. -/
  | tileComplete (painter : Fin 8)
  /-- FRAME_LOCK (R687). At an output's lock point the Mirror latches tiles, applies staged sets and frees tiles. -/
  | frameLock (out : Fin 2)
  /-- SCANOUT_UNDERRUN (R692). A tile cannot be fetched in time and the background colour is shown. -/
  | scanoutUnderrun (out : Fin 2) (col row : Fin 256)
  /-- OUTPUT_ENABLE (R699). Setting MIR_CTLn.EN checks timing and link and trains the output. -/
  | outputEnable (req : Req) (out : Fin 2)
  /-- EDP_HPD_IRQ (R697). An HPD interrupt retrains OUT-A's link. -/
  | edpHpdIrq (level : Bool)
  /-- DCS_SEND (R701). A DCS packet is queued for sending to the OUT-B panel. -/
  | dcsSend (req : Req)
  /-- DCS_SENT (R701). The DCS packet is sent in a vertical blank and BUSY clears. -/
  | dcsSent
  /-- LAMP_STORE_WRITE (R709). A write of LMP_LDDATA stores 4 bytes into the lamp store. -/
  | lampStoreWrite (req : Req) (v : W32)
  /-- LAMP_ARM (R713). Setting LMP_CTL.ARM starts the lamp book checks. -/
  | lampArm (req : Req)
  /-- LAMP_BOOK_CHECKS_DONE (R713). The book checks end and the engine arms with the book or the ROM set. -/
  | lampBookChecksDone
  /-- LAMP_PASS (R720). The Lamp engine evaluates all 64 lamps from a snapshot. -/
  | lampPass
  /-- LAMP_MINON_EXPIRE (R721). A HOLD lamp's minimum active time expires. -/
  | lampMinonExpire (lamp : Fin 64)
  /-- BULB_CHECK_END (R724). The bulb check period ends. -/
  | bulbCheckEnd
  /-- LAMP_DEBOUNCE_EXPIRE (R717). A GPIO pin's lamp input changes after its debounce time. -/
  | lampDebounceExpire (pin : Fin 32)
  /-- LAMP_UNLATCH (R722). The Warden requests unlatching of lamps. -/
  | lampUnlatch (req : Req) (hi : Bool) (v : W32)
  /-- CFLAG_SET (R718). The Warden sets cell flags. -/
  | cflagSet (req : Req) (hi : Bool) (v : W32)
  /-- CFLAG_CLR (R718). The Warden clears cell flags. -/
  | cflagClr (req : Req) (hi : Bool) (v : W32)
  /-- LAMP_BOX_START (R708). At a box start the Lantern plane samples the lamp's state and blink phase. -/
  | lampBoxStart (lamp : Fin 64)
  /-- WITNESS_BOX_COMPARE (R728). After a box's last pixel the Witness compares A, B and the expected signature. -/
  | witnessBoxCompare (lamp : Fin 64) (ua ub : W32)
  /-- LAMP_STALE (R729). A lamp's box has not completed a comparison for 2 frame periods. -/
  | lampStale (lamp : Fin 64)
  /-- WITNESS_SELF_TEST (R732). In a vertical blank comparator B is checked against the test block. -/
  | witnessSelfTest (out : Fin 2) (ub : W32)
  /-- PROOF_FRAME_PERIODIC (R736). At each proof period the Witness sends an authenticated proof frame. -/
  | proofFramePeriodic
  /-- BACKUP_LED_UPDATE (R744). A backup LED driver changes as its lamp condition changes. -/
  | backupLedUpdate
  /-- LED_TEST_PULSE (R745). Every 100 ms an unlit driver is pulsed and checked for open or short. -/
  | ledTestPulse (driver : Fin 16) (reaches : Bool) (volts : Nat)
  /-- ADC_REF_READY (R753). The reference becomes ready 150 µs after REFEN is set. -/
  | adcRefReady
  /-- ADC_SWTRIG (R759). A write of ADC_SWTRIGk.START triggers the sequence. -/
  | adcSwtrig (req : Req) (k : Fin 3)
  /-- ADC_TRIG_EDGE (R760). An ADC_TRIGn pin edge triggers sequences and urgent slots. -/
  | adcTrigEdge (pin : Fin 4) (rising : Bool)
  /-- ADC_PERIOD_TRIGGER (R759). The timebase reaches a multiple of the converter period and triggers a sequence. -/
  | adcPeriodTrigger (k : Fin 3)
  /-- ADC_URGENT_GO (R763). A write of GO requests an urgent conversion. -/
  | adcUrgentGo (req : Req) (k : Fin 3) (slot : Fin 4)
  /-- ADC_CONVERSION_COMPLETE (R751). A conversion ends and its result is stored and passed on. -/
  | adcConversionComplete (k : Fin 3) (v : Int)
  /-- ADC_RECOVERY_END (R777). A converter's recovery window after an out-of-range input ends. -/
  | adcRecoveryEnd (k : Fin 3)
  /-- ADC_COMPARATOR_STALE (R784). No counted result arrives for AGE and the comparator takes STALEVAL. -/
  | adcComparatorStale (c : Fin 48)
  /-- ADC_FIFO_READ (R769). A read of ADC_FIFO pops the oldest entry. -/
  | adcFifoRead (req : Req)
  /-- ADC_DMA_TRANSFER (R772). The DMA path moves a FIFO entry into the heap buffer. -/
  | adcDmaTransfer
  /-- ADC_DISABLE (R787). Clearing ADC_CTLk.EN abandons the conversion and discards pending requests. -/
  | adcDisable (req : Req) (k : Fin 3)
  /-- VIO_TAKE_REQUEST (R792). A controller takes a request from its port. -/
  | vioTakeRequest (port : Fin 12)
  /-- CAN_SEND (R803). A SEND request queues a CAN frame for transmission. -/
  | canSend (ctrl : Fin 4)
  /-- LIN_FRAME (R812). A FRAME request sends a LIN header and publishes or subscribes. -/
  | linFrame (ctrl : Fin 2)
  /-- LIN_WAKEUP (R794). A WAKEUP request sends a LIN wake-up signal. -/
  | linWakeup (ctrl : Fin 2)
  /-- GPIO_PINS (R794). A PINS request sets and clears GPIO outputs. -/
  | gpioPins
  /-- PWM_DUTY (R794). A DUTY request sets a PWM channel's duty. -/
  | pwmDuty
  /-- I3C_XFER (R794). An XFER request runs an I3C or I2C transfer. -/
  | i3cXfer (ctrl : Fin 2)
  /-- SPI_XFER (R794). An XFER request runs an SPI transfer. -/
  | spiXfer (ctrl : Fin 2)
  /-- UART_SEND (R794). A SEND request transmits bytes on the UART. -/
  | uartSend
  /-- VIO_REQUEST_COMPLETE (R795). A controller writes a request's status and sends VIO_DONE. -/
  | vioRequestComplete (port : Fin 12) (how : VioEnd) (data : List (BitVec 8))
  /-- CAN_TX_COMPLETE (R803). A CAN frame reaches its end and its SEND completes. -/
  | canTxComplete (ctrl : Fin 4)
  /-- CAN_FRAME_RECEIVE (R806). A valid CAN frame is received and filtered into the ring. -/
  | canFrameReceive (ctrl : Fin 4) (f : CanFrame)
  /-- LISTENER_TIMEOUT (R811). A slot accepts no frame for TIMEOUT ms and takes DEFAULT. -/
  | listenerTimeout (slot : Fin 128)
  /-- CAN_BUS_OFF (R805). A controller enters bus-off and fails its held requests. -/
  | canBusOff (ctrl : Fin 4)
  /-- CAN_RECOVER (R800). A write of RECOVER starts bus-off recovery. -/
  | canRecover (req : Req) (ctrl : Fin 4)
  /-- CAN_BUSOFF_RECOVERY (R800). Bus-off recovery completes after 128 occurrences of 11 recessive bits. -/
  | canBusoffRecovery (ctrl : Fin 4)
  /-- LIN_HEADER_RX (R812). A responder receives a header and answers from its response entries. -/
  | linHeaderRx (ctrl : Fin 2) (id : Fin 64) (inSync : Bool) (seen : LinSeen)
  /-- LIN_RESPONSE_TIMEOUT (R813). No complete response arrives in time and the subscribe fails with status 5. -/
  | linResponseTimeout (ctrl : Fin 2)
  /-- LIN_WAKEUP_RX (R812). A LIN controller receives a wake-up signal. -/
  | linWakeupRx (ctrl : Fin 2)
  /-- GPIO_EDGE (R814). A filtered GPIO input changes and may raise IRQ11. -/
  | gpioEdge (pin : Fin 32)
  /-- GPIO_SET_WRITE (R814). A write of VIO_GPIO_SET sets outputs. -/
  | gpioSetWrite (req : Req) (v : W32)
  /-- GPIO_CLR_WRITE (R814). A write of VIO_GPIO_CLR clears outputs. -/
  | gpioClrWrite (req : Req) (v : W32)
  /-- PWM_PERIOD_START (R815). A PWM period ends and the next starts, applying EDGE fields. -/
  | pwmPeriodStart (ch : Fin 8)
  /-- UART_RX_BYTE (R796). The UART receives a byte into its open record. -/
  | uartRxByte (b : BitVec 8) (parity framing : Bool)
  /-- UART_IDLE_CLOSE (R796). The line idles for 2 character times and the UART closes its record. -/
  | uartIdleClose
  /-- I3C_IBI (R816). An I3C in-band interrupt is accepted and reported through IRQ12. -/
  | i3cIbi (ctrl : Fin 2) (addr : BitVec 7)
  /-- I3C_DAA (R823). A write of GO runs dynamic address assignment. -/
  | i3cDaa (req : Req) (ctrl : Fin 2)
  /-- WAKE_ACCEPT (R819). A WAKE filter accepts a wake and starts an Ochre entry. -/
  | wakeAccept (n : Fin 4)
  /-- PG_ALL_HIGH (R851). All PG inputs go high during an Ochre entry and the switched domain starts. -/
  | pgAllHigh
  /-- PG_WAIT_TIMEOUT (R852). PG inputs are not all high after PWR_PGWAIT.MS and the chip returns to Umber. -/
  | pgWaitTimeout
  /-- PG_FALL (R844). A PG input falls and causes an emergency park. -/
  | pgFall (which : Fin 3)
  /-- PMIC_INT (R826). PMIC_INT_N goes low and PMIC_INT is raised. -/
  | pmicInt (low : Bool)
  /-- PMIC_SCRIPT (R829). The mode controller runs a PMIC script over I2C. -/
  | pmicScript (nack : Option (Fin 8))
  /-- SYS_RST (R828). SYS_RST_N is held low for 1 µs and causes a chip reset. -/
  | sysRst
  /-- VCORE_VLOW (R835). VDD_CORE crosses the VLOW threshold and shed level 3 is required or released. -/
  | vcoreVlow (mv : Nat)
  /-- VCORE_FAIL (R836). VDD_CORE falls below 0.57 V and the chip parks. -/
  | vcoreFail
  /-- VCORE_OVER (R835). VDD_CORE rises above 0.93 V and the chip parks. -/
  | vcoreOver
  /-- VSRAM_FAIL (R835). VDD_SRAM leaves its fixed window and the chip parks. -/
  | vsramFail
  /-- VAON_POR (R846). VDD_AON falls below 0.65 V and the chip enters Sable mode. -/
  | vaonPor
  /-- KL30_MICRO_EXPIRE (R838). KL30 stays LOW for PWR_KLTIME.MICRO and shed level 2 is required. -/
  | kl30MicroExpire
  /-- KL30_OV_EXPIRE (R838). KL30 stays HIGH for PWR_KLTIME.OV and shed level 2 is required. -/
  | kl30OvExpire
  /-- SHED_RECOVER_EXPIRE (R840). Conditions for a higher level are absent for RECOVER ms and the level falls. -/
  | shedRecoverExpire
  /-- TEMP_SAMPLE (R859). Every 100 µs the sensors report and HOT, CRIT or a trip are decided. -/
  | tempSample (t : Int)
  /-- MODECMD_PARK (R853). The Warden requests an orderly park into Umber mode. -/
  | modecmdPark (req : Req) (nack : Option (Fin 8))
  /-- MODECMD_RESET (R858). The Warden requests a chip reset. -/
  | modecmdReset (req : Req)
  /-- MODECMD_SAFFRON (R846). The Warden requests Saffron mode from Ochre. -/
  | modecmdSaffron (req : Req)
  /-- MODECMD_IVORY (R966). The Warden requests Ivory or Slate mode from Vermilion. -/
  | modecmdIvory (req : Req)
  /-- MODECMD_COBALT (R846). The Warden requests Cobalt mode. -/
  | modecmdCobalt (req : Req)
  /-- PARK_HOLD_END (R856). 10 ms after a park, a pending wake may start an Ochre entry. -/
  | parkHoldEnd
  /-- GKP_DERIVE (R883). The Gatekeeper derives a key into a slot. -/
  | gkpDerive (req : Req) (slot : Fin 8)
  /-- GKP_UNWRAP (R884). The Gatekeeper unwraps a key blob into a slot. -/
  | gkpUnwrap (req : Req) (slot : Fin 8)
  /-- GKP_ERASE (R887). The Gatekeeper clears a key slot, deferred while busy. -/
  | gkpErase (req : Req) (slot : Fin 8)
  /-- GKP_LOADPUB (R885). The Gatekeeper loads K4 and checks it against the fuses. -/
  | gkpLoadpub (req : Req) (slot : Fin 8)
  /-- GKP_HMAC (R890). The Gatekeeper computes an HMAC-SHA-256. -/
  | gkpHmac (req : Req) (slot : Fin 8)
  /-- GKP_HMACV (R890). The Gatekeeper verifies an HMAC-SHA-256. -/
  | gkpHmacv (req : Req) (slot : Fin 8)
  /-- GKP_CMAC (R890). The Gatekeeper computes an AES-128-CMAC. -/
  | gkpCmac (req : Req) (slot : Fin 8)
  /-- GKP_SHA (R890). The Gatekeeper computes a SHA-256. -/
  | gkpSha (req : Req) (slot : Fin 8)
  /-- GKP_ECDSAV (R890). The Gatekeeper verifies an ECDSA signature under K4. -/
  | gkpEcdsav (req : Req) (slot : Fin 8)
  /-- GKP_EXTEND (R892). The Gatekeeper extends a measurement register. -/
  | gkpExtend (req : Req) (slot : Fin 8)
  /-- GKP_QUOTE (R894). The Gatekeeper computes an attestation quote under K5. -/
  | gkpQuote (req : Req) (slot : Fin 8)
  /-- GKP_INSTALL (R915). The Gatekeeper verifies, binds and writes an image into a slot. -/
  | gkpInstall (req : Req) (slot : Fin 8)
  /-- GKP_RBOOT (R922). The Gatekeeper verifies and loads a recovery image. -/
  | gkpRboot (req : Req) (slot : Fin 8)
  /-- GKP_SVNUP (R917). The Gatekeeper raises the version floor. -/
  | gkpSvnup (req : Req) (slot : Fin 8)
  /-- GKP_OP_COMPLETE (R891). A Gatekeeper operation completes and its result is posted. -/
  | gkpOpComplete (flashOk : Bool)
  /-- GKP_ZEROIZE (R888). A Warden write of GKP_ZEROIZE clears every key slot. -/
  | gkpZeroize (req : Req)
  /-- TAMPER_DETECT (R888). A tamper cause zeroizes the keys and raises GKP_TAMPER. -/
  | tamperDetect
  /-- STREAM_START (R896). A write of GKP_SCTL.GO starts the Stage-2 stream. -/
  | streamStart (req : Req)
  /-- STREAM_SECTION_DONE (R896). The stream engine finishes a section and checks its tag. -/
  | streamSectionDone
  /-- TRIAL_WATCHDOG_EXPIRE (R910). The trial watchdog expires and a chip reset is requested. -/
  | trialWatchdogExpire
  /-- WARDEN_LOCKSTEP_MISMATCH (R925). The Warden pair diverges and WARDEN_LOCK is raised. -/
  | wardenLockstepMismatch
  /-- WDOG_KICK (R928). A write of ALM_WDOG.KICK advances or completes the kick sequence. -/
  | wdogKick (req : Req) (v : BitVec 8)
  /-- WARDEN_WDOG_EXPIRE (R928). The Warden watchdog reaches PERIOD and WARDEN_WDOG is raised. -/
  | wardenWdogExpire
  /-- ALM_SWRAISE (R948). The Warden raises a software alarm source. -/
  | almSwraise (req : Req) (num : Fin 16)
  /-- ALM_PEND_CLEAR (R944). Clearing a source's PEND bit also zeroes its COUNT. -/
  | almPendClear (req : Req) (word : Fin 4) (mask : W32)
  /-- WIT_STATUS_CLEAR (R967). A write clearing WIT_STATUS.AB or STEST is accepted only in Vermilion mode. -/
  | witStatusClear (req : Req) (mask : W32)
  /-- LARDER_SCRUB (R952). The Larder scrubber visits resident bins and corrects or poisons words. -/
  | larderScrub (upsets : List (Nat × Bool))
  /-- DRAM_PATROL (R954). The DRAM patrol scrubber reads and corrects the DRAM areas. -/
  | dramPatrol (finds : List (Nat × Bool))
  /-- CELL_RELEASE (R958). The Warden releases a quarantined cell and its self-test starts. -/
  | cellRelease (req : Req) (c : Fin 256)
  /-- CELL_SELF_TEST_DONE (R959). The release self-test ends; the cell starts or stays quarantined. -/
  | cellSelfTestDone (pass : Bool)
  /-- DDR_TRAIN (R935). A write of PLT_DDR_CMD.TRAIN starts LPDDR4X initialisation and training. -/
  | ddrTrain (req : Req)
  /-- DDR_TRAIN_DONE (R935). Training ends with READY or FAIL. -/
  | ddrTrainDone (fail : Option (Fin 7 × Fin 2))
  /-- XSPI_ENABLE (R937). Setting PLT_XSP_CTL.EN brings up the flash and reads SFDP. -/
  | xspiEnable (req : Req) (sfdp : Option (BitVec 16))
  /-- XSPI_ERASE_4K (R937). The flash controller erases a 4 KiB sector. -/
  | xspiErase4k (req : Req)
  /-- XSPI_ERASE_64K (R937). The flash controller erases a 64 KiB sector. -/
  | xspiErase64k (req : Req)
  /-- XSPI_PROGRAM (R937). The flash controller programs bytes from its buffer. -/
  | xspiProgram (req : Req)
  /-- XSPI_CMD_DONE (R937). A flash erase or program completes with DONE or ERR. -/
  | xspiCmdDone (err : Bool) (left : List (BitVec 8))
  /-- TIMEBASE_TICK (R91). The timebase advances on an edge of the 100 MHz timebase clock, or on an edge of the 32.768 kHz source or RC fallback, and the WAKE filters take their sample on the 32.768 kHz edge. -/
  | timebaseTick (wake : BitVec 4)
  /-- STREAM_PAGE_WRITTEN (R897). The stream engine finishes writing one code or image-region page of a Stage-2 section, turning a code page to EXEC and releasing page-ins that wait on it. -/
  | streamPageWritten
  /-- CONCURRENT_ROOT_SCAN (R468). A Gleaner scans, without a pause, a root of items 2 to 6 of R464: a context record, the root vector, an ochre object, a logged word or a registered pointer. -/
  | concurrentRootScan (root : Root)
  /-- CAN_ERROR_PASSIVE (R821). Bus errors move a CAN FD controller's error counters across the error-passive limit, changing PASSIVE and raising IRQ9 with reason 2. -/
  | canErrorPassive (ctrl : Fin 4) (tec rec' : BitVec 8)
  /-- I3C_DAA_COMPLETE (R823). A dynamic address assignment run ends, setting COUNT, clearing BUSY and letting waiting port requests proceed. -/
  | i3cDaaComplete (ctrl : Fin 2) (n : Fin 32)
  /-- OUTPUT_LINKUP (R697). An output's link training or retraining ends, MIR_STATUSn.LINKUP sets and the output starts streaming frames. -/
  | outputLinkup (out : Fin 2)
  /-- GPIO_LEVEL_CHANGE (R717). The raw level of a GPIO pin changes, restarting the stability clocks of its FILT input filter and of its lamp debounce. -/
  | gpioLevelChange (pin : Fin 32) (level : Bool)
  deriving DecidableEq, Repr

end Sys2Proof
end

