-- ==== Sys2Proof/Decode.lean ====
section
/-!
DEFINITION. The rows of the opcode table give no bits: no word spells a command.
-/
namespace Sys2Proof

/-- The command a word spells by the table's bits: none, since no row of the table gives bits. -/
def decodeTableWord (nbits w : Nat) : Option Instr :=
  match nbits, w with
  | _, _ => none

end Sys2Proof
end

