-- ==== Sys2Proof/Config.lean ====
section
/-!
DEFINITION. What an implementation fixes and the values the spec leaves open. Every opaque constant has no body: no
proof can see its value, so a statement holds whatever it is.
-/
namespace Sys2Proof

/-- A fresh free value: the n-th value the machine takes where the spec leaves one undefined (log entry 2). -/
opaque Config.freeWord : Nat → W64

/-- Whether FX.FMA signals invalid for 0 times infinity plus a quiet NaN; IEEE 754-2019 leaves it to the
implementation (log entry 14). -/
opaque Config.fmaQuietInvalid : Bool

/-- The bytes of the Warden's mask ROM, which holds Stage-0 (log entry 21). -/
opaque Config.maskRom : Nat → Byte

/-- The bytes of the ROM lamp set that 14 R714 does not fix (log entry 11). -/
opaque Config.romByte : Nat → Byte

/-- The device root K0, held in fuses (18 R882; log entry 63). -/
opaque Config.deviceRoot : BitVec 256

/-- The carmaker key hash held in fuses (18 R885; log entry 63). -/
opaque Config.carmakerHash : BitVec 256

/-- The OCTAL fuse (18 R866; log entry 63). -/
opaque Config.octalFuse : Bool

/-- Bytes of the trims section in the trim store, whose layout the spec does not give (log entry 59). -/
opaque Config.trimLength : Nat

/-- Tags of what the micro selectors SLABPTR, SLABEND and MLREM deliver, which the spec does not give (log entry 145). -/
opaque Config.microTag : Nat → BitVec 6

/-- The subsystem vendor ID and subsystem ID, held in fuses (12 R595; log entry 63). -/
opaque Config.subsystemFuses : W32

/-- The debug fuse: BAR4 is not implemented where it is blown (12 R597; log entry 63). -/
opaque Config.debugFuse : Bool

/-- What the debug window shows of a bin that holds no resident page (12 R597; log entry 132). -/
opaque Config.emptyBin : Nat → Nat → TWord

end Sys2Proof
end

