-- ==== Sys2Proof/Machine/Memory.lean ====
section
/-!
DEFINITION. Byte memories in canonical form: addresses strictly rising, no entry equal to what an unlisted address
reads as.
-/
namespace Sys2Proof.Machine

/-- The canonical form, for a memory whose unlisted addresses read d. -/
def Memory.wf (d : Byte) (m : List Host.Cell) : Bool := AMap.wf d m

/-- The byte at an address. -/
def Memory.read (d : Byte) (m : List Host.Cell) (a : Nat) : Byte := AMap.get d m a

/-- Write one byte. -/
def Memory.write (d : Byte) (m : List Host.Cell) (a : Nat) (b : Byte) : List Host.Cell := AMap.put d m a b

/-- n bytes from address a. -/
def Memory.readN (d : Byte) (m : List Host.Cell) (a n : Nat) : List Byte :=
  (List.range n).map fun k => Memory.read d m (a + k)

/-- Write a list of bytes from address a. -/
def Memory.writeN (d : Byte) (m : List Host.Cell) : Nat → List Byte → List Host.Cell
  | _, [] => m
  | a, b :: bs => Memory.writeN d (Memory.write d m a b) (a + 1) bs

/-- Little-endian value of a list of bytes. -/
def leNat : List Byte → Nat
  | [] => 0
  | b :: bs => b.toNat + 256 * leNat bs

/-- The n low bytes of a value, little-endian. -/
def leBytes : Nat → Nat → List Byte
  | 0, _ => []
  | n + 1, v => BitVec.ofNat 8 v :: leBytes n (v / 256)

/-- Big-endian value of a list of bytes. -/
def beNat (bs : List Byte) : Nat := leNat bs.reverse

/-- The n low bytes of a value, big-endian. -/
def beBytes (n v : Nat) : List Byte := (leBytes n v).reverse

def Memory.le (d : Byte) (m : List Host.Cell) (a n : Nat) : Nat := leNat (Memory.readN d m a n)

def Memory.putLe (d : Byte) (m : List Host.Cell) (a n v : Nat) : List Host.Cell :=
  Memory.writeN d m a (leBytes n v)

end Sys2Proof.Machine
end

