-- ==== Sys2Proof/Machine/RegNames.lean ====
section
/-!
DEFINITION. Names of the fields of the setup registers: BAR0 offset, highest and lowest bit.
-/
namespace Sys2Proof.Machine.F

def GEN_ID_PART : Fld := ⟨0x0, 15, 0⟩
def GEN_ID_FAMILY : Fld := ⟨0x0, 23, 16⟩
def GEN_ID_REV : Fld := ⟨0x0, 31, 24⟩
def GEN_MODE_MODE : Fld := ⟨0x4, 2, 0⟩
def GEN_MODE_PREV : Fld := ⟨0x4, 5, 3⟩
def GEN_MODE_CHG : Fld := ⟨0x4, 6, 6⟩
def GEN_MODE_TIME_LO_TIME_LO : Fld := ⟨0x8, 31, 0⟩
def GEN_MODE_TIME_HI_TIME_HI : Fld := ⟨0xC, 31, 0⟩
def GEN_STATUS_CFG_REJ : Fld := ⟨0x10, 0, 0⟩
def GEN_STATUS_HOSTREJ_SAT : Fld := ⟨0x10, 1, 1⟩
def GEN_HOSTREJ_CNT_COUNT : Fld := ⟨0x14, 31, 0⟩
def TBD_TIME_LO_TIME_LO : Fld := ⟨0xF000, 31, 0⟩
def TBD_TIME_HI_TIME_HI : Fld := ⟨0xF004, 31, 0⟩
def TBD_WAKE_LO_WAKE_LO : Fld := ⟨0xF008, 31, 0⟩
def TBD_WAKE_HI_WAKE_HI : Fld := ⟨0xF00C, 31, 0⟩
def TBD_TB_STATUS_SRC : Fld := ⟨0xF010, 0, 0⟩
def TBD_TB_STATUS_RCFB : Fld := ⟨0xF010, 1, 1⟩
def TBD_TB_STATUS_CFG_REJ : Fld := ⟨0xF010, 2, 2⟩
def TBD_TB_STATUS_WAKESRC : Fld := ⟨0xF010, 4, 3⟩
def TBD_TB_STATUS_PORW : Fld := ⟨0xF010, 5, 5⟩
def TBD_TRIM_CTL_TRIM_LOCK : Fld := ⟨0xF020, 0, 0⟩
def TBD_TRIM_STATUS_FIX : Fld := ⟨0xF024, 0, 0⟩
def TBD_TRIM_STATUS_LOST : Fld := ⟨0xF024, 1, 1⟩
def TBD_TRIM_STATUS_TRIMFIX_SAT : Fld := ⟨0xF024, 2, 2⟩
def TBD_TRIMFIX_CNT_COUNT : Fld := ⟨0xF028, 31, 0⟩
def TBD_TRIM_LOST_ID_ELEMENT : Fld := ⟨0xF02C, 3, 0⟩
def TBD_TRIM_LOST_ID_INDEX : Fld := ⟨0xF02C, 11, 4⟩
def TBD_TRIM_LOST_ID_KIND : Fld := ⟨0xF02C, 15, 12⟩
def TBD_TRIM_SEL_ELEMENT : Fld := ⟨0xF030, 3, 0⟩
def TBD_TRIM_SEL_INDEX : Fld := ⟨0xF030, 11, 4⟩
def TBD_TRIM_SEL_KIND : Fld := ⟨0xF030, 15, 12⟩
def TBD_TRIM_DATA_CODE : Fld := ⟨0xF034, 5, 0⟩
def TBD_WV_STATUS_STALL : Fld := ⟨0xF100, 0, 0⟩
def TBD_WV_STALL_ID_NODE : Fld := ⟨0xF104, 4, 0⟩
def TBD_WV_STALL_ID_PORT : Fld := ⟨0xF104, 7, 5⟩
def TBD_WV_STALL_ID_VC : Fld := ⟨0xF104, 9, 8⟩
def FRY_CODE_BASE_BASE : Fld := ⟨0x5F00, 18, 0⟩
def FRY_CODE_PAGES_PAGES : Fld := ⟨0x5F04, 13, 0⟩
def FRY_CODE_CTL_LOCK : Fld := ⟨0x5F08, 0, 0⟩
def ALM_IRQ_ROUTE_FIRST (n : Nat) : Fld := ⟨0xE800 + 4 * n, 7, 0⟩
def ALM_IRQ_ROUTE_LAST (n : Nat) : Fld := ⟨0xE800 + 4 * n, 15, 8⟩
def ALM_IRQ_ROUTE_LEVEL (n : Nat) : Fld := ⟨0xE800 + 4 * n, 16, 16⟩
def ALM_IRQ_ROUTE_ONE (n : Nat) : Fld := ⟨0xE800 + 4 * n, 17, 17⟩
def ALM_IRQ_ROUTE_WDN (n : Nat) : Fld := ⟨0xE800 + 4 * n, 18, 18⟩
def ALM_IRQ_ROUTE_EN (n : Nat) : Fld := ⟨0xE800 + 4 * n, 19, 19⟩
def ALM_NMI_ROUTE_FIRST : Fld := ⟨0xE880, 7, 0⟩
def ALM_NMI_ROUTE_LAST : Fld := ⟨0xE880, 15, 8⟩
def ALM_NMI_ROUTE_EN : Fld := ⟨0xE880, 16, 16⟩
def ALM_IRQ_RAISE_NUM : Fld := ⟨0xE884, 2, 0⟩
def ALM_IRQ_RAISE_PAYLOAD : Fld := ⟨0xE884, 31, 8⟩
def ALM_MC_ADDR_ADDR : Fld := ⟨0xEC00, 11, 0⟩
def ALM_MC_DATA_DATA (n : Nat) : Fld := ⟨0xEC04 + 4 * n, 31, 0⟩
def ALM_MC_DATA3_DATA : Fld := ⟨0xEC10, 23, 0⟩
def ALM_MC_CMD_WRITE : Fld := ⟨0xEC14, 0, 0⟩
def ALM_MC_CMD_READ : Fld := ⟨0xEC14, 1, 1⟩
def ALM_MC_CMD_PATCH : Fld := ⟨0xEC14, 2, 2⟩
def ALM_MC_CMD_GROVE : Fld := ⟨0xEC14, 7, 4⟩
def ALM_MC_CTL_MC_LOCK : Fld := ⟨0xEC18, 0, 0⟩
def ALM_MC_STATUS_FIX : Fld := ⟨0xEC1C, 0, 0⟩
def ALM_MC_STATUS_LOST : Fld := ⟨0xEC1C, 1, 1⟩
def ALM_MC_STATUS_MCFIX_SAT : Fld := ⟨0xEC1C, 2, 2⟩
def ALM_MC_STATUS_PATCHED : Fld := ⟨0xEC1C, 3, 3⟩
def ALM_MC_STATUS_LOST_GROVE : Fld := ⟨0xEC1C, 7, 4⟩
def ALM_MC_STATUS_LOST_ADDR : Fld := ⟨0xEC1C, 19, 8⟩
def ALM_MCFIX_CNT_COUNT : Fld := ⟨0xEC20, 31, 0⟩
def SPN_CTL_GC_EN : Fld := ⟨0x4000, 0, 0⟩
def SPN_CTL_LOCK : Fld := ⟨0x4000, 1, 1⟩
def SPN_HEAP_BASE_PAGE : Fld := ⟨0x4004, 29, 0⟩
def SPN_HEAP_PAGES_COUNT : Fld := ⟨0x4008, 29, 0⟩
def SPN_IMG_BASE_PAGE : Fld := ⟨0x400C, 29, 0⟩
def SPN_IMG_PAGES_COUNT : Fld := ⟨0x4010, 29, 0⟩
def SPN_GTAB_BASE : Fld := ⟨0x4014, 18, 0⟩
def SPN_ROOT_L_ADDR_L : Fld := ⟨0x4018, 31, 0⟩
def SPN_ROOT_H_ADDR_H : Fld := ⟨0x401C, 7, 0⟩
def SPN_GC_CTL_TRIG_FREE : Fld := ⟨0x4020, 7, 0⟩
def SPN_GC_CTL_EVAC_PCT : Fld := ⟨0x4020, 15, 8⟩
def SPN_GC_CTL_EVAC_MAX : Fld := ⟨0x4020, 27, 16⟩
def SPN_GC_PERIOD_MS : Fld := ⟨0x4024, 15, 0⟩
def SPN_GC_CMD_START : Fld := ⟨0x4028, 0, 0⟩
def SPN_GC_STATUS_PHASE : Fld := ⟨0x402C, 2, 0⟩
def SPN_GC_STATUS_PARITY : Fld := ⟨0x402C, 3, 3⟩
def SPN_GC_STATUS_CFG_REJ : Fld := ⟨0x402C, 4, 4⟩
def SPN_GC_STATUS_EXHAUST : Fld := ⟨0x402C, 5, 5⟩
def SPN_GC_STATUS_GQOVF : Fld := ⟨0x402C, 6, 6⟩
def SPN_GC_CYCLE_CNT_COUNT : Fld := ⟨0x4030, 31, 0⟩
def SPN_FREE_GRAN_COUNT : Fld := ⟨0x4034, 31, 0⟩
def SPN_PIN_L_ADDR_L : Fld := ⟨0x4040, 31, 0⟩
def SPN_PIN_H_ADDR_H : Fld := ⟨0x4044, 7, 0⟩
def SPN_PIN_CMD_PIN : Fld := ⟨0x4048, 0, 0⟩
def SPN_PIN_CMD_UNPIN : Fld := ⟨0x4048, 1, 1⟩
def FRY_HEAP_DBASE_BASE : Fld := ⟨0x5000, 12, 0⟩
def FRY_SIDE_DBASE_BASE : Fld := ⟨0x5004, 12, 0⟩
def FRY_CTL_LOCK : Fld := ⟨0x5008, 0, 0⟩
def FRY_STATUS_CFG_REJ : Fld := ⟨0x500C, 0, 0⟩
def FRY_STATUS_POISON : Fld := ⟨0x500C, 1, 1⟩
def FRY_STATUS_PAGEIN_SAT : Fld := ⟨0x500C, 2, 2⟩
def FRY_PAGEIN_CNT_COUNT : Fld := ⟨0x5010, 31, 0⟩
def FRY_BINS_FREE_FREE : Fld := ⟨0x5014, 11, 0⟩
def FRY_POISON_PAGE_PAGE : Fld := ⟨0x5018, 29, 0⟩
def FRY_PIN_PAGE (n : Nat) : Fld := ⟨0x5100 + 4 * n, 29, 0⟩
def FRY_PIN_EN (n : Nat) : Fld := ⟨0x5100 + 4 * n, 31, 31⟩
def SHP_CTL_SPEC_EN : Fld := ⟨0x3000, 0, 0⟩
def SHP_CTL_STEAL : Fld := ⟨0x3000, 1, 1⟩
def SHP_CTL_DLIRQ : Fld := ⟨0x3000, 2, 2⟩
def SHP_SLICE_US : Fld := ⟨0x3004, 15, 0⟩
def SHP_ELOG_MAX : Fld := ⟨0x3008, 13, 0⟩
def SHP_APPLY_MARGIN_US : Fld := ⟨0x300C, 11, 0⟩
def SHP_STATUS_CFG_REJ : Fld := ⟨0x3010, 0, 0⟩
def SHP_STATUS_DLMISS_SAT : Fld := ⟨0x3010, 1, 1⟩
def SHP_STATUS_SPAWNFAIL_SAT : Fld := ⟨0x3010, 2, 2⟩
def SHP_OPEN_OPEN : Fld := ⟨0x3014, 15, 1⟩
def SHP_LIVE_LIVE : Fld := ⟨0x3018, 12, 0⟩
def SHP_LIVE_READY : Fld := ⟨0x3018, 28, 16⟩
def SHP_DLMISS_CNT_COUNT : Fld := ⟨0x301C, 31, 0⟩
def SHP_SPAWNFAIL_CNT_COUNT : Fld := ⟨0x3020, 31, 0⟩
def SHP_CONF_TIME_LO_TIME_LO : Fld := ⟨0x3024, 31, 0⟩
def SHP_CONF_TIME_HI_TIME_HI : Fld := ⟨0x3028, 31, 0⟩
def SHP_SLOT_SEL_SLOT : Fld := ⟨0x3030, 11, 0⟩
def SHP_SLOT_INFO_STATE : Fld := ⟨0x3034, 2, 0⟩
def SHP_SLOT_INFO_EPOCH : Fld := ⟨0x3034, 7, 4⟩
def SHP_SLOT_INFO_PRI : Fld := ⟨0x3034, 10, 8⟩
def SHP_SLOT_INFO_CLASS : Fld := ⟨0x3034, 13, 12⟩
def SHP_SLOT_INFO_GEN : Fld := ⟨0x3034, 25, 14⟩
def SHP_SLOT_INFO_GROVE : Fld := ⟨0x3034, 29, 26⟩
def SHP_EPOCH_OPEN (n : Nat) : Fld := ⟨0x3104 + 4 * n, 0, 0⟩
def SHP_EPOCH_PARENT (n : Nat) : Fld := ⟨0x3104 + 4 * n, 4, 1⟩
def SHP_EPOCH_OPENER (n : Nat) : Fld := ⟨0x3104 + 4 * n, 16, 5⟩
def SHP_EPOCH_LOG (n : Nat) : Fld := ⟨0x3104 + 4 * n, 30, 17⟩
def TAL_CTL_AUDIRQ : Fld := ⟨0xD000, 0, 0⟩
def TAL_AUDIT_MS : Fld := ⟨0xD004, 15, 0⟩
def TAL_STATUS_CFG_REJ : Fld := ⟨0xD008, 0, 0⟩
def TAL_STATUS_BREACH : Fld := ⟨0xD008, 1, 1⟩
def TAL_STATUS_FROZEN : Fld := ⟨0xD008, 8, 2⟩
def TAL_STATUS_HOSTVIOL_SAT : Fld := ⟨0xD008, 9, 9⟩
def TAL_STATUS_AUDIT : Fld := ⟨0xD008, 10, 10⟩
def TAL_BREACH_ID_LEDGER : Fld := ⟨0xD00C, 2, 0⟩
def TAL_BREACH_ID_TERM : Fld := ⟨0xD00C, 6, 3⟩
def TAL_BREACH_ID_KIND : Fld := ⟨0xD00C, 10, 7⟩
def TAL_BREACH_ID_INDEX : Fld := ⟨0xD00C, 22, 11⟩
def TAL_BREACH_ID_RAIL : Fld := ⟨0xD00C, 23, 23⟩
def TAL_BREACH_TIME_LO_TIME_LO : Fld := ⟨0xD010, 31, 0⟩
def TAL_BREACH_TIME_HI_TIME_HI : Fld := ⟨0xD014, 31, 0⟩
def TAL_SEL_LEDGER : Fld := ⟨0xD020, 2, 0⟩
def TAL_SEL_TERM : Fld := ⟨0xD020, 6, 3⟩
def TAL_SEL_INDEX : Fld := ⟨0xD020, 18, 7⟩
def TAL_TERM_LO_TERM_LO : Fld := ⟨0xD024, 31, 0⟩
def TAL_TERM_HI_TERM_HI : Fld := ⟨0xD028, 31, 0⟩
def TAL_HOSTVIOL_CNT_COUNT : Fld := ⟨0xD030, 31, 0⟩
def TAL_QUAR_CELLS : Fld := ⟨0xD034, 8, 0⟩
def TAL_AUDIT_CNT_COUNT : Fld := ⟨0xD038, 31, 0⟩
def EVR_MBOX_L_ADDR_L : Fld := ⟨0x2000, 31, 8⟩
def EVR_MBOX_H_ADDR_H : Fld := ⟨0x2004, 31, 0⟩
def EVR_STATUS_CFG_REJ : Fld := ⟨0x2008, 0, 0⟩
def EVR_STATUS_GATED : Fld := ⟨0x2008, 1, 1⟩
def EVR_STATUS_VIOL : Fld := ⟨0x2008, 2, 2⟩
def EVR_STATUS_ELOST_SAT : Fld := ⟨0x2008, 3, 3⟩
def EVR_STATUS_LLOST_SAT : Fld := ⟨0x2008, 4, 4⟩
def EVR_VIOL_INFO_RING : Fld := ⟨0x200C, 3, 0⟩
def EVR_VIOL_INFO_KIND : Fld := ⟨0x200C, 7, 4⟩
def EVR_VIOL_INFO_VALUE : Fld := ⟨0x200C, 31, 16⟩
def EVR_INBOX_L_ADDR_L : Fld := ⟨0x2010, 31, 0⟩
def EVR_INBOX_H_ADDR_H : Fld := ⟨0x2014, 7, 0⟩
def EVR_SIGTAB_L_ADDR_L : Fld := ⟨0x2018, 31, 0⟩
def EVR_SIGTAB_H_ADDR_H : Fld := ⟨0x201C, 7, 0⟩
def EVR_SVC_HANDLE : Fld := ⟨0x2020, 23, 0⟩
def EVR_CBASE_L_ADDR (n : Nat) : Fld := ⟨0x2100 + 32 * n, 31, 6⟩
def EVR_CBASE_H_ADDR (n : Nat) : Fld := ⟨0x2104 + 32 * n, 31, 0⟩
def EVR_ABASE_L_ADDR (n : Nat) : Fld := ⟨0x2108 + 32 * n, 31, 5⟩
def EVR_ABASE_H_ADDR (n : Nat) : Fld := ⟨0x210C + 32 * n, 31, 0⟩
def EVR_RCTL_EN (n : Nat) : Fld := ⟨0x2110 + 32 * n, 0, 0⟩
def EVR_RCTL_K (n : Nat) : Fld := ⟨0x2110 + 32 * n, 8, 4⟩
def EVR_RSTAT_ACTIVE (n : Nat) : Fld := ⟨0x2114 + 32 * n, 0, 0⟩
def EVR_RSTAT_CI (n : Nat) : Fld := ⟨0x2114 + 32 * n, 31, 16⟩
def EVR_CREDIT_CREDIT (n : Nat) : Fld := ⟨0x2118 + 32 * n, 8, 0⟩
def EVR_CREDIT_AW (n : Nat) : Fld := ⟨0x2118 + 32 * n, 31, 16⟩
def EVR_EBASE_L_ADDR : Fld := ⟨0x2300, 31, 5⟩
def EVR_EBASE_H_ADDR : Fld := ⟨0x2304, 31, 0⟩
def EVR_ECTL_EN : Fld := ⟨0x2308, 0, 0⟩
def EVR_ECTL_K : Fld := ⟨0x2308, 8, 4⟩
def EVR_ESTAT_PI : Fld := ⟨0x230C, 15, 0⟩
def EVR_ELOST_CNT_COUNT : Fld := ⟨0x2310, 31, 0⟩
def EVR_LBASE_L_ADDR : Fld := ⟨0x2320, 31, 5⟩
def EVR_LBASE_H_ADDR : Fld := ⟨0x2324, 31, 0⟩
def EVR_LCTL_EN : Fld := ⟨0x2328, 0, 0⟩
def EVR_LCTL_K : Fld := ⟨0x2328, 8, 4⟩
def EVR_LSTAT_PI : Fld := ⟨0x232C, 15, 0⟩
def EVR_LLOST_CNT_COUNT : Fld := ⟨0x2330, 31, 0⟩
def PNT_CTL_EN : Fld := ⟨0x7000, 0, 0⟩
def PNT_CTL_LOCK : Fld := ⟨0x7000, 1, 1⟩
def PNT_POOL_BASE_BASE : Fld := ⟨0x7004, 12, 0⟩
def PNT_POOL_TILES_COUNT : Fld := ⟨0x7008, 15, 0⟩
def PNT_POOL_RSV_COUNT : Fld := ⟨0x700C, 15, 0⟩
def PNT_SHARE_WA : Fld := ⟨0x7010, 3, 0⟩
def PNT_SHARE_WB : Fld := ⟨0x7010, 7, 4⟩
def PNT_STATUS_CFG_REJ : Fld := ⟨0x7014, 0, 0⟩
def PNT_STATUS_POOLWAIT : Fld := ⟨0x7014, 1, 1⟩
def PNT_STATUS_JOBERR_SAT : Fld := ⟨0x7014, 2, 2⟩
def PNT_JOBERR_CNT_COUNT : Fld := ⟨0x7018, 31, 0⟩
def PNT_FREE_TILES_FREE : Fld := ⟨0x701C, 15, 0⟩
def PNT_LASTERR_STATUS : Fld := ⟨0x7020, 2, 0⟩
def PNT_LASTERR_PORT : Fld := ⟨0x7020, 7, 4⟩
def MIR_CTL_EN (n : Nat) : Fld := ⟨0x6000 + 256 * n, 0, 0⟩
def MIR_CTL_PLANES (n : Nat) : Fld := ⟨0x6000 + 256 * n, 4, 1⟩
def MIR_CTL_SPLASH (n : Nat) : Fld := ⟨0x6000 + 256 * n, 5, 5⟩
def MIR_CTL_POL (n : Nat) : Fld := ⟨0x6000 + 256 * n, 7, 6⟩
def MIR_BG_COLOUR (n : Nat) : Fld := ⟨0x6004 + 256 * n, 31, 0⟩
def MIR_ALPHA_S0 (n : Nat) : Fld := ⟨0x6008 + 256 * n, 31, 24⟩
def MIR_ALPHA_S1 (n : Nat) : Fld := ⟨0x6008 + 256 * n, 23, 16⟩
def MIR_ALPHA_S2 (n : Nat) : Fld := ⟨0x6008 + 256 * n, 15, 8⟩
def MIR_ALPHA_GU (n : Nat) : Fld := ⟨0x6008 + 256 * n, 7, 0⟩
def MIR_HTIMA_HACT (n : Nat) : Fld := ⟨0x6010 + 256 * n, 12, 0⟩
def MIR_HTIMA_HFP (n : Nat) : Fld := ⟨0x6010 + 256 * n, 27, 16⟩
def MIR_HTIMB_HSYNC (n : Nat) : Fld := ⟨0x6014 + 256 * n, 11, 0⟩
def MIR_HTIMB_HBP (n : Nat) : Fld := ⟨0x6014 + 256 * n, 27, 16⟩
def MIR_VTIMA_VACT (n : Nat) : Fld := ⟨0x6018 + 256 * n, 12, 0⟩
def MIR_VTIMA_VFP (n : Nat) : Fld := ⟨0x6018 + 256 * n, 27, 16⟩
def MIR_VTIMB_VSYNC (n : Nat) : Fld := ⟨0x601C + 256 * n, 11, 0⟩
def MIR_VTIMB_VBP (n : Nat) : Fld := ⟨0x601C + 256 * n, 27, 16⟩
def MIR_PCLK_KHZ (n : Nat) : Fld := ⟨0x6020 + 256 * n, 18, 0⟩
def MIR_LINK_LANES (n : Nat) : Fld := ⟨0x6024 + 256 * n, 2, 0⟩
def MIR_LINK_RATE (n : Nat) : Fld := ⟨0x6024 + 256 * n, 15, 4⟩
def MIR_LINK_BPC6 (n : Nat) : Fld := ⟨0x6024 + 256 * n, 16, 16⟩
def MIR_LINK_SSC (n : Nat) : Fld := ⟨0x6024 + 256 * n, 17, 17⟩
def MIR_LINK_VMODE (n : Nat) : Fld := ⟨0x6024 + 256 * n, 19, 18⟩
def MIR_LINK_CLKCONT (n : Nat) : Fld := ⟨0x6024 + 256 * n, 20, 20⟩
def MIR_BL_DUTY (n : Nat) : Fld := ⟨0x6028 + 256 * n, 11, 0⟩
def MIR_BL_EN (n : Nat) : Fld := ⟨0x6028 + 256 * n, 12, 12⟩
def MIR_BL_HZ (n : Nat) : Fld := ⟨0x6028 + 256 * n, 31, 16⟩
def MIR_STATUS_CFG_REJ (n : Nat) : Fld := ⟨0x602C + 256 * n, 0, 0⟩
def MIR_STATUS_LINKUP (n : Nat) : Fld := ⟨0x602C + 256 * n, 1, 1⟩
def MIR_STATUS_HPD (n : Nat) : Fld := ⟨0x602C + 256 * n, 2, 2⟩
def MIR_STATUS_UNDERRUN (n : Nat) : Fld := ⟨0x602C + 256 * n, 3, 3⟩
def MIR_STATUS_REPEAT_SAT (n : Nat) : Fld := ⟨0x602C + 256 * n, 4, 4⟩
def MIR_FRAME_LO_FRAME (n : Nat) : Fld := ⟨0x6030 + 256 * n, 31, 0⟩
def MIR_FRAME_HI_FRAME (n : Nat) : Fld := ⟨0x6034 + 256 * n, 31, 0⟩
def MIR_LOCKT_LO_TIME (n : Nat) : Fld := ⟨0x6038 + 256 * n, 31, 0⟩
def MIR_LOCKT_HI_TIME (n : Nat) : Fld := ⟨0x603C + 256 * n, 31, 0⟩
def MIR_REPEAT_CNT_COUNT (n : Nat) : Fld := ⟨0x6040 + 256 * n, 31, 0⟩
def MIR_SPLASH_FIRST (n : Nat) : Fld := ⟨0x6044 + 256 * n, 15, 0⟩
def MIR_DCS_CMD_DT : Fld := ⟨0x6200, 5, 0⟩
def MIR_DCS_CMD_LEN : Fld := ⟨0x6200, 12, 8⟩
def MIR_DCS_CMD_SEND : Fld := ⟨0x6200, 16, 16⟩
def MIR_DCS_CMD_BUSY : Fld := ⟨0x6200, 17, 17⟩
def MIR_DCS_DATA_DATA (n : Nat) : Fld := ⟨0x6204 + 4 * n, 31, 0⟩
def LMP_CTL_ARM : Fld := ⟨0x8000, 0, 0⟩
def LMP_CTL_CIRQ : Fld := ⟨0x8000, 1, 1⟩
def LMP_STATUS_CFG_REJ : Fld := ⟨0x8004, 0, 0⟩
def LMP_STATUS_ROMSET : Fld := ⟨0x8004, 1, 1⟩
def LMP_STATUS_BOOKERR : Fld := ⟨0x8004, 5, 2⟩
def LMP_STATE_LO_STATE : Fld := ⟨0x8008, 31, 0⟩
def LMP_STATE_HI_STATE : Fld := ⟨0x800C, 31, 0⟩
def LMP_COMMIT_TIME_LO_TIME : Fld := ⟨0x8010, 31, 0⟩
def LMP_COMMIT_TIME_HI_TIME : Fld := ⟨0x8014, 31, 0⟩
def LMP_COMMIT_CNT_COUNT : Fld := ⟨0x8018, 31, 0⟩
def LMP_HFLAG_HF : Fld := ⟨0x801C, 31, 0⟩
def LMP_CFLAG_LO_CF : Fld := ⟨0x8020, 31, 0⟩
def LMP_CFLAG_HI_CF : Fld := ⟨0x8024, 31, 0⟩
def LMP_CFLAG_SET_LO_SET : Fld := ⟨0x8028, 31, 0⟩
def LMP_CFLAG_SET_HI_SET : Fld := ⟨0x802C, 31, 0⟩
def LMP_CFLAG_CLR_LO_CLR : Fld := ⟨0x8030, 31, 0⟩
def LMP_CFLAG_CLR_HI_CLR : Fld := ⟨0x8034, 31, 0⟩
def LMP_UNLATCH_LO_UNLATCH : Fld := ⟨0x8038, 31, 0⟩
def LMP_UNLATCH_HI_UNLATCH : Fld := ⟨0x803C, 31, 0⟩
def LMP_LDADDR_ADDR : Fld := ⟨0x8040, 18, 2⟩
def LMP_LDDATA_DATA : Fld := ⟨0x8044, 31, 0⟩
def LMP_ROMADDR_ADDR : Fld := ⟨0x8048, 15, 0⟩
def LMP_ROMDATA_DATA : Fld := ⟨0x804C, 7, 0⟩
def LMP_LEDMAP_LAMP (n : Nat) : Fld := ⟨0x8100 + 4 * n, 5, 0⟩
def LMP_LEDMAP_MODE (n : Nat) : Fld := ⟨0x8100 + 4 * n, 9, 8⟩
def LMP_LEDCFG_SHORTV : Fld := ⟨0x8140, 5, 0⟩
def LMP_LEDCFG_TEST : Fld := ⟨0x8140, 8, 8⟩
def LMP_LEDFAULT_OPEN : Fld := ⟨0x8144, 15, 0⟩
def LMP_LEDFAULT_SHORT : Fld := ⟨0x8144, 31, 16⟩
def LMP_LEDON_ON : Fld := ⟨0x8148, 15, 0⟩
def WIT_CTL_EN : Fld := ⟨0x9000, 0, 0⟩
def WIT_CTL_CANEN : Fld := ⟨0x9000, 1, 1⟩
def WIT_CTL_PFIRQ : Fld := ⟨0x9000, 2, 2⟩
def WIT_PERIOD_MS : Fld := ⟨0x9004, 9, 0⟩
def WIT_CANID_ID : Fld := ⟨0x9008, 28, 0⟩
def WIT_CANID_IDE : Fld := ⟨0x9008, 29, 29⟩
def WIT_CANID_BRS : Fld := ⟨0x9008, 30, 30⟩
def WIT_CAN_CTRL : Fld := ⟨0x900C, 1, 0⟩
def WIT_STATUS_CFG_REJ : Fld := ⟨0x9010, 0, 0⟩
def WIT_STATUS_AB : Fld := ⟨0x9010, 1, 1⟩
def WIT_STATUS_STEST : Fld := ⟨0x9010, 2, 2⟩
def WIT_STATUS_KEYLOST : Fld := ⟨0x9010, 3, 3⟩
def WIT_STATUS_MISMATCH_SAT : Fld := ⟨0x9010, 4, 4⟩
def WIT_STATUS_CANLATE_SAT : Fld := ⟨0x9010, 5, 5⟩
def WIT_STATUS_RECLOST_SAT : Fld := ⟨0x9010, 6, 6⟩
def WIT_FAIL_LO_FAIL : Fld := ⟨0x9014, 31, 0⟩
def WIT_FAIL_HI_FAIL : Fld := ⟨0x9018, 31, 0⟩
def WIT_PROVEN_LO_PROVEN : Fld := ⟨0x901C, 31, 0⟩
def WIT_PROVEN_HI_PROVEN : Fld := ⟨0x9020, 31, 0⟩
def WIT_COUNTER_COUNT : Fld := ⟨0x9024, 31, 0⟩
def WIT_MISMATCH_CNT_COUNT : Fld := ⟨0x9028, 31, 0⟩
def WIT_CANLATE_CNT_COUNT : Fld := ⟨0x902C, 31, 0⟩
def WIT_RECLOST_CNT_COUNT : Fld := ⟨0x9030, 31, 0⟩
def WIT_SIG_SEL_LAMP : Fld := ⟨0x9040, 5, 0⟩
def WIT_SIG_A_SIG : Fld := ⟨0x9044, 31, 0⟩
def WIT_SIG_B_SIG : Fld := ⟨0x9048, 31, 0⟩
def ADC_REF_REFEN : Fld := ⟨0xA000, 0, 0⟩
def ADC_REF_READY : Fld := ⟨0xA000, 1, 1⟩
def ADC_STATUS_CFG_REJ : Fld := ⟨0xA004, 0, 0⟩
def ADC_STATUS_FIFOOVF : Fld := ⟨0xA004, 1, 1⟩
def ADC_STATUS_DMAFULL : Fld := ⟨0xA004, 2, 2⟩
def ADC_STATUS_DMAERR : Fld := ⟨0xA004, 3, 3⟩
def ADC_STATUS_FIFOLOST_SAT : Fld := ⟨0xA004, 4, 4⟩
def ADC_FIFO_ENTRY : Fld := ⟨0xA400, 31, 0⟩
def ADC_FIFOCTL_WM : Fld := ⟨0xA404, 6, 0⟩
def ADC_FIFOCTL_OVIRQ : Fld := ⟨0xA404, 8, 8⟩
def ADC_FIFOCTL_LEVEL : Fld := ⟨0xA404, 22, 16⟩
def ADC_FIFOLOST_CNT_COUNT : Fld := ⟨0xA408, 31, 0⟩
def ADC_DMA_L_ADDR : Fld := ⟨0xA410, 31, 0⟩
def ADC_DMA_H_ADDR : Fld := ⟨0xA414, 7, 0⟩
def ADC_DMA_CTL_EN : Fld := ⟨0xA418, 0, 0⟩
def ADC_DMA_CTL_WM : Fld := ⟨0xA418, 31, 16⟩
def ADC_DMA_SPRG_HANDLE : Fld := ⟨0xA41C, 23, 0⟩
def ADC_WOUT_LO_OUT : Fld := ⟨0xAA00, 31, 0⟩
def ADC_WOUT_HI_OUT : Fld := ⟨0xAA04, 15, 0⟩
def ADC_WSTALE_L_STALE : Fld := ⟨0xAA08, 31, 0⟩
def ADC_WSTALE_H_STALE : Fld := ⟨0xAA0C, 15, 0⟩
def ADC_CTL_EN (n : Nat) : Fld := ⟨0xA100 + 256 * n, 0, 0⟩
def ADC_CTL_CONT (n : Nat) : Fld := ⟨0xA100 + 256 * n, 1, 1⟩
def ADC_CTL_TSRC (n : Nat) : Fld := ⟨0xA100 + 256 * n, 5, 2⟩
def ADC_CTL_TEDGE (n : Nat) : Fld := ⟨0xA100 + 256 * n, 7, 6⟩
def ADC_CTL_SEQIRQ (n : Nat) : Fld := ⟨0xA100 + 256 * n, 8, 8⟩
def ADC_CTL_ORIRQ (n : Nat) : Fld := ⟨0xA100 + 256 * n, 9, 9⟩
def ADC_SWTRIG_START (n : Nat) : Fld := ⟨0xA104 + 256 * n, 0, 0⟩
def ADC_PER_US (n : Nat) : Fld := ⟨0xA108 + 256 * n, 19, 0⟩
def ADC_STAT_BUSY (n : Nat) : Fld := ⟨0xA10C + 256 * n, 0, 0⟩
def ADC_STAT_CUR (n : Nat) : Fld := ⟨0xA10C + 256 * n, 12, 8⟩
def ADC_STAT_UNR (n : Nat) : Fld := ⟨0xA10C + 256 * n, 16, 16⟩
def ADC_STAT_OVR (n : Nat) : Fld := ⟨0xA10C + 256 * n, 17, 17⟩
def ADC_STAT_ORCH (n : Nat) : Fld := ⟨0xA10C + 256 * n, 23, 20⟩
def ADC_STAT_TRIGLOST_SAT (n : Nat) : Fld := ⟨0xA10C + 256 * n, 24, 24⟩
def ADC_STAT_ORNG_SAT (n : Nat) : Fld := ⟨0xA10C + 256 * n, 25, 25⟩
def ADC_TRIGLOST_CNT_COUNT (n : Nat) : Fld := ⟨0xA110 + 256 * n, 31, 0⟩
def ADC_ORNG_CNT_COUNT (n : Nat) : Fld := ⟨0xA114 + 256 * n, 31, 0⟩
def ADC_RES_RES (k n : Nat) : Fld := ⟨0xA120 + 0x100 * k + 4 * n, 31, 0⟩
def ADC_SEQ_CH (k n : Nat) : Fld := ⟨0xA140 + 0x100 * k + 4 * n, 3, 0⟩
def ADC_SEQ_SMP (k n : Nat) : Fld := ⟨0xA140 + 0x100 * k + 4 * n, 7, 4⟩
def ADC_SEQ_AVG (k n : Nat) : Fld := ⟨0xA140 + 0x100 * k + 4 * n, 9, 8⟩
def ADC_SEQ_FIFO (k n : Nat) : Fld := ⟨0xA140 + 0x100 * k + 4 * n, 10, 10⟩
def ADC_SEQ_LAST (k n : Nat) : Fld := ⟨0xA140 + 0x100 * k + 4 * n, 11, 11⟩
def ADC_URG_CH (k n : Nat) : Fld := ⟨0xA1C0 + 0x100 * k + 8 * n, 3, 0⟩
def ADC_URG_SMP (k n : Nat) : Fld := ⟨0xA1C0 + 0x100 * k + 8 * n, 7, 4⟩
def ADC_URG_FIFO (k n : Nat) : Fld := ⟨0xA1C0 + 0x100 * k + 8 * n, 8, 8⟩
def ADC_URG_TSRC (k n : Nat) : Fld := ⟨0xA1C0 + 0x100 * k + 8 * n, 12, 9⟩
def ADC_URG_TEDGE (k n : Nat) : Fld := ⟨0xA1C0 + 0x100 * k + 8 * n, 14, 13⟩
def ADC_URG_EN (k n : Nat) : Fld := ⟨0xA1C0 + 0x100 * k + 8 * n, 15, 15⟩
def ADC_URG_GO (k n : Nat) : Fld := ⟨0xA1C0 + 0x100 * k + 8 * n, 16, 16⟩
def ADC_URGRES_RES (k n : Nat) : Fld := ⟨0xA1C4 + 0x100 * k + 8 * n, 15, 0⟩
def ADC_WINA_LO (n : Nat) : Fld := ⟨0xA800 + 8 * n, 11, 0⟩
def ADC_WINA_HI (n : Nat) : Fld := ⟨0xA800 + 8 * n, 27, 16⟩
def ADC_WINB_HYS (n : Nat) : Fld := ⟨0xA804 + 8 * n, 5, 0⟩
def ADC_WINB_OUTSIDE (n : Nat) : Fld := ⟨0xA804 + 8 * n, 6, 6⟩
def ADC_WINB_CNT (n : Nat) : Fld := ⟨0xA804 + 8 * n, 11, 8⟩
def ADC_WINB_AGE (n : Nat) : Fld := ⟨0xA804 + 8 * n, 23, 12⟩
def ADC_WINB_STALEVAL (n : Nat) : Fld := ⟨0xA804 + 8 * n, 24, 24⟩
def ADC_WINB_SKIPREC (n : Nat) : Fld := ⟨0xA804 + 8 * n, 25, 25⟩
def ADC_WINB_IRQEN (n : Nat) : Fld := ⟨0xA804 + 8 * n, 26, 26⟩
def ADC_WINB_EN (n : Nat) : Fld := ⟨0xA804 + 8 * n, 27, 27⟩
def VIO_STATUS_CFG_REJ : Fld := ⟨0xB000, 0, 0⟩
def VIO_STATUS_RINGERR : Fld := ⟨0xB000, 1, 1⟩
def VIO_STATUS_LSHORT_SAT : Fld := ⟨0xB000, 2, 2⟩
def VIO_STATUS_RXLOST_SAT : Fld := ⟨0xB000, 9, 3⟩
def VIO_PORTCTL_PORTEN : Fld := ⟨0xB004, 11, 0⟩
def VIO_PORTCTL_RINGEN : Fld := ⟨0xB004, 22, 16⟩
def VIO_PORT_L_ADDR (n : Nat) : Fld := ⟨0xB010 + 8 * n, 31, 0⟩
def VIO_PORT_H_ADDR (n : Nat) : Fld := ⟨0xB014 + 8 * n, 7, 0⟩
def VIO_RING_L_ADDR (n : Nat) : Fld := ⟨0xB080 + 8 * n, 31, 0⟩
def VIO_RING_H_ADDR (n : Nat) : Fld := ⟨0xB084 + 8 * n, 7, 0⟩
def VIO_RINGWM_WM (n : Nat) : Fld := ⟨0xB0C0 + 4 * n, 15, 0⟩
def VIO_RINGSPR_HANDLE (n : Nat) : Fld := ⟨0xB0E0 + 4 * n, 23, 0⟩
def VIO_RXLOST_CNT_COUNT (n : Nat) : Fld := ⟨0xB100 + 4 * n, 31, 0⟩
def VIO_CAN_CTL_EN (n : Nat) : Fld := ⟨0xB200 + 64 * n, 0, 0⟩
def VIO_CAN_CTL_MODE (n : Nat) : Fld := ⟨0xB200 + 64 * n, 2, 1⟩
def VIO_CAN_CTL_AUTOREC (n : Nat) : Fld := ⟨0xB200 + 64 * n, 3, 3⟩
def VIO_CAN_CTL_RECOVER (n : Nat) : Fld := ⟨0xB200 + 64 * n, 4, 4⟩
def VIO_CAN_NBT_BRP (n : Nat) : Fld := ⟨0xB204 + 64 * n, 7, 0⟩
def VIO_CAN_NBT_TSEG1 (n : Nat) : Fld := ⟨0xB204 + 64 * n, 15, 8⟩
def VIO_CAN_NBT_TSEG2 (n : Nat) : Fld := ⟨0xB204 + 64 * n, 22, 16⟩
def VIO_CAN_NBT_SJW (n : Nat) : Fld := ⟨0xB204 + 64 * n, 30, 24⟩
def VIO_CAN_DBT_BRP (n : Nat) : Fld := ⟨0xB208 + 64 * n, 7, 0⟩
def VIO_CAN_DBT_TSEG1 (n : Nat) : Fld := ⟨0xB208 + 64 * n, 15, 8⟩
def VIO_CAN_DBT_TSEG2 (n : Nat) : Fld := ⟨0xB208 + 64 * n, 22, 16⟩
def VIO_CAN_DBT_SJW (n : Nat) : Fld := ⟨0xB208 + 64 * n, 30, 24⟩
def VIO_CAN_TDC_OFFSET (n : Nat) : Fld := ⟨0xB20C + 64 * n, 6, 0⟩
def VIO_CAN_TDC_EN (n : Nat) : Fld := ⟨0xB20C + 64 * n, 7, 7⟩
def VIO_CAN_STAT_TEC (n : Nat) : Fld := ⟨0xB210 + 64 * n, 7, 0⟩
def VIO_CAN_STAT_REC (n : Nat) : Fld := ⟨0xB210 + 64 * n, 15, 8⟩
def VIO_CAN_STAT_PASSIVE (n : Nat) : Fld := ⟨0xB210 + 64 * n, 16, 16⟩
def VIO_CAN_STAT_BUSOFF (n : Nat) : Fld := ⟨0xB210 + 64 * n, 17, 17⟩
def VIO_CAN_FLT_ID (k n : Nat) : Fld := ⟨0xBB00 + 0x80 * k + 8 * n, 28, 0⟩
def VIO_CAN_FLT_IDE (k n : Nat) : Fld := ⟨0xBB00 + 0x80 * k + 8 * n, 29, 29⟩
def VIO_CAN_FLT_EN (k n : Nat) : Fld := ⟨0xBB00 + 0x80 * k + 8 * n, 31, 31⟩
def VIO_CAN_MSK_MASK (k n : Nat) : Fld := ⟨0xBB04 + 0x80 * k + 8 * n, 28, 0⟩
def VIO_LSA_ID (n : Nat) : Fld := ⟨0xB400 + 12 * n, 28, 0⟩
def VIO_LSA_IDE (n : Nat) : Fld := ⟨0xB400 + 12 * n, 29, 29⟩
def VIO_LSA_CTRL (n : Nat) : Fld := ⟨0xB400 + 12 * n, 31, 30⟩
def VIO_LSB_BITPOS (n : Nat) : Fld := ⟨0xB404 + 12 * n, 8, 0⟩
def VIO_LSB_LENM1 (n : Nat) : Fld := ⟨0xB404 + 12 * n, 12, 9⟩
def VIO_LSB_MODE (n : Nat) : Fld := ⟨0xB404 + 12 * n, 14, 13⟩
def VIO_LSB_EN (n : Nat) : Fld := ⟨0xB404 + 12 * n, 16, 16⟩
def VIO_LSB_DEFAULT (n : Nat) : Fld := ⟨0xB404 + 12 * n, 17, 17⟩
def VIO_LSB_TIMEOUT (n : Nat) : Fld := ⟨0xB404 + 12 * n, 31, 20⟩
def VIO_LSC_LO (n : Nat) : Fld := ⟨0xB408 + 12 * n, 15, 0⟩
def VIO_LSC_HI (n : Nat) : Fld := ⟨0xB408 + 12 * n, 31, 16⟩
def VIO_LSIG_S (n : Nat) : Fld := ⟨0xBA00 + 4 * n, 31, 0⟩
def VIO_LSTALE_STALE (n : Nat) : Fld := ⟨0xBA10 + 4 * n, 31, 0⟩
def VIO_LCTL_SIRQ : Fld := ⟨0xBA20, 0, 0⟩
def VIO_LSHORT_CNT_COUNT : Fld := ⟨0xBA24, 31, 0⟩
def VIO_GPIOCFG_DIR (n : Nat) : Fld := ⟨0xB300 + 4 * n, 0, 0⟩
def VIO_GPIOCFG_OD (n : Nat) : Fld := ⟨0xB300 + 4 * n, 1, 1⟩
def VIO_GPIOCFG_PULL (n : Nat) : Fld := ⟨0xB300 + 4 * n, 3, 2⟩
def VIO_GPIOCFG_FILT (n : Nat) : Fld := ⟨0xB300 + 4 * n, 11, 4⟩
def VIO_GPIOCFG_IRQ (n : Nat) : Fld := ⟨0xB300 + 4 * n, 13, 12⟩
def VIO_GPIO_IN_IN : Fld := ⟨0xB380, 31, 0⟩
def VIO_GPIO_OUT_OUT : Fld := ⟨0xB384, 31, 0⟩
def VIO_GPIO_SET_SET : Fld := ⟨0xB388, 31, 0⟩
def VIO_GPIO_CLR_CLR : Fld := ⟨0xB38C, 31, 0⟩
def VIO_PWM_PER (n : Nat) : Fld := ⟨0xB3C0 + 8 * n, 19, 0⟩
def VIO_PWM_POL (n : Nat) : Fld := ⟨0xB3C0 + 8 * n, 20, 20⟩
def VIO_PWM_EN (n : Nat) : Fld := ⟨0xB3C0 + 8 * n, 21, 21⟩
def VIO_PWMD_DUTY (n : Nat) : Fld := ⟨0xB3C4 + 8 * n, 19, 0⟩
def VIO_I3C_CTL_EN (n : Nat) : Fld := ⟨0xBA80 + 16 * n, 0, 0⟩
def VIO_I3C_CTL_I2CRATE (n : Nat) : Fld := ⟨0xBA80 + 16 * n, 2, 1⟩
def VIO_I3C_CTL_PMIC (n : Nat) : Fld := ⟨0xBA80 + 16 * n, 3, 3⟩
def VIO_I3C_CTL_IBIEN (n : Nat) : Fld := ⟨0xBA80 + 16 * n, 4, 4⟩
def VIO_I3C_CLK_DIV (n : Nat) : Fld := ⟨0xBA84 + 16 * n, 6, 0⟩
def VIO_I3C_DAA_GO (n : Nat) : Fld := ⟨0xBA88 + 16 * n, 0, 0⟩
def VIO_I3C_DAA_FIRST (n : Nat) : Fld := ⟨0xBA88 + 16 * n, 14, 8⟩
def VIO_I3C_DAA_COUNT (n : Nat) : Fld := ⟨0xBA88 + 16 * n, 20, 16⟩
def VIO_I3C_DAA_BUSY (n : Nat) : Fld := ⟨0xBA88 + 16 * n, 24, 24⟩
def VIO_SPI_CTL_EN (n : Nat) : Fld := ⟨0xBAA0 + 16 * n, 0, 0⟩
def VIO_SPI_CTL_DIV (n : Nat) : Fld := ⟨0xBAA0 + 16 * n, 15, 8⟩
def VIO_SPI_CTL_CSPOL (n : Nat) : Fld := ⟨0xBAA0 + 16 * n, 19, 16⟩
def VIO_UART_CTL_EN : Fld := ⟨0xBAC0, 0, 0⟩
def VIO_UART_CTL_PARITY : Fld := ⟨0xBAC0, 2, 1⟩
def VIO_UART_CTL_STOP2 : Fld := ⟨0xBAC0, 3, 3⟩
def VIO_UART_BAUD_DIV : Fld := ⟨0xBAC4, 15, 0⟩
def VIO_UART_BAUD_FRAC : Fld := ⟨0xBAC4, 19, 16⟩
def VIO_LIN_CTL_EN (n : Nat) : Fld := ⟨0xBD00 + 256 * n, 0, 0⟩
def VIO_LIN_CTL_CMDR (n : Nat) : Fld := ⟨0xBD00 + 256 * n, 1, 1⟩
def VIO_LIN_CTL_RATE (n : Nat) : Fld := ⟨0xBD00 + 256 * n, 16, 2⟩
def VIO_LIN_STAT_WAKERX (n : Nat) : Fld := ⟨0xBD04 + 256 * n, 0, 0⟩
def VIO_LIN_STAT_SYNCERR (n : Nat) : Fld := ⟨0xBD04 + 256 * n, 1, 1⟩
def VIO_LIN_RSP_ID (k n : Nat) : Fld := ⟨0xBD10 + 0x100 * k + 12 * n, 5, 0⟩
def VIO_LIN_RSP_LEN (k n : Nat) : Fld := ⟨0xBD10 + 0x100 * k + 12 * n, 11, 8⟩
def VIO_LIN_RSP_ENH (k n : Nat) : Fld := ⟨0xBD10 + 0x100 * k + 12 * n, 12, 12⟩
def VIO_LIN_RSP_EN (k n : Nat) : Fld := ⟨0xBD10 + 0x100 * k + 12 * n, 15, 15⟩
def VIO_LIN_RSPD0_DATA (k n : Nat) : Fld := ⟨0xBD14 + 0x100 * k + 12 * n, 31, 0⟩
def VIO_LIN_RSPD1_DATA (k n : Nat) : Fld := ⟨0xBD18 + 0x100 * k + 12 * n, 31, 0⟩
def VIO_WAKE_EN (n : Nat) : Fld := ⟨0xBF00 + 4 * n, 0, 0⟩
def VIO_WAKE_POL (n : Nat) : Fld := ⟨0xBF00 + 4 * n, 1, 1⟩
def VIO_WAKE_FILT (n : Nat) : Fld := ⟨0xBF00 + 4 * n, 9, 2⟩
def VIO_WAKESTAT_LEVEL : Fld := ⟨0xBF10, 3, 0⟩
def VIO_WAKESTAT_EDGE : Fld := ⟨0xBF10, 7, 4⟩
def PWR_MODECMD_TARGET : Fld := ⟨0xC000, 2, 0⟩
def PWR_STATUS_CFG_REJ : Fld := ⟨0xC004, 0, 0⟩
def PWR_STATUS_SHED : Fld := ⟨0xC004, 2, 1⟩
def PWR_STATUS_KL30 : Fld := ⟨0xC004, 4, 3⟩
def PWR_STATUS_KL15 : Fld := ⟨0xC004, 5, 5⟩
def PWR_STATUS_PG : Fld := ⟨0xC004, 8, 6⟩
def PWR_STATUS_VLOW : Fld := ⟨0xC004, 9, 9⟩
def PWR_STATUS_HOT : Fld := ⟨0xC004, 10, 10⟩
def PWR_STATUS_CRIT : Fld := ⟨0xC004, 11, 11⟩
def PWR_STATUS_PMICNAK : Fld := ⟨0xC004, 12, 12⟩
def PWR_STATUS_PGTO : Fld := ⟨0xC004, 13, 13⟩
def PWR_STATUS_EPARK : Fld := ⟨0xC004, 14, 14⟩
def PWR_RWCTL_KLEN : Fld := ⟨0xC008, 0, 0⟩
def PWR_VCORE_WARN : Fld := ⟨0xC00C, 5, 0⟩
def PWR_VCORE_HYS : Fld := ⟨0xC00C, 11, 8⟩
def PWR_KLTIME_MICRO : Fld := ⟨0xC010, 7, 0⟩
def PWR_KLTIME_RECOVER : Fld := ⟨0xC010, 17, 8⟩
def PWR_KLTIME_OV : Fld := ⟨0xC010, 29, 18⟩
def PWR_SLATE_CELLS : Fld := ⟨0xC014, 4, 0⟩
def PWR_SLATE_MINPRI : Fld := ⟨0xC014, 10, 8⟩
def PWR_SLATE_PAINT : Fld := ⟨0xC014, 15, 12⟩
def PWR_SLATE_BLCAP : Fld := ⟨0xC014, 27, 16⟩
def PWR_THERM_HOT : Fld := ⟨0xC018, 7, 0⟩
def PWR_THERM_CRIT : Fld := ⟨0xC018, 15, 8⟩
def PWR_TEMP_MAX : Fld := ⟨0xC01C, 8, 0⟩
def PWR_TEMP_TRIP : Fld := ⟨0xC01C, 9, 9⟩
def PWR_PGWAIT_MS : Fld := ⟨0xC020, 7, 0⟩
def PWR_PMIC_ADDR : Fld := ⟨0xC024, 6, 0⟩
def PWR_PMIC_EN : Fld := ⟨0xC024, 8, 8⟩
def PWR_EVCNT_MICRO : Fld := ⟨0xC028, 7, 0⟩
def PWR_EVCNT_CRANK : Fld := ⟨0xC028, 15, 8⟩
def PWR_EVCNT_OV : Fld := ⟨0xC028, 23, 16⟩
def PWR_EVCNT_EPARK : Fld := ⟨0xC028, 31, 24⟩
def PWR_LASTEV_LO_TIME : Fld := ⟨0xC02C, 31, 0⟩
def PWR_LASTEV_HI_TIME : Fld := ⟨0xC030, 31, 0⟩
def PWR_PMICSEQ_REG (k n : Nat) : Fld := ⟨0xC100 + 0x20 * k + 4 * n, 7, 0⟩
def PWR_PMICSEQ_VAL (k n : Nat) : Fld := ⟨0xC100 + 0x20 * k + 4 * n, 15, 8⟩
def PWR_PMICSEQ_VALID (k n : Nat) : Fld := ⟨0xC100 + 0x20 * k + 4 * n, 16, 16⟩
def GKP_CMD_OP : Fld := ⟨0x1000, 3, 0⟩
def GKP_CMD_SLOT : Fld := ⟨0x1000, 6, 4⟩
def GKP_STATUS_CFG_REJ : Fld := ⟨0x1004, 0, 0⟩
def GKP_STATUS_BUSY : Fld := ⟨0x1004, 1, 1⟩
def GKP_STATUS_RESULT : Fld := ⟨0x1004, 4, 2⟩
def GKP_STATUS_DIGEST : Fld := ⟨0x1004, 6, 5⟩
def GKP_STATUS_GATED : Fld := ⟨0x1004, 7, 7⟩
def GKP_STATUS_TAMPER : Fld := ⟨0x1004, 8, 8⟩
def GKP_STATUS_M3DONE : Fld := ⟨0x1004, 9, 9⟩
def GKP_ADDR_L_ADDR : Fld := ⟨0x1008, 31, 0⟩
def GKP_ADDR_H_ADDR : Fld := ⟨0x100C, 7, 0⟩
def GKP_LEN_LEN : Fld := ⟨0x1010, 27, 0⟩
def GKP_QMASK_MASK : Fld := ⟨0x1014, 7, 0⟩
def GKP_IN_IN (n : Nat) : Fld := ⟨0x1020 + 4 * n, 31, 0⟩
def GKP_OUT_OUT (n : Nat) : Fld := ⟨0x1040 + 4 * n, 31, 0⟩
def GKP_KSTAT_KSTAT : Fld := ⟨0x1060, 31, 0⟩
def GKP_KLOCK_ULOCK : Fld := ⟨0x1064, 7, 0⟩
def GKP_KLOCK_WLOCK : Fld := ⟨0x1064, 15, 8⟩
def GKP_ZEROIZE_GO : Fld := ⟨0x1068, 0, 0⟩
def GKP_FLOOR_FLOOR : Fld := ⟨0x106C, 5, 0⟩
def GKP_K4PUB_KEY (n : Nat) : Fld := ⟨0x1080 + 4 * n, 31, 0⟩
def GKP_M_M (n : Nat) : Fld := ⟨0x1100 + 4 * n, 31, 0⟩
def GKP_BOOT_SLOT : Fld := ⟨0x1200, 0, 0⟩
def GKP_BOOT_TRIAL : Fld := ⟨0x1200, 1, 1⟩
def GKP_BOOT_RECOVERY : Fld := ⟨0x1200, 2, 2⟩
def GKP_BOOT_NEXT : Fld := ⟨0x1200, 5, 4⟩
def GKP_BOOT_TRIMBAD : Fld := ⟨0x1200, 6, 6⟩
def GKP_BOOTLATCH_FAIL : Fld := ⟨0x1204, 1, 0⟩
def GKP_BOOTLATCH_FAILS : Fld := ⟨0x1204, 15, 8⟩
def GKP_TRIAL_LIMIT : Fld := ⟨0x1208, 9, 0⟩
def GKP_TRIAL_REMAIN : Fld := ⟨0x1208, 25, 16⟩
def GKP_SQ_WORD (n : Nat) : Fld := ⟨0x1300 + 4 * n, 31, 0⟩
def GKP_SCTL_GO : Fld := ⟨0x1400, 0, 0⟩
def GKP_SCTL_COUNT : Fld := ⟨0x1400, 4, 1⟩
def GKP_STAG_TAG (n : Nat) : Fld := ⟨0x1420 + 4 * n, 31, 0⟩
def ALM_STATUS_CFG_REJ : Fld := ⟨0xE000, 0, 0⟩
def ALM_STATUS_ECCCORR_SAT : Fld := ⟨0xE000, 1, 1⟩
def ALM_FIRST_SOURCE : Fld := ⟨0xE004, 7, 0⟩
def ALM_FIRST_CLASS : Fld := ⟨0xE004, 10, 8⟩
def ALM_FIRST_VALID : Fld := ⟨0xE004, 15, 15⟩
def ALM_FIRST_TIME_LO_TIME : Fld := ⟨0xE008, 31, 0⟩
def ALM_FIRST_TIME_HI_TIME : Fld := ⟨0xE00C, 31, 0⟩
def ALM_PEND_PEND (n : Nat) : Fld := ⟨0xE010 + 4 * n, 31, 0⟩
def ALM_SWRAISE_NUM : Fld := ⟨0xE020, 3, 0⟩
def ALM_WDOG_PERIOD : Fld := ⟨0xE030, 9, 0⟩
def ALM_WDOG_EN : Fld := ⟨0xE030, 16, 16⟩
def ALM_WDOG_KICK : Fld := ⟨0xE030, 31, 24⟩
def ALM_AONREC_CAUSE : Fld := ⟨0xE040, 3, 0⟩
def ALM_AONREC_SOURCE : Fld := ⟨0xE040, 15, 8⟩
def ALM_AONREC_VALID : Fld := ⟨0xE040, 16, 16⟩
def ALM_AONREC_LOST : Fld := ⟨0xE040, 17, 17⟩
def ALM_AONREC_TIME_LO_TIME : Fld := ⟨0xE044, 31, 0⟩
def ALM_AONREC_TIME_HI_TIME : Fld := ⟨0xE048, 31, 0⟩
def ALM_CELLREL_CELL : Fld := ⟨0xE050, 7, 0⟩
def ALM_CELLREL_GO : Fld := ⟨0xE050, 8, 8⟩
def ALM_CELLSTAT_BUSY : Fld := ⟨0xE054, 0, 0⟩
def ALM_CELLSTAT_RESULT : Fld := ⟨0xE054, 2, 1⟩
def ALM_QUAR_QUAR (n : Nat) : Fld := ⟨0xE060 + 4 * n, 31, 0⟩
def ALM_QUARLIM_LIMIT : Fld := ⟨0xE080, 8, 0⟩
def ALM_VERM_FIRST (n : Nat) : Fld := ⟨0xE090 + 4 * n, 15, 0⟩
def ALM_VERM_TILES (n : Nat) : Fld := ⟨0xE090 + 4 * n, 16, 16⟩
def ALM_KPORT_L_ADDR : Fld := ⟨0xE0A0, 31, 0⟩
def ALM_KPORT_H_ADDR : Fld := ⟨0xE0A4, 7, 0⟩
def ALM_LOCKSTAT_MISMATCH : Fld := ⟨0xE0B0, 0, 0⟩
def ALM_SCRUB_LARDER_MS : Fld := ⟨0xE0C0, 9, 0⟩
def ALM_SCRUB_DRAM_S : Fld := ⟨0xE0C0, 25, 16⟩
def ALM_ECCCORR_CNT_COUNT : Fld := ⟨0xE0C4, 31, 0⟩
def ALM_DRAMUE_L_ADDR : Fld := ⟨0xE0C8, 31, 0⟩
def ALM_DRAMUE_H_ADDR : Fld := ⟨0xE0CC, 1, 0⟩
def ALM_SRC_CLASS (n : Nat) : Fld := ⟨0xE100 + 4 * n, 2, 0⟩
def ALM_SRC_FLOOR (n : Nat) : Fld := ⟨0xE100 + 4 * n, 6, 4⟩
def ALM_SRC_COUNT (n : Nat) : Fld := ⟨0xE100 + 4 * n, 23, 16⟩
def PLT_PCIE_CTL_LINKEN : Fld := ⟨0x10000, 0, 0⟩
def PLT_PCIE_CTL_LINKUP : Fld := ⟨0x10000, 1, 1⟩
def PLT_STATUS_CFG_REJ : Fld := ⟨0x10004, 0, 0⟩
def PLT_HOSTWIN_BASE : Fld := ⟨0x10008, 26, 0⟩
def PLT_DDR_CFG_CHEN : Fld := ⟨0x10100, 1, 0⟩
def PLT_DDR_CFG_RANK2 : Fld := ⟨0x10100, 2, 2⟩
def PLT_DDR_CFG_DENS : Fld := ⟨0x10100, 6, 4⟩
def PLT_DDR_CFG_RATE : Fld := ⟨0x10100, 10, 8⟩
def PLT_DDR_CFG_IECC : Fld := ⟨0x10100, 12, 12⟩
def PLT_DDR_CFG_ILV : Fld := ⟨0x10100, 13, 13⟩
def PLT_DDR_CMD_TRAIN : Fld := ⟨0x10104, 0, 0⟩
def PLT_DDR_STAT_BUSY : Fld := ⟨0x10108, 0, 0⟩
def PLT_DDR_STAT_READY : Fld := ⟨0x10108, 1, 1⟩
def PLT_DDR_STAT_FAIL : Fld := ⟨0x10108, 2, 2⟩
def PLT_DDR_STAT_STEP : Fld := ⟨0x10108, 6, 4⟩
def PLT_DDR_STAT_FAILCH : Fld := ⟨0x10108, 8, 8⟩
def PLT_DDR_STAT_CAP : Fld := ⟨0x10108, 31, 16⟩
def PLT_XSP_CTL_EN : Fld := ⟨0x10200, 0, 0⟩
def PLT_XSP_CTL_MODE : Fld := ⟨0x10200, 1, 1⟩
def PLT_XSP_SIZE_MIB : Fld := ⟨0x10204, 15, 0⟩
def PLT_XSP_SIZE_SFDPOK : Fld := ⟨0x10204, 16, 16⟩
def PLT_XSP_CMD_OP : Fld := ⟨0x10208, 1, 0⟩
def PLT_XSP_CMD_BUSY : Fld := ⟨0x10208, 8, 8⟩
def PLT_XSP_CMD_DONE : Fld := ⟨0x10208, 9, 9⟩
def PLT_XSP_CMD_ERR : Fld := ⟨0x10208, 10, 10⟩
def PLT_XSP_ADDR_ADDR : Fld := ⟨0x1020C, 31, 0⟩
def PLT_XSP_LEN_LEN : Fld := ⟨0x10210, 8, 0⟩
def PLT_XSP_BUF_DATA (n : Nat) : Fld := ⟨0x10300 + 4 * n, 31, 0⟩

end Sys2Proof.Machine.F
end

