-- ==== Sys2Proof/Machine/RegTable.lean ====
section
/-!
DEFINITION. The setup registers of the XG2560, row by row from the register tables of the spec (01 R56, 02 R99,
04 R214, 07 R374, 08 R432, 09 R494, 10 R563, 11 R591, 12 R655, 13 R704, 14 R748, 15 R789, 16 R823, 17 R863, 18 R923,
19 R934, 19 R974). Offsets are BAR0 offsets; the platform window of 19 R934, which BAR0 does not show, is held from 0x10000.
-/
namespace Sys2Proof.Machine

def regsGena : List RegRow := [
  ⟨0x0, 1, 0, [⟨15, 0, .ro, 0x2560, .live, .both⟩, ⟨23, 16, .ro, 0x58, .live, .both⟩, ⟨31, 24, .ro, 0xA1, .live, .both⟩]⟩,
  ⟨0x4, 1, 0, [⟨2, 0, .ro, 2, .live, .both⟩, ⟨5, 3, .ro, 1, .live, .both⟩, ⟨6, 6, .ro, 0, .live, .both⟩]⟩,
  ⟨0x8, 1, 0, [⟨31, 0, .ro, 0, .live, .both⟩]⟩,
  ⟨0xC, 1, 0, [⟨31, 0, .sn, 0, .live, .both⟩]⟩,
  ⟨0x10, 1, 0, [⟨0, 0, .w1c, 0, .live, .both⟩, ⟨1, 1, .w1c, 0, .live, .both⟩]⟩,
  ⟨0x14, 1, 0, [⟨31, 0, .rw, 0, .live, .warden⟩]⟩]

/-- The GEN window. -/
def regsGen : List RegRow := regsGena

def regsGkpa : List RegRow := [
  ⟨0x1000, 1, 0, [⟨3, 0, .wo, 0, .live, .warden⟩, ⟨6, 4, .wo, 0, .live, .warden⟩]⟩,
  ⟨0x1004, 1, 0, [⟨0, 0, .w1c, 0, .live, .warden⟩, ⟨1, 1, .ro, 0, .live, .both⟩, ⟨4, 2, .ro, 0, .live, .both⟩, ⟨6, 5, .ro, 0, .live, .both⟩, ⟨7, 7, .ro, 1, .live, .both⟩, ⟨8, 8, .w1c, 0, .live, .warden⟩, ⟨9, 9, .ro, 0, .live, .both⟩]⟩,
  ⟨0x1008, 1, 0, [⟨31, 0, .rw, 0, .live, .warden⟩]⟩,
  ⟨0x100C, 1, 0, [⟨7, 0, .rw, 0, .live, .warden⟩]⟩,
  ⟨0x1010, 1, 0, [⟨27, 0, .rw, 0, .live, .warden⟩]⟩,
  ⟨0x1014, 1, 0, [⟨7, 0, .rw, 0, .live, .warden⟩]⟩,
  ⟨0x1020, 8, 4, [⟨31, 0, .rw, 0, .live, .warden⟩]⟩,
  ⟨0x1040, 8, 4, [⟨31, 0, .ro, 0, .live, .both⟩]⟩,
  ⟨0x1060, 1, 0, [⟨31, 0, .ro, 0, .live, .both⟩]⟩,
  ⟨0x1064, 1, 0, [⟨7, 0, (.l1 none), 0, .live, .warden⟩, ⟨15, 8, (.l1 none), 0, .live, .warden⟩]⟩,
  ⟨0x1068, 1, 0, [⟨0, 0, .wo, 0, .live, .warden⟩]⟩,
  ⟨0x106C, 1, 0, [⟨5, 0, .ro, 0, .live, .both⟩]⟩]

def regsGkpb : List RegRow := [
  ⟨0x1080, 16, 4, [⟨31, 0, .ro, 0, .live, .both⟩]⟩,
  ⟨0x1100, 64, 4, [⟨31, 0, .ro, 0, .live, .both⟩]⟩,
  ⟨0x1200, 1, 0, [⟨0, 0, .rw, 0, .live, .warden⟩, ⟨1, 1, .rw, 0, .live, .warden⟩, ⟨2, 2, .rw, 0, .live, .warden⟩, ⟨5, 4, .rw, 0, .live, .warden⟩, ⟨6, 6, .rw, 0, .live, .warden⟩]⟩,
  ⟨0x1204, 1, 0, [⟨1, 0, .rw, 0, .live, .warden⟩, ⟨15, 8, .ro, 0, .live, .both⟩]⟩,
  ⟨0x1208, 1, 0, [⟨9, 0, .rw, 120, .live, .warden⟩, ⟨25, 16, .ro, 0, .live, .both⟩]⟩,
  ⟨0x1300, 64, 4, [⟨31, 0, .rw, 0, (.halt .gkpStream), .warden⟩]⟩,
  ⟨0x1400, 1, 0, [⟨0, 0, .wo, 0, (.halt .gkpStream), .warden⟩, ⟨4, 1, .rw, 0, (.halt .gkpStream), .warden⟩]⟩,
  ⟨0x1420, 128, 4, [⟨31, 0, .rw, 0, (.halt .gkpStream), .warden⟩]⟩]

/-- The GKP window. -/
def regsGkp : List RegRow := regsGkpa ++ regsGkpb

def regsEvra : List RegRow := [
  ⟨0x2000, 1, 0, [⟨31, 8, .rw, 0, (.halt .evrAll), .both⟩]⟩,
  ⟨0x2004, 1, 0, [⟨31, 0, .rw, 0, (.halt .evrAll), .both⟩]⟩,
  ⟨0x2008, 1, 0, [⟨0, 0, .w1c, 0, .live, .both⟩, ⟨1, 1, .ro, 1, .live, .both⟩, ⟨2, 2, .w1c, 0, .live, .both⟩, ⟨3, 3, .w1c, 0, .live, .both⟩, ⟨4, 4, .w1c, 0, .live, .both⟩]⟩,
  ⟨0x200C, 1, 0, [⟨3, 0, .ro, 0, .live, .both⟩, ⟨7, 4, .ro, 0, .live, .both⟩, ⟨31, 16, .ro, 0, .live, .both⟩]⟩,
  ⟨0x2010, 1, 0, [⟨31, 0, .rw, 0, .live, .warden⟩]⟩,
  ⟨0x2014, 1, 0, [⟨7, 0, .rw, 0, .live, .warden⟩]⟩,
  ⟨0x2018, 1, 0, [⟨31, 0, .rw, 0, .live, .warden⟩]⟩,
  ⟨0x201C, 1, 0, [⟨7, 0, .rw, 0, .live, .warden⟩]⟩,
  ⟨0x2020, 1, 0, [⟨23, 0, .rw, 0, .live, .warden⟩]⟩,
  ⟨0x2100, 16, 32, [⟨31, 6, .rw, 0, (.halt .evrRing), .both⟩]⟩,
  ⟨0x2104, 16, 32, [⟨31, 0, .rw, 0, (.halt .evrRing), .both⟩]⟩,
  ⟨0x2108, 16, 32, [⟨31, 5, .rw, 0, (.halt .evrRing), .both⟩]⟩]

def regsEvrb : List RegRow := [
  ⟨0x210C, 16, 32, [⟨31, 0, .rw, 0, (.halt .evrRing), .both⟩]⟩,
  ⟨0x2110, 16, 32, [⟨0, 0, .rw, 0, .live, .both⟩, ⟨8, 4, .rw, 4, (.halt .evrRing), .both⟩]⟩,
  ⟨0x2114, 16, 32, [⟨0, 0, .ro, 0, .live, .both⟩, ⟨31, 16, .ro, 0, .live, .both⟩]⟩,
  ⟨0x2118, 16, 32, [⟨8, 0, .ro, 0, .live, .both⟩, ⟨31, 16, .ro, 0, .live, .both⟩]⟩,
  ⟨0x2300, 1, 0, [⟨31, 5, .rw, 0, (.halt .evrEvt), .both⟩]⟩,
  ⟨0x2304, 1, 0, [⟨31, 0, .rw, 0, (.halt .evrEvt), .both⟩]⟩,
  ⟨0x2308, 1, 0, [⟨0, 0, .rw, 0, .live, .both⟩, ⟨8, 4, .rw, 4, (.halt .evrEvt), .both⟩]⟩,
  ⟨0x230C, 1, 0, [⟨15, 0, .ro, 0, .live, .both⟩]⟩,
  ⟨0x2310, 1, 0, [⟨31, 0, .ro, 0, .live, .both⟩]⟩,
  ⟨0x2320, 1, 0, [⟨31, 5, .rw, 0, (.halt .evrLog), .both⟩]⟩,
  ⟨0x2324, 1, 0, [⟨31, 0, .rw, 0, (.halt .evrLog), .both⟩]⟩,
  ⟨0x2328, 1, 0, [⟨0, 0, .rw, 0, .live, .both⟩, ⟨8, 4, .rw, 4, (.halt .evrLog), .both⟩]⟩]

def regsEvrc : List RegRow := [
  ⟨0x232C, 1, 0, [⟨15, 0, .ro, 0, .live, .both⟩]⟩,
  ⟨0x2330, 1, 0, [⟨31, 0, .ro, 0, .live, .both⟩]⟩]

/-- The EVR window. -/
def regsEvr : List RegRow := regsEvra ++ regsEvrb ++ regsEvrc

def regsShpa : List RegRow := [
  ⟨0x3000, 1, 0, [⟨0, 0, .rw, 0, .live, .warden⟩, ⟨1, 1, .rw, 1, .live, .warden⟩, ⟨2, 2, .rw, 0, .live, .warden⟩]⟩,
  ⟨0x3004, 1, 0, [⟨15, 0, .rw, 50, (.edge .place), .warden⟩]⟩,
  ⟨0x3008, 1, 0, [⟨13, 0, .rw, 1024, .live, .warden⟩]⟩,
  ⟨0x300C, 1, 0, [⟨11, 0, .rw, 200, .live, .warden⟩]⟩,
  ⟨0x3010, 1, 0, [⟨0, 0, .w1c, 0, .live, .both⟩, ⟨1, 1, .w1c, 0, .live, .both⟩, ⟨2, 2, .w1c, 0, .live, .both⟩]⟩,
  ⟨0x3014, 1, 0, [⟨15, 1, .ro, 0, .live, .both⟩]⟩,
  ⟨0x3018, 1, 0, [⟨12, 0, .ro, 0, .live, .both⟩, ⟨28, 16, .ro, 0, .live, .both⟩]⟩,
  ⟨0x301C, 1, 0, [⟨31, 0, .rw, 0, .live, .warden⟩]⟩,
  ⟨0x3020, 1, 0, [⟨31, 0, .rw, 0, .live, .warden⟩]⟩,
  ⟨0x3024, 1, 0, [⟨31, 0, .ro, 0, .live, .both⟩]⟩,
  ⟨0x3028, 1, 0, [⟨31, 0, .sn, 0, .live, .both⟩]⟩,
  ⟨0x3030, 1, 0, [⟨11, 0, .rw, 0, .live, .each⟩]⟩]

def regsShpb : List RegRow := [
  ⟨0x3034, 1, 0, [⟨2, 0, .ro, 0, .live, .both⟩, ⟨7, 4, .ro, 0, .live, .both⟩, ⟨10, 8, .ro, 0, .live, .both⟩, ⟨13, 12, .ro, 0, .live, .both⟩, ⟨25, 14, .ro, 0, .live, .both⟩, ⟨29, 26, .ro, 0, .live, .both⟩]⟩,
  ⟨0x3104, 15, 4, [⟨0, 0, .ro, 0, .live, .both⟩, ⟨4, 1, .ro, 0, .live, .both⟩, ⟨16, 5, .ro, 0, .live, .both⟩, ⟨30, 17, .ro, 0, .live, .both⟩]⟩]

/-- The SHP window. -/
def regsShp : List RegRow := regsShpa ++ regsShpb

def regsSpna : List RegRow := [
  ⟨0x4000, 1, 0, [⟨0, 0, .rw, 0, .live, .warden⟩, ⟨1, 1, (.l1 none), 0, .live, .warden⟩]⟩,
  ⟨0x4004, 1, 0, [⟨29, 0, (.l1 (some .spn)), 0, .live, .warden⟩]⟩,
  ⟨0x4008, 1, 0, [⟨29, 0, (.l1 (some .spn)), 0, .live, .warden⟩]⟩,
  ⟨0x400C, 1, 0, [⟨29, 0, (.l1 (some .spn)), 0, .live, .warden⟩]⟩,
  ⟨0x4010, 1, 0, [⟨29, 0, (.l1 (some .spn)), 0, .live, .warden⟩]⟩,
  ⟨0x4014, 1, 0, [⟨18, 0, (.l1 (some .spn)), 0, .live, .warden⟩]⟩,
  ⟨0x4018, 1, 0, [⟨31, 0, .rw, 0, (.edge .gcStart), .warden⟩]⟩,
  ⟨0x401C, 1, 0, [⟨7, 0, .rw, 0, (.edge .gcStart), .warden⟩]⟩,
  ⟨0x4020, 1, 0, [⟨7, 0, .rw, 25, (.edge .gcStart), .warden⟩, ⟨15, 8, .rw, 25, (.edge .gcSelect), .warden⟩, ⟨27, 16, .rw, 64, (.edge .gcSelect), .warden⟩]⟩,
  ⟨0x4024, 1, 0, [⟨15, 0, .rw, 0, (.edge .gcEnd), .warden⟩]⟩,
  ⟨0x4028, 1, 0, [⟨0, 0, .wo, 0, .live, .both⟩]⟩,
  ⟨0x402C, 1, 0, [⟨2, 0, .ro, 0, .live, .both⟩, ⟨3, 3, .ro, 0, .live, .both⟩, ⟨4, 4, .w1c, 0, .live, .warden⟩, ⟨5, 5, .w1c, 0, .live, .warden⟩, ⟨6, 6, .w1c, 0, .live, .warden⟩]⟩]

def regsSpnb : List RegRow := [
  ⟨0x4030, 1, 0, [⟨31, 0, .ro, 0, .live, .both⟩]⟩,
  ⟨0x4034, 1, 0, [⟨31, 0, .ro, 0, .live, .both⟩]⟩,
  ⟨0x4040, 1, 0, [⟨31, 0, .rw, 0, .live, .warden⟩]⟩,
  ⟨0x4044, 1, 0, [⟨7, 0, .rw, 0, .live, .warden⟩]⟩,
  ⟨0x4048, 1, 0, [⟨0, 0, .wo, 0, .live, .warden⟩, ⟨1, 1, .wo, 0, .live, .warden⟩]⟩]

/-- The SPN window. -/
def regsSpn : List RegRow := regsSpna ++ regsSpnb

def regsFrya : List RegRow := [
  ⟨0x5F00, 1, 0, [⟨18, 0, (.l1 (some .fryCode)), 0, .live, .warden⟩]⟩,
  ⟨0x5F04, 1, 0, [⟨13, 0, (.l1 (some .fryCode)), 0, .live, .warden⟩]⟩,
  ⟨0x5F08, 1, 0, [⟨0, 0, (.l1 none), 0, .live, .warden⟩]⟩,
  ⟨0x5000, 1, 0, [⟨12, 0, (.l1 (some .fry)), 0, .live, .warden⟩]⟩,
  ⟨0x5004, 1, 0, [⟨12, 0, (.l1 (some .fry)), 0, .live, .warden⟩]⟩,
  ⟨0x5008, 1, 0, [⟨0, 0, (.l1 none), 0, .live, .warden⟩]⟩,
  ⟨0x500C, 1, 0, [⟨0, 0, .w1c, 0, .live, .warden⟩, ⟨1, 1, .w1c, 0, .live, .warden⟩, ⟨2, 2, .w1c, 0, .live, .warden⟩]⟩,
  ⟨0x5010, 1, 0, [⟨31, 0, .rw, 0, .live, .warden⟩]⟩,
  ⟨0x5014, 1, 0, [⟨11, 0, .ro, 2048, .live, .both⟩]⟩,
  ⟨0x5018, 1, 0, [⟨29, 0, .ro, 0, .live, .both⟩]⟩,
  ⟨0x5100, 32, 4, [⟨29, 0, .rw, 0, .live, .warden⟩, ⟨31, 31, .rw, 0, .live, .warden⟩]⟩]

/-- The FRY window. -/
def regsFry : List RegRow := regsFrya

def regsMira : List RegRow := [
  ⟨0x6000, 2, 256, [⟨0, 0, .rw, 0, .live, .both⟩, ⟨4, 1, .rw, 0, (.edgeI .mirI), .both⟩, ⟨5, 5, .rw, 0, (.edgeI .mirI), .both⟩, ⟨7, 6, .rw, 0, (.halt .mir), .both⟩]⟩,
  ⟨0x6004, 2, 256, [⟨31, 0, .rw, 0xFF, (.edgeI .mirI), .both⟩]⟩,
  ⟨0x6008, 2, 256, [⟨31, 24, .rw, 0xFF, (.edgeI .mirI), .both⟩, ⟨23, 16, .rw, 0xFF, (.edgeI .mirI), .both⟩, ⟨15, 8, .rw, 0xFF, (.edgeI .mirI), .both⟩, ⟨7, 0, .rw, 0xFF, (.edgeI .mirI), .both⟩]⟩,
  ⟨0x6010, 2, 256, [⟨12, 0, .rw, 0, (.halt .mir), .both⟩, ⟨27, 16, .rw, 0, (.halt .mir), .both⟩]⟩,
  ⟨0x6014, 2, 256, [⟨11, 0, .rw, 0, (.halt .mir), .both⟩, ⟨27, 16, .rw, 0, (.halt .mir), .both⟩]⟩,
  ⟨0x6018, 2, 256, [⟨12, 0, .rw, 0, (.halt .mir), .both⟩, ⟨27, 16, .rw, 0, (.halt .mir), .both⟩]⟩,
  ⟨0x601C, 2, 256, [⟨11, 0, .rw, 0, (.halt .mir), .both⟩, ⟨27, 16, .rw, 0, (.halt .mir), .both⟩]⟩,
  ⟨0x6020, 2, 256, [⟨18, 0, .rw, 0, (.halt .mir), .both⟩]⟩,
  ⟨0x6024, 2, 256, [⟨2, 0, .rw, 0, (.halt .mir), .both⟩, ⟨15, 4, .rw, 0, (.halt .mir), .both⟩, ⟨16, 16, .rw, 0, (.halt .mir), .both⟩, ⟨17, 17, .rw, 0, (.halt .mir), .both⟩, ⟨19, 18, .rw, 0, (.halt .mir), .both⟩, ⟨20, 20, .rw, 0, (.halt .mir), .both⟩]⟩,
  ⟨0x6028, 2, 256, [⟨11, 0, .rw, 0, (.edgeI .mirI), .both⟩, ⟨12, 12, .rw, 0, .live, .both⟩, ⟨31, 16, .rw, 200, (.halt .mir), .both⟩]⟩,
  ⟨0x602C, 2, 256, [⟨0, 0, .w1c, 0, .live, .both⟩, ⟨1, 1, .ro, 0, .live, .both⟩, ⟨2, 2, .ro, 0, .live, .both⟩, ⟨3, 3, .w1c, 0, .live, .both⟩, ⟨4, 4, .w1c, 0, .live, .both⟩]⟩,
  ⟨0x6030, 2, 256, [⟨31, 0, .ro, 0, .live, .both⟩]⟩]

def regsMirb : List RegRow := [
  ⟨0x6034, 2, 256, [⟨31, 0, .sn, 0, .live, .both⟩]⟩,
  ⟨0x6038, 2, 256, [⟨31, 0, .ro, 0, .live, .both⟩]⟩,
  ⟨0x603C, 2, 256, [⟨31, 0, .sn, 0, .live, .both⟩]⟩,
  ⟨0x6040, 2, 256, [⟨31, 0, .rw, 0, .live, .both⟩]⟩,
  ⟨0x6044, 2, 256, [⟨15, 0, .rw, 0, .live, .warden⟩]⟩,
  ⟨0x6200, 1, 0, [⟨5, 0, .rw, 0, .live, .both⟩, ⟨12, 8, .rw, 0, .live, .both⟩, ⟨16, 16, .wo, 0, .live, .both⟩, ⟨17, 17, .ro, 0, .live, .both⟩]⟩,
  ⟨0x6204, 4, 4, [⟨31, 0, .rw, 0, .live, .both⟩]⟩]

/-- The MIR window. -/
def regsMir : List RegRow := regsMira ++ regsMirb

def regsPnta : List RegRow := [
  ⟨0x7000, 1, 0, [⟨0, 0, .rw, 0, .live, .warden⟩, ⟨1, 1, (.l1 none), 0, .live, .warden⟩]⟩,
  ⟨0x7004, 1, 0, [⟨12, 0, (.l1 (some .pnt)), 0, .live, .warden⟩]⟩,
  ⟨0x7008, 1, 0, [⟨15, 0, (.l1 (some .pnt)), 0, .live, .warden⟩]⟩,
  ⟨0x700C, 1, 0, [⟨15, 0, (.l1 (some .pnt)), 0, .live, .warden⟩]⟩,
  ⟨0x7010, 1, 0, [⟨3, 0, .rw, 3, .live, .both⟩, ⟨7, 4, .rw, 1, .live, .both⟩]⟩,
  ⟨0x7014, 1, 0, [⟨0, 0, .w1c, 0, .live, .both⟩, ⟨1, 1, .w1c, 0, .live, .both⟩, ⟨2, 2, .w1c, 0, .live, .both⟩]⟩,
  ⟨0x7018, 1, 0, [⟨31, 0, .rw, 0, .live, .both⟩]⟩,
  ⟨0x701C, 1, 0, [⟨15, 0, .ro, 0, .live, .both⟩]⟩,
  ⟨0x7020, 1, 0, [⟨2, 0, .ro, 0, .live, .both⟩, ⟨7, 4, .ro, 0, .live, .both⟩]⟩]

/-- The PNT window. -/
def regsPnt : List RegRow := regsPnta

def regsLmpa : List RegRow := [
  ⟨0x8000, 1, 0, [⟨0, 0, (.l1 none), 0, .live, .warden⟩, ⟨1, 1, .rw, 0, .live, .warden⟩]⟩,
  ⟨0x8004, 1, 0, [⟨0, 0, .w1c, 0, .live, .warden⟩, ⟨1, 1, .ro, 0, .live, .both⟩, ⟨5, 2, .ro, 0, .live, .both⟩]⟩,
  ⟨0x8008, 1, 0, [⟨31, 0, .ro, 0, .live, .both⟩]⟩,
  ⟨0x800C, 1, 0, [⟨31, 0, .sn, 0, .live, .both⟩]⟩,
  ⟨0x8010, 1, 0, [⟨31, 0, .ro, 0, .live, .both⟩]⟩,
  ⟨0x8014, 1, 0, [⟨31, 0, .sn, 0, .live, .both⟩]⟩,
  ⟨0x8018, 1, 0, [⟨31, 0, .ro, 0, .live, .both⟩]⟩,
  ⟨0x801C, 1, 0, [⟨31, 0, .ro, 0, .live, .both⟩]⟩,
  ⟨0x8020, 1, 0, [⟨31, 0, .ro, 0, .live, .both⟩]⟩,
  ⟨0x8024, 1, 0, [⟨31, 0, .sn, 0, .live, .both⟩]⟩,
  ⟨0x8028, 1, 0, [⟨31, 0, .wo, 0, .live, .warden⟩]⟩,
  ⟨0x802C, 1, 0, [⟨31, 0, .wo, 0, .live, .warden⟩]⟩]

def regsLmpb : List RegRow := [
  ⟨0x8030, 1, 0, [⟨31, 0, .wo, 0, .live, .warden⟩]⟩,
  ⟨0x8034, 1, 0, [⟨31, 0, .wo, 0, .live, .warden⟩]⟩,
  ⟨0x8038, 1, 0, [⟨31, 0, .wo, 0, .live, .warden⟩]⟩,
  ⟨0x803C, 1, 0, [⟨31, 0, .wo, 0, .live, .warden⟩]⟩,
  ⟨0x8040, 1, 0, [⟨18, 2, .rw, 0, .live, .warden⟩]⟩,
  ⟨0x8044, 1, 0, [⟨31, 0, .wo, 0, .live, .warden⟩]⟩,
  ⟨0x8048, 1, 0, [⟨15, 0, .rw, 0, .live, .warden⟩]⟩,
  ⟨0x804C, 1, 0, [⟨7, 0, .ro, 0, .live, .both⟩]⟩,
  ⟨0x8100, 16, 4, [⟨5, 0, .rw, 0, .live, .warden⟩, ⟨9, 8, .rw, 0, .live, .warden⟩]⟩,
  ⟨0x8140, 1, 0, [⟨5, 0, .rw, 40, .live, .warden⟩, ⟨8, 8, .rw, 1, .live, .warden⟩]⟩,
  ⟨0x8144, 1, 0, [⟨15, 0, .w1c, 0, .live, .warden⟩, ⟨31, 16, .w1c, 0, .live, .warden⟩]⟩,
  ⟨0x8148, 1, 0, [⟨15, 0, .ro, 0, .live, .both⟩]⟩]

/-- The LMP window. -/
def regsLmp : List RegRow := regsLmpa ++ regsLmpb

def regsWita : List RegRow := [
  ⟨0x9000, 1, 0, [⟨0, 0, (.l1 none), 0, .live, .warden⟩, ⟨1, 1, .rw, 0, (.edge .wit), .warden⟩, ⟨2, 2, .rw, 0, .live, .warden⟩]⟩,
  ⟨0x9004, 1, 0, [⟨9, 0, .rw, 100, (.edge .wit), .warden⟩]⟩,
  ⟨0x9008, 1, 0, [⟨28, 0, .rw, 0, (.edge .wit), .warden⟩, ⟨29, 29, .rw, 0, (.edge .wit), .warden⟩, ⟨30, 30, .rw, 0, (.edge .wit), .warden⟩]⟩,
  ⟨0x900C, 1, 0, [⟨1, 0, .rw, 0, (.edge .wit), .warden⟩]⟩,
  ⟨0x9010, 1, 0, [⟨0, 0, .w1c, 0, .live, .warden⟩, ⟨1, 1, .w1c, 0, .live, .warden⟩, ⟨2, 2, .w1c, 0, .live, .warden⟩, ⟨3, 3, .ro, 0, .live, .both⟩, ⟨4, 4, .w1c, 0, .live, .warden⟩, ⟨5, 5, .w1c, 0, .live, .warden⟩, ⟨6, 6, .w1c, 0, .live, .warden⟩]⟩,
  ⟨0x9014, 1, 0, [⟨31, 0, .ro, 0, .live, .both⟩]⟩,
  ⟨0x9018, 1, 0, [⟨31, 0, .sn, 0, .live, .both⟩]⟩,
  ⟨0x901C, 1, 0, [⟨31, 0, .ro, 0, .live, .both⟩]⟩,
  ⟨0x9020, 1, 0, [⟨31, 0, .sn, 0, .live, .both⟩]⟩,
  ⟨0x9024, 1, 0, [⟨31, 0, .ro, 0, .live, .both⟩]⟩,
  ⟨0x9028, 1, 0, [⟨31, 0, .rw, 0, .live, .warden⟩]⟩,
  ⟨0x902C, 1, 0, [⟨31, 0, .rw, 0, .live, .warden⟩]⟩]

def regsWitb : List RegRow := [
  ⟨0x9030, 1, 0, [⟨31, 0, .rw, 0, .live, .warden⟩]⟩,
  ⟨0x9040, 1, 0, [⟨5, 0, .rw, 0, .live, .each⟩]⟩,
  ⟨0x9044, 1, 0, [⟨31, 0, .ro, 0, .live, .both⟩]⟩,
  ⟨0x9048, 1, 0, [⟨31, 0, .ro, 0, .live, .both⟩]⟩]

/-- The WIT window. -/
def regsWit : List RegRow := regsWita ++ regsWitb

def regsAdca : List RegRow := [
  ⟨0xA000, 1, 0, [⟨0, 0, .rw, 0, (.halt .adcRef), .warden⟩, ⟨1, 1, .ro, 0, .live, .both⟩]⟩,
  ⟨0xA004, 1, 0, [⟨0, 0, .w1c, 0, .live, .both⟩, ⟨1, 1, .w1c, 0, .live, .both⟩, ⟨2, 2, .w1c, 0, .live, .both⟩, ⟨3, 3, .w1c, 0, .live, .both⟩, ⟨4, 4, .w1c, 0, .live, .both⟩]⟩,
  ⟨0xA400, 1, 0, [⟨31, 0, .ro, 0, .live, .both⟩]⟩,
  ⟨0xA404, 1, 0, [⟨6, 0, .rw, 0, .live, .both⟩, ⟨8, 8, .rw, 0, .live, .both⟩, ⟨22, 16, .ro, 0, .live, .both⟩]⟩,
  ⟨0xA408, 1, 0, [⟨31, 0, .rw, 0, .live, .both⟩]⟩,
  ⟨0xA410, 1, 0, [⟨31, 0, .rw, 0, (.halt .adcDma), .warden⟩]⟩,
  ⟨0xA414, 1, 0, [⟨7, 0, .rw, 0, (.halt .adcDma), .warden⟩]⟩,
  ⟨0xA418, 1, 0, [⟨0, 0, .rw, 0, .live, .warden⟩, ⟨31, 16, .rw, 1, .live, .warden⟩]⟩,
  ⟨0xA41C, 1, 0, [⟨23, 0, .rw, 0, .live, .warden⟩]⟩,
  ⟨0xAA00, 1, 0, [⟨31, 0, .ro, 0, .live, .both⟩]⟩,
  ⟨0xAA04, 1, 0, [⟨15, 0, .sn, 0, .live, .both⟩]⟩,
  ⟨0xAA08, 1, 0, [⟨31, 0, .w1c, 0, .live, .both⟩]⟩]

def regsAdcb : List RegRow := [
  ⟨0xAA0C, 1, 0, [⟨15, 0, .w1c, 0, .live, .both⟩]⟩,
  ⟨0xA100, 3, 256, [⟨0, 0, .rw, 0, .live, .warden⟩, ⟨1, 1, .rw, 0, (.edgeI .adcSeqI), .both⟩, ⟨5, 2, .rw, 0, (.edgeI .adcSeqI), .both⟩, ⟨7, 6, .rw, 0, (.edgeI .adcSeqI), .both⟩, ⟨8, 8, .rw, 0, .live, .both⟩, ⟨9, 9, .rw, 0, .live, .both⟩]⟩,
  ⟨0xA104, 3, 256, [⟨0, 0, .wo, 0, .live, .both⟩]⟩,
  ⟨0xA108, 3, 256, [⟨19, 0, .rw, 1000, (.edgeI .adcSeqI), .both⟩]⟩,
  ⟨0xA10C, 3, 256, [⟨0, 0, .ro, 0, .live, .both⟩, ⟨12, 8, .ro, 0, .live, .both⟩, ⟨16, 16, .w1c, 0, .live, .both⟩, ⟨17, 17, .w1c, 0, .live, .both⟩, ⟨23, 20, .ro, 0, .live, .both⟩, ⟨24, 24, .w1c, 0, .live, .both⟩, ⟨25, 25, .w1c, 0, .live, .both⟩]⟩,
  ⟨0xA110, 3, 256, [⟨31, 0, .rw, 0, .live, .both⟩]⟩,
  ⟨0xA114, 3, 256, [⟨31, 0, .rw, 0, .live, .both⟩]⟩,
  ⟨0xA120, 8, 4, [⟨31, 0, .ro, 0, .live, .both⟩]⟩,
  ⟨0xA220, 8, 4, [⟨31, 0, .ro, 0, .live, .both⟩]⟩,
  ⟨0xA320, 8, 4, [⟨31, 0, .ro, 0, .live, .both⟩]⟩,
  ⟨0xA140, 32, 4, [⟨3, 0, .rw, 0, (.edge (.adcSeq 0)), .both⟩, ⟨7, 4, .rw, 0, (.edge (.adcSeq 0)), .both⟩, ⟨9, 8, .rw, 0, (.edge (.adcSeq 0)), .both⟩, ⟨10, 10, .rw, 0, (.edge (.adcSeq 0)), .both⟩, ⟨11, 11, .rw, 0, (.edge (.adcSeq 0)), .both⟩]⟩,
  ⟨0xA240, 32, 4, [⟨3, 0, .rw, 0, (.edge (.adcSeq 1)), .both⟩, ⟨7, 4, .rw, 0, (.edge (.adcSeq 1)), .both⟩, ⟨9, 8, .rw, 0, (.edge (.adcSeq 1)), .both⟩, ⟨10, 10, .rw, 0, (.edge (.adcSeq 1)), .both⟩, ⟨11, 11, .rw, 0, (.edge (.adcSeq 1)), .both⟩]⟩]

def regsAdcc : List RegRow := [
  ⟨0xA340, 32, 4, [⟨3, 0, .rw, 0, (.edge (.adcSeq 2)), .both⟩, ⟨7, 4, .rw, 0, (.edge (.adcSeq 2)), .both⟩, ⟨9, 8, .rw, 0, (.edge (.adcSeq 2)), .both⟩, ⟨10, 10, .rw, 0, (.edge (.adcSeq 2)), .both⟩, ⟨11, 11, .rw, 0, (.edge (.adcSeq 2)), .both⟩]⟩,
  ⟨0xA1C0, 4, 8, [⟨3, 0, .rw, 0, (.edge (.adcUrg 0)), .both⟩, ⟨7, 4, .rw, 0, (.edge (.adcUrg 0)), .both⟩, ⟨8, 8, .rw, 0, (.edge (.adcUrg 0)), .both⟩, ⟨12, 9, .rw, 0, (.edge (.adcUrg 0)), .both⟩, ⟨14, 13, .rw, 0, (.edge (.adcUrg 0)), .both⟩, ⟨15, 15, .rw, 0, .live, .both⟩, ⟨16, 16, .wo, 0, .live, .both⟩]⟩,
  ⟨0xA2C0, 4, 8, [⟨3, 0, .rw, 0, (.edge (.adcUrg 1)), .both⟩, ⟨7, 4, .rw, 0, (.edge (.adcUrg 1)), .both⟩, ⟨8, 8, .rw, 0, (.edge (.adcUrg 1)), .both⟩, ⟨12, 9, .rw, 0, (.edge (.adcUrg 1)), .both⟩, ⟨14, 13, .rw, 0, (.edge (.adcUrg 1)), .both⟩, ⟨15, 15, .rw, 0, .live, .both⟩, ⟨16, 16, .wo, 0, .live, .both⟩]⟩,
  ⟨0xA3C0, 4, 8, [⟨3, 0, .rw, 0, (.edge (.adcUrg 2)), .both⟩, ⟨7, 4, .rw, 0, (.edge (.adcUrg 2)), .both⟩, ⟨8, 8, .rw, 0, (.edge (.adcUrg 2)), .both⟩, ⟨12, 9, .rw, 0, (.edge (.adcUrg 2)), .both⟩, ⟨14, 13, .rw, 0, (.edge (.adcUrg 2)), .both⟩, ⟨15, 15, .rw, 0, .live, .both⟩, ⟨16, 16, .wo, 0, .live, .both⟩]⟩,
  ⟨0xA1C4, 4, 8, [⟨15, 0, .ro, 0, .live, .both⟩]⟩,
  ⟨0xA2C4, 4, 8, [⟨15, 0, .ro, 0, .live, .both⟩]⟩,
  ⟨0xA3C4, 4, 8, [⟨15, 0, .ro, 0, .live, .both⟩]⟩,
  ⟨0xA800, 48, 8, [⟨11, 0, .rw, 0, (.edge .adcCmp), .warden⟩, ⟨27, 16, .rw, 0xFFF, (.edge .adcCmp), .warden⟩]⟩,
  ⟨0xA804, 48, 8, [⟨5, 0, .rw, 0, (.edge .adcCmp), .warden⟩, ⟨6, 6, .rw, 0, (.edge .adcCmp), .warden⟩, ⟨11, 8, .rw, 1, (.edge .adcCmp), .warden⟩, ⟨23, 12, .rw, 0, .live, .warden⟩, ⟨24, 24, .rw, 0, .live, .warden⟩, ⟨25, 25, .rw, 1, .live, .warden⟩, ⟨26, 26, .rw, 0, .live, .warden⟩, ⟨27, 27, .rw, 0, .live, .warden⟩]⟩]

/-- The ADC window. -/
def regsAdc : List RegRow := regsAdca ++ regsAdcb ++ regsAdcc

def regsVioa : List RegRow := [
  ⟨0xB000, 1, 0, [⟨0, 0, .w1c, 0, .live, .both⟩, ⟨1, 1, .w1c, 0, .live, .both⟩, ⟨2, 2, .w1c, 0, .live, .both⟩, ⟨9, 3, .w1c, 0, .live, .both⟩]⟩,
  ⟨0xB004, 1, 0, [⟨11, 0, .rw, 0, .live, .warden⟩, ⟨22, 16, .rw, 0, .live, .warden⟩]⟩,
  ⟨0xB010, 12, 8, [⟨31, 0, .rw, 0, (.halt .vioPort), .warden⟩]⟩,
  ⟨0xB014, 12, 8, [⟨7, 0, .rw, 0, (.halt .vioPort), .warden⟩]⟩,
  ⟨0xB080, 7, 8, [⟨31, 0, .rw, 0, (.halt .vioRing), .warden⟩]⟩,
  ⟨0xB084, 7, 8, [⟨7, 0, .rw, 0, (.halt .vioRing), .warden⟩]⟩,
  ⟨0xB0C0, 7, 4, [⟨15, 0, .rw, 1, .live, .both⟩]⟩,
  ⟨0xB0E0, 7, 4, [⟨23, 0, .rw, 0, .live, .both⟩]⟩,
  ⟨0xB100, 7, 4, [⟨31, 0, .rw, 0, .live, .both⟩]⟩,
  ⟨0xB200, 4, 64, [⟨0, 0, .rw, 0, .live, .both⟩, ⟨2, 1, .rw, 0, (.halt .can), .both⟩, ⟨3, 3, .rw, 0, .live, .both⟩, ⟨4, 4, .wo, 0, .live, .both⟩]⟩,
  ⟨0xB204, 4, 64, [⟨7, 0, .rw, 0, (.halt .can), .both⟩, ⟨15, 8, .rw, 0, (.halt .can), .both⟩, ⟨22, 16, .rw, 0, (.halt .can), .both⟩, ⟨30, 24, .rw, 0, (.halt .can), .both⟩]⟩,
  ⟨0xB208, 4, 64, [⟨7, 0, .rw, 0, (.halt .can), .both⟩, ⟨15, 8, .rw, 0, (.halt .can), .both⟩, ⟨22, 16, .rw, 0, (.halt .can), .both⟩, ⟨30, 24, .rw, 0, (.halt .can), .both⟩]⟩]

def regsViob : List RegRow := [
  ⟨0xB20C, 4, 64, [⟨6, 0, .rw, 0, (.halt .can), .both⟩, ⟨7, 7, .rw, 0, (.halt .can), .both⟩]⟩,
  ⟨0xB210, 4, 64, [⟨7, 0, .ro, 0, .live, .both⟩, ⟨15, 8, .ro, 0, .live, .both⟩, ⟨16, 16, .ro, 0, .live, .both⟩, ⟨17, 17, .ro, 0, .live, .both⟩]⟩,
  ⟨0xBB00, 16, 8, [⟨28, 0, .rw, 0, (.edge (.can 0)), .both⟩, ⟨29, 29, .rw, 0, (.edge (.can 0)), .both⟩, ⟨31, 31, .rw, 0, (.edge (.can 0)), .both⟩]⟩,
  ⟨0xBB80, 16, 8, [⟨28, 0, .rw, 0, (.edge (.can 1)), .both⟩, ⟨29, 29, .rw, 0, (.edge (.can 1)), .both⟩, ⟨31, 31, .rw, 0, (.edge (.can 1)), .both⟩]⟩,
  ⟨0xBC00, 16, 8, [⟨28, 0, .rw, 0, (.edge (.can 2)), .both⟩, ⟨29, 29, .rw, 0, (.edge (.can 2)), .both⟩, ⟨31, 31, .rw, 0, (.edge (.can 2)), .both⟩]⟩,
  ⟨0xBC80, 16, 8, [⟨28, 0, .rw, 0, (.edge (.can 3)), .both⟩, ⟨29, 29, .rw, 0, (.edge (.can 3)), .both⟩, ⟨31, 31, .rw, 0, (.edge (.can 3)), .both⟩]⟩,
  ⟨0xBB04, 16, 8, [⟨28, 0, .rw, 0, (.edge (.can 0)), .both⟩]⟩,
  ⟨0xBB84, 16, 8, [⟨28, 0, .rw, 0, (.edge (.can 1)), .both⟩]⟩,
  ⟨0xBC04, 16, 8, [⟨28, 0, .rw, 0, (.edge (.can 2)), .both⟩]⟩,
  ⟨0xBC84, 16, 8, [⟨28, 0, .rw, 0, (.edge (.can 3)), .both⟩]⟩,
  ⟨0xB400, 128, 12, [⟨28, 0, .rw, 0, (.edge .lis), .warden⟩, ⟨29, 29, .rw, 0, (.edge .lis), .warden⟩, ⟨31, 30, .rw, 0, (.edge .lis), .warden⟩]⟩,
  ⟨0xB404, 128, 12, [⟨8, 0, .rw, 0, (.edge .lis), .warden⟩, ⟨12, 9, .rw, 0, (.edge .lis), .warden⟩, ⟨14, 13, .rw, 0, (.edge .lis), .warden⟩, ⟨16, 16, .rw, 0, (.edge .lis), .warden⟩, ⟨17, 17, .rw, 0, (.edge .lis), .warden⟩, ⟨31, 20, .rw, 0, (.edge .lis), .warden⟩]⟩]

def regsVioc : List RegRow := [
  ⟨0xB408, 128, 12, [⟨15, 0, .rw, 0, (.edge .lis), .warden⟩, ⟨31, 16, .rw, 0, (.edge .lis), .warden⟩]⟩,
  ⟨0xBA00, 4, 4, [⟨31, 0, .ro, 0, .live, .both⟩]⟩,
  ⟨0xBA10, 4, 4, [⟨31, 0, .w1c, 0, .live, .warden⟩]⟩,
  ⟨0xBA20, 1, 0, [⟨0, 0, .rw, 0, .live, .warden⟩]⟩,
  ⟨0xBA24, 1, 0, [⟨31, 0, .rw, 0, .live, .warden⟩]⟩,
  ⟨0xB300, 32, 4, [⟨0, 0, .rw, 0, .live, .both⟩, ⟨1, 1, .rw, 0, .live, .both⟩, ⟨3, 2, .rw, 0, .live, .both⟩, ⟨11, 4, .rw, 0, .live, .both⟩, ⟨13, 12, .rw, 0, .live, .both⟩]⟩,
  ⟨0xB380, 1, 0, [⟨31, 0, .ro, 0, .live, .both⟩]⟩,
  ⟨0xB384, 1, 0, [⟨31, 0, .rw, 0, .live, .both⟩]⟩,
  ⟨0xB388, 1, 0, [⟨31, 0, .wo, 0, .live, .both⟩]⟩,
  ⟨0xB38C, 1, 0, [⟨31, 0, .wo, 0, .live, .both⟩]⟩,
  ⟨0xB3C0, 8, 8, [⟨19, 0, .rw, 0, (.edgeI .pwmI), .both⟩, ⟨20, 20, .rw, 0, (.edgeI .pwmI), .both⟩, ⟨21, 21, .rw, 0, .live, .both⟩]⟩,
  ⟨0xB3C4, 8, 8, [⟨19, 0, .rw, 0, (.edgeI .pwmI), .both⟩]⟩]

def regsViod : List RegRow := [
  ⟨0xBA80, 2, 16, [⟨0, 0, .rw, 0, .live, .both⟩, ⟨2, 1, .rw, 0, (.halt .i3c), .both⟩, ⟨3, 3, .rw, 0, .live, .warden⟩, ⟨4, 4, .rw, 0, .live, .both⟩]⟩,
  ⟨0xBA84, 2, 16, [⟨6, 0, .rw, 0, (.halt .i3c), .both⟩]⟩,
  ⟨0xBA88, 2, 16, [⟨0, 0, .wo, 0, .live, .both⟩, ⟨14, 8, .rw, 8, .live, .both⟩, ⟨20, 16, .ro, 0, .live, .both⟩, ⟨24, 24, .ro, 0, .live, .both⟩]⟩,
  ⟨0xBAA0, 2, 16, [⟨0, 0, .rw, 0, .live, .both⟩, ⟨15, 8, .rw, 0, (.halt .spi), .both⟩, ⟨19, 16, .rw, 0, (.halt .spi), .both⟩]⟩,
  ⟨0xBAC0, 1, 0, [⟨0, 0, .rw, 0, .live, .both⟩, ⟨2, 1, .rw, 0, (.halt .uart), .both⟩, ⟨3, 3, .rw, 0, (.halt .uart), .both⟩]⟩,
  ⟨0xBAC4, 1, 0, [⟨15, 0, .rw, 54, (.halt .uart), .both⟩, ⟨19, 16, .rw, 4, (.halt .uart), .both⟩]⟩,
  ⟨0xBD00, 2, 256, [⟨0, 0, .rw, 0, .live, .both⟩, ⟨1, 1, .rw, 0, (.halt .lin), .both⟩, ⟨16, 2, .rw, 19200, (.halt .lin), .both⟩]⟩,
  ⟨0xBD04, 2, 256, [⟨0, 0, .w1c, 0, .live, .both⟩, ⟨1, 1, .w1c, 0, .live, .both⟩]⟩,
  ⟨0xBD10, 16, 12, [⟨5, 0, .rw, 0, (.edge (.lin 0)), .both⟩, ⟨11, 8, .rw, 0, (.edge (.lin 0)), .both⟩, ⟨12, 12, .rw, 0, (.edge (.lin 0)), .both⟩, ⟨15, 15, .rw, 0, (.edge (.lin 0)), .both⟩]⟩,
  ⟨0xBE10, 16, 12, [⟨5, 0, .rw, 0, (.edge (.lin 1)), .both⟩, ⟨11, 8, .rw, 0, (.edge (.lin 1)), .both⟩, ⟨12, 12, .rw, 0, (.edge (.lin 1)), .both⟩, ⟨15, 15, .rw, 0, (.edge (.lin 1)), .both⟩]⟩,
  ⟨0xBD14, 16, 12, [⟨31, 0, .rw, 0, (.edge (.lin 0)), .both⟩]⟩,
  ⟨0xBE14, 16, 12, [⟨31, 0, .rw, 0, (.edge (.lin 1)), .both⟩]⟩]

def regsVioe : List RegRow := [
  ⟨0xBD18, 16, 12, [⟨31, 0, .rw, 0, (.edge (.lin 0)), .both⟩]⟩,
  ⟨0xBE18, 16, 12, [⟨31, 0, .rw, 0, (.edge (.lin 1)), .both⟩]⟩,
  ⟨0xBF00, 4, 4, [⟨0, 0, .rw, 1, .live, .warden⟩, ⟨1, 1, .rw, 0, .live, .warden⟩, ⟨9, 2, .rw, 4, .live, .warden⟩]⟩,
  ⟨0xBF10, 1, 0, [⟨3, 0, .ro, 0, .live, .both⟩, ⟨7, 4, .w1c, 0, .live, .both⟩]⟩]

/-- The VIO window. -/
def regsVio : List RegRow := regsVioa ++ regsViob ++ regsVioc ++ regsViod ++ regsVioe

def regsPwra : List RegRow := [
  ⟨0xC000, 1, 0, [⟨2, 0, .wo, 0, .live, .warden⟩]⟩,
  ⟨0xC004, 1, 0, [⟨0, 0, .w1c, 0, .live, .warden⟩, ⟨2, 1, .ro, 0, .live, .both⟩, ⟨4, 3, .ro, 0, .live, .both⟩, ⟨5, 5, .ro, 0, .live, .both⟩, ⟨8, 6, .ro, 0, .live, .both⟩, ⟨9, 9, .ro, 0, .live, .both⟩, ⟨10, 10, .ro, 0, .live, .both⟩, ⟨11, 11, .ro, 0, .live, .both⟩, ⟨12, 12, .w1c, 0, .live, .warden⟩, ⟨13, 13, .w1c, 0, .live, .warden⟩, ⟨14, 14, .w1c, 0, .live, .warden⟩]⟩,
  ⟨0xC008, 1, 0, [⟨0, 0, .rw, 0, .live, .warden⟩]⟩,
  ⟨0xC00C, 1, 0, [⟨5, 0, .rw, 16, .live, .warden⟩, ⟨11, 8, .rw, 4, .live, .warden⟩]⟩,
  ⟨0xC010, 1, 0, [⟨7, 0, .rw, 2, .live, .warden⟩, ⟨17, 8, .rw, 50, .live, .warden⟩, ⟨29, 18, .rw, 400, .live, .warden⟩]⟩,
  ⟨0xC014, 1, 0, [⟨4, 0, .rw, 4, .live, .warden⟩, ⟨10, 8, .rw, 4, .live, .warden⟩, ⟨15, 12, .rw, 2, .live, .warden⟩, ⟨27, 16, .rw, 2048, .live, .warden⟩]⟩,
  ⟨0xC018, 1, 0, [⟨7, 0, .rw, 110, .live, .warden⟩, ⟨15, 8, .rw, 120, .live, .warden⟩]⟩,
  ⟨0xC01C, 1, 0, [⟨8, 0, .ro, 0, .live, .both⟩, ⟨9, 9, .w1c, 0, .live, .warden⟩]⟩,
  ⟨0xC020, 1, 0, [⟨7, 0, .rw, 50, .live, .warden⟩]⟩,
  ⟨0xC024, 1, 0, [⟨6, 0, .rw, 0, .live, .warden⟩, ⟨8, 8, .rw, 0, .live, .warden⟩]⟩,
  ⟨0xC028, 1, 0, [⟨7, 0, .ro, 0, .live, .both⟩, ⟨15, 8, .ro, 0, .live, .both⟩, ⟨23, 16, .ro, 0, .live, .both⟩, ⟨31, 24, .ro, 0, .live, .both⟩]⟩,
  ⟨0xC02C, 1, 0, [⟨31, 0, .ro, 0, .live, .both⟩]⟩]

def regsPwrb : List RegRow := [
  ⟨0xC030, 1, 0, [⟨31, 0, .sn, 0, .live, .both⟩]⟩,
  ⟨0xC100, 8, 4, [⟨7, 0, .rw, 0, .live, .warden⟩, ⟨15, 8, .rw, 0, .live, .warden⟩, ⟨16, 16, .rw, 0, .live, .warden⟩]⟩,
  ⟨0xC120, 8, 4, [⟨7, 0, .rw, 0, .live, .warden⟩, ⟨15, 8, .rw, 0, .live, .warden⟩, ⟨16, 16, .rw, 0, .live, .warden⟩]⟩,
  ⟨0xC140, 8, 4, [⟨7, 0, .rw, 0, .live, .warden⟩, ⟨15, 8, .rw, 0, .live, .warden⟩, ⟨16, 16, .rw, 0, .live, .warden⟩]⟩,
  ⟨0xC160, 8, 4, [⟨7, 0, .rw, 0, .live, .warden⟩, ⟨15, 8, .rw, 0, .live, .warden⟩, ⟨16, 16, .rw, 0, .live, .warden⟩]⟩]

/-- The PWR window. -/
def regsPwr : List RegRow := regsPwra ++ regsPwrb

def regsTala : List RegRow := [
  ⟨0xD000, 1, 0, [⟨0, 0, .rw, 0, .live, .warden⟩]⟩,
  ⟨0xD004, 1, 0, [⟨15, 0, .rw, 10, (.edge .audit), .warden⟩]⟩,
  ⟨0xD008, 1, 0, [⟨0, 0, .w1c, 0, .live, .warden⟩, ⟨1, 1, .ro, 0, .live, .both⟩, ⟨8, 2, .ro, 0, .live, .both⟩, ⟨9, 9, .w1c, 0, .live, .warden⟩, ⟨10, 10, .ro, 0, .live, .both⟩]⟩,
  ⟨0xD00C, 1, 0, [⟨2, 0, .ro, 0, .live, .both⟩, ⟨6, 3, .ro, 0, .live, .both⟩, ⟨10, 7, .ro, 0, .live, .both⟩, ⟨22, 11, .ro, 0, .live, .both⟩, ⟨23, 23, .ro, 0, .live, .both⟩]⟩,
  ⟨0xD010, 1, 0, [⟨31, 0, .ro, 0, .live, .both⟩]⟩,
  ⟨0xD014, 1, 0, [⟨31, 0, .sn, 0, .live, .both⟩]⟩,
  ⟨0xD020, 1, 0, [⟨2, 0, .rw, 0, .live, .each⟩, ⟨6, 3, .rw, 0, .live, .each⟩, ⟨18, 7, .rw, 0, .live, .each⟩]⟩,
  ⟨0xD024, 1, 0, [⟨31, 0, .ro, 0, .live, .both⟩]⟩,
  ⟨0xD028, 1, 0, [⟨31, 0, .sn, 0, .live, .both⟩]⟩,
  ⟨0xD030, 1, 0, [⟨31, 0, .rw, 0, .live, .warden⟩]⟩,
  ⟨0xD034, 1, 0, [⟨8, 0, .ro, 0, .live, .both⟩]⟩,
  ⟨0xD038, 1, 0, [⟨31, 0, .ro, 0, .live, .both⟩]⟩]

/-- The TAL window. -/
def regsTal : List RegRow := regsTala

def regsAlma : List RegRow := [
  ⟨0xE800, 32, 4, [⟨7, 0, .rw, 0, .live, .warden⟩, ⟨15, 8, .rw, 0, .live, .warden⟩, ⟨16, 16, .rw, 0, .live, .warden⟩, ⟨17, 17, .rw, 0, .live, .warden⟩, ⟨18, 18, .rw, 0, .live, .warden⟩, ⟨19, 19, .rw, 0, .live, .warden⟩]⟩,
  ⟨0xE880, 1, 0, [⟨7, 0, .rw, 0, .live, .warden⟩, ⟨15, 8, .rw, 0, .live, .warden⟩, ⟨16, 16, .rw, 0, .live, .warden⟩]⟩,
  ⟨0xE884, 1, 0, [⟨2, 0, .wo, 0, .live, .warden⟩, ⟨31, 8, .wo, 0, .live, .warden⟩]⟩,
  ⟨0xEC00, 1, 0, [⟨11, 0, .rw, 0, .live, .warden⟩]⟩,
  ⟨0xEC04, 3, 4, [⟨31, 0, .rw, 0, .live, .warden⟩]⟩,
  ⟨0xEC10, 1, 0, [⟨23, 0, .rw, 0, .live, .warden⟩]⟩,
  ⟨0xEC14, 1, 0, [⟨0, 0, .wo, 0, .live, .warden⟩, ⟨1, 1, .wo, 0, .live, .warden⟩, ⟨2, 2, .wo, 0, .live, .warden⟩, ⟨7, 4, .rw, 0, .live, .warden⟩]⟩,
  ⟨0xEC18, 1, 0, [⟨0, 0, (.l1 none), 0, .live, .warden⟩]⟩,
  ⟨0xEC1C, 1, 0, [⟨0, 0, .w1c, 0, .live, .warden⟩, ⟨1, 1, .w1c, 0, .live, .warden⟩, ⟨2, 2, .w1c, 0, .live, .warden⟩, ⟨3, 3, .ro, 0, .live, .both⟩, ⟨7, 4, .ro, 0, .live, .both⟩, ⟨19, 8, .ro, 0, .live, .both⟩]⟩,
  ⟨0xEC20, 1, 0, [⟨31, 0, .rw, 0, .live, .warden⟩]⟩,
  ⟨0xE000, 1, 0, [⟨0, 0, .w1c, 0, .live, .warden⟩, ⟨1, 1, .w1c, 0, .live, .warden⟩]⟩,
  ⟨0xE004, 1, 0, [⟨7, 0, .ro, 0, .live, .both⟩, ⟨10, 8, .ro, 0, .live, .both⟩, ⟨15, 15, .w1c, 0, .live, .warden⟩]⟩]

def regsAlmb : List RegRow := [
  ⟨0xE008, 1, 0, [⟨31, 0, .ro, 0, .live, .both⟩]⟩,
  ⟨0xE00C, 1, 0, [⟨31, 0, .sn, 0, .live, .both⟩]⟩,
  ⟨0xE010, 4, 4, [⟨31, 0, .w1c, 0, .live, .warden⟩]⟩,
  ⟨0xE020, 1, 0, [⟨3, 0, .wo, 0, .live, .warden⟩]⟩,
  ⟨0xE030, 1, 0, [⟨9, 0, .rw, 100, .live, .warden⟩, ⟨16, 16, (.l1 none), 0, .live, .warden⟩, ⟨31, 24, .wo, 0, .live, .warden⟩]⟩,
  ⟨0xE040, 1, 0, [⟨3, 0, .ro, 0, .live, .both⟩, ⟨15, 8, .ro, 0, .live, .both⟩, ⟨16, 16, .w1c, 0, .live, .warden⟩, ⟨17, 17, .w1c, 0, .live, .warden⟩]⟩,
  ⟨0xE044, 1, 0, [⟨31, 0, .ro, 0, .live, .both⟩]⟩,
  ⟨0xE048, 1, 0, [⟨31, 0, .sn, 0, .live, .both⟩]⟩,
  ⟨0xE050, 1, 0, [⟨7, 0, .rw, 0, .live, .warden⟩, ⟨8, 8, .wo, 0, .live, .warden⟩]⟩,
  ⟨0xE054, 1, 0, [⟨0, 0, .ro, 0, .live, .both⟩, ⟨2, 1, .ro, 0, .live, .both⟩]⟩,
  ⟨0xE060, 8, 4, [⟨31, 0, .ro, 0, .live, .both⟩]⟩,
  ⟨0xE080, 1, 0, [⟨8, 0, .rw, 8, .live, .warden⟩]⟩]

def regsAlmc : List RegRow := [
  ⟨0xE090, 2, 4, [⟨15, 0, .rw, 0, .live, .warden⟩, ⟨16, 16, .rw, 0, .live, .warden⟩]⟩,
  ⟨0xE0A0, 1, 0, [⟨31, 0, .rw, 0, .live, .warden⟩]⟩,
  ⟨0xE0A4, 1, 0, [⟨7, 0, .rw, 0, .live, .warden⟩]⟩,
  ⟨0xE0B0, 1, 0, [⟨0, 0, .ro, 0, .live, .both⟩]⟩,
  ⟨0xE0C0, 1, 0, [⟨9, 0, .rw, 100, .live, .warden⟩, ⟨25, 16, .rw, 60, .live, .warden⟩]⟩,
  ⟨0xE0C4, 1, 0, [⟨31, 0, .rw, 0, .live, .warden⟩]⟩,
  ⟨0xE0C8, 1, 0, [⟨31, 0, .ro, 0, .live, .both⟩]⟩,
  ⟨0xE0CC, 1, 0, [⟨1, 0, .ro, 0, .live, .both⟩]⟩,
  ⟨0xE100, 128, 4, [⟨2, 0, .rw, 0, .live, .warden⟩, ⟨6, 4, .ro, 0, .live, .both⟩, ⟨23, 16, .ro, 0, .live, .both⟩]⟩]

/-- The ALM window. -/
def regsAlm : List RegRow := regsAlma ++ regsAlmb ++ regsAlmc

def regsTbda : List RegRow := [
  ⟨0xF000, 1, 0, [⟨31, 0, .ro, 0, .live, .both⟩]⟩,
  ⟨0xF004, 1, 0, [⟨31, 0, .sn, 0, .live, .both⟩]⟩,
  ⟨0xF008, 1, 0, [⟨31, 0, .ro, 0, .live, .both⟩]⟩,
  ⟨0xF00C, 1, 0, [⟨31, 0, .sn, 0, .live, .both⟩]⟩,
  ⟨0xF010, 1, 0, [⟨0, 0, .ro, 0, .live, .both⟩, ⟨1, 1, .w1c, 0, .live, .both⟩, ⟨2, 2, .w1c, 0, .live, .both⟩, ⟨4, 3, .ro, 0, .live, .both⟩, ⟨5, 5, .ro, 0, .live, .both⟩]⟩,
  ⟨0xF020, 1, 0, [⟨0, 0, (.l1 none), 0, .live, .warden⟩]⟩,
  ⟨0xF024, 1, 0, [⟨0, 0, .w1c, 0, .live, .warden⟩, ⟨1, 1, .w1c, 0, .live, .warden⟩, ⟨2, 2, .w1c, 0, .live, .warden⟩]⟩,
  ⟨0xF028, 1, 0, [⟨31, 0, .rw, 0, .live, .warden⟩]⟩,
  ⟨0xF02C, 1, 0, [⟨3, 0, .ro, 0, .live, .both⟩, ⟨11, 4, .ro, 0, .live, .both⟩, ⟨15, 12, .ro, 0, .live, .both⟩]⟩,
  ⟨0xF030, 1, 0, [⟨3, 0, .rw, 0, .live, .warden⟩, ⟨11, 4, .rw, 0, .live, .warden⟩, ⟨15, 12, .rw, 0, .live, .warden⟩]⟩,
  ⟨0xF034, 1, 0, [⟨5, 0, .rw, 63, .live, .warden⟩]⟩,
  ⟨0xF100, 1, 0, [⟨0, 0, .w1c, 0, .live, .both⟩]⟩]

def regsTbdb : List RegRow := [
  ⟨0xF104, 1, 0, [⟨4, 0, .ro, 0, .live, .both⟩, ⟨7, 5, .ro, 0, .live, .both⟩, ⟨9, 8, .ro, 0, .live, .both⟩]⟩]

/-- The TBD window. -/
def regsTbd : List RegRow := regsTbda ++ regsTbdb

def regsPlta : List RegRow := [
  ⟨0x10000, 1, 0, [⟨0, 0, .rw, 0, .live, .warden⟩, ⟨1, 1, .ro, 0, .live, .warden⟩]⟩,
  ⟨0x10004, 1, 0, [⟨0, 0, .w1c, 0, .live, .warden⟩]⟩,
  ⟨0x10008, 1, 0, [⟨26, 0, .rw, 0, .live, .warden⟩]⟩,
  ⟨0x10100, 1, 0, [⟨1, 0, .rw, 0, (.halt .ddr), .warden⟩, ⟨2, 2, .rw, 0, (.halt .ddr), .warden⟩, ⟨6, 4, .rw, 0, (.halt .ddr), .warden⟩, ⟨10, 8, .rw, 0, (.halt .ddr), .warden⟩, ⟨12, 12, .rw, 1, (.halt .ddr), .warden⟩, ⟨13, 13, .rw, 1, (.halt .ddr), .warden⟩]⟩,
  ⟨0x10104, 1, 0, [⟨0, 0, .wo, 0, .live, .warden⟩]⟩,
  ⟨0x10108, 1, 0, [⟨0, 0, .ro, 0, .live, .warden⟩, ⟨1, 1, .ro, 0, .live, .warden⟩, ⟨2, 2, .ro, 0, .live, .warden⟩, ⟨6, 4, .ro, 0, .live, .warden⟩, ⟨8, 8, .ro, 0, .live, .warden⟩, ⟨31, 16, .ro, 0, .live, .warden⟩]⟩,
  ⟨0x10200, 1, 0, [⟨0, 0, .rw, 0, .live, .warden⟩, ⟨1, 1, .ro, 0, .live, .warden⟩]⟩,
  ⟨0x10204, 1, 0, [⟨15, 0, .ro, 0, .live, .warden⟩, ⟨16, 16, .ro, 0, .live, .warden⟩]⟩,
  ⟨0x10208, 1, 0, [⟨1, 0, .wo, 0, .live, .warden⟩, ⟨8, 8, .ro, 0, .live, .warden⟩, ⟨9, 9, .w1c, 0, .live, .warden⟩, ⟨10, 10, .w1c, 0, .live, .warden⟩]⟩,
  ⟨0x1020C, 1, 0, [⟨31, 0, .rw, 0, .live, .warden⟩]⟩,
  ⟨0x10210, 1, 0, [⟨8, 0, .rw, 0, .live, .warden⟩]⟩,
  ⟨0x10300, 64, 4, [⟨31, 0, .rw, 0, .live, .warden⟩]⟩]

/-- The PLT window. -/
def regsPlt : List RegRow := regsPlta

/-- The rows of a 4 KiB window, by window number. -/
def regWindow : Nat → List RegRow
  | 0 => regsGen
  | 1 => regsGkp
  | 2 => regsEvr
  | 3 => regsShp
  | 4 => regsSpn
  | 5 => regsFry
  | 6 => regsMir
  | 7 => regsPnt
  | 8 => regsLmp
  | 9 => regsWit
  | 10 => regsAdc
  | 11 => regsVio
  | 12 => regsPwr
  | 13 => regsTal
  | 14 => regsAlm
  | 15 => regsTbd
  | 16 => regsPlt
  | _ => []

end Sys2Proof.Machine
end

