-- ==== Sys2Proof/Machine/DevTypes.lean ====
section
/-!
DEFINITION. The state of the endpoint, the lamp path, the converters, the vehicle and board I/O, the mode controller, the
Gatekeeper and the Warden's controllers (12, 14 to 19).
-/
namespace Sys2Proof.Machine

/-- What leaves the chip, as the model records it (log entry 13). A CAN identifier word holds IDE in bit 29, FDF in
bit 30 and BRS in bit 31. -/
inductive Emission where
  | msix (vector : Nat)
  | can (ctrl id : Nat) (data : List Byte)
  | lin (ctrl id : Nat) (data : List Byte)
  | linWake (ctrl : Nat)
  | i3c (ctrl addr : Nat) (data : List Byte)
  | spi (ctrl cs : Nat) (data : List Byte)
  | uart (data : List Byte)
  | dcs (dt : Nat) (data : List Byte)
  | pmic (addr reg val : Nat)
  deriving DecidableEq, Repr

/-! ### The Evoser endpoint (12) -/

/-- A write of a staged set (R637). -/
structure StagedWrite where
  off : Nat
  val : W32
  deriving DecidableEq, Repr

/-- How far a consumed command has come: not begun; SCENE waiting for its pages; SCENE copied; handed to firmware in an
inbox record; PICTURE being copied, with the pool tile of each position; LAMPREQ waiting for its commit; APPLY waiting for
a lock point, with its set, its sprigs, its deferrals, whether it holds its sprigs and whether the margin found every one
HELD; IMAGE in the Warden's hands; PROOF waiting. -/
inductive FlightWait where
  | todo
  | spin
  | copied (base root : Nat)
  | inbox (record : Nat)
  | picture (tiles : AMap Nat)
  | commit
  | apply (set : List StagedWrite) (sprigs : List TWord) (deferrals : Nat) (holds ready : Bool)
  | image
  | proof
  deriving DecidableEq, Repr

/-- A command that is consumed and not answered (R618). -/
structure Flight where
  ring : Nat
  cidx : Nat
  op : Nat
  irq : Bool
  tag : Nat
  body : List Byte
  order : Nat
  wait : FlightWait
  deriving DecidableEq, Repr

/-- A command ring (R602, R616). lastPi and lastAci are what the doorbells read back (R603); draining: a drain has
started (R651); drop: its writes are dropped (R652). -/
structure CmdRing where
  pi : Nat
  ci : Nat
  aw : Nat
  aci : Nat
  lastPi : Nat
  lastAci : Nat
  active : Bool
  draining : Bool
  drop : Bool
  phase : Bool
  staged : List StagedWrite
  deriving DecidableEq, Repr

def CmdRing.reset : CmdRing := ⟨0, 0, 0, 0, 0, 0, false, false, false, true, []⟩

/-- The event ring or the log ring (R648). -/
structure EntryRing where
  pi : Nat
  ci : Nat
  lastCi : Nat
  phase : Bool
  deriving DecidableEq, Repr

def EntryRing.reset : EntryRing := ⟨0, 0, 0, true⟩

/-- A write that the endpoint originates: bytes of host memory, or an MSI-X vector. -/
inductive Post where
  | mem (addr : Nat) (data : List Byte)
  | msix (vector : Nat)
  deriving DecidableEq, Repr

/-- The endpoint. posts: writes that the output gates hold, oldest first (R653, 01 R46). -/
structure Evr where
  rings : AMap CmdRing
  flights : List Flight
  order : Nat
  evt : EntryRing
  log : EntryRing
  posts : List Post
  deriving DecidableEq, Repr

def Evr.reset : Evr := ⟨[], [], 0, EntryRing.reset, EntryRing.reset, []⟩

/-! ### The lamp path (14) -/

/-- States of a lamp (R721). -/
inductive LampState where
  | off | on | hold | latched
  deriving DecidableEq, Repr

/-- A lamp: state and activation stamp. -/
structure Lamp where
  st : LampState
  ta : Nat
  deriving DecidableEq, Repr

def Lamp.reset : Lamp := ⟨.off, 0⟩

/-- What a box start sampled (R708): active, and the ON glyph shown. -/
structure Sample where
  active : Bool
  on : Bool
  deriving DecidableEq, Repr

/-- The Lamp engine and the Witness. pins: lamp inputs of the GPIO pins after their debounce (R717); changed: an input
or a timer has changed since the snapshot of the last pass (R720); sigs: last signatures of A and B; compared: when each
box last completed a comparison; shown: the sample of each lamp's last matching scan; records: proof records that wait
(R734); lastImm: when the last immediate frame was sent (R741); lastProof: when the last periodic one was due. -/
structure Lamps where
  store : List Host.Cell
  checking : Bool
  armed : Bool
  armAt : Nat
  bulb : Bool
  lamps : AMap Lamp
  unlatch : W64
  pins : W32
  changed : Bool
  samples : AMap Sample
  sigs : AMap (Nat × Nat)
  compared : AMap Nat
  shown : AMap Sample
  records : List (List Byte)
  lastImm : Option Nat
  lastProof : Option Nat
  deriving DecidableEq, Repr

def Lamps.reset : Lamps where
  store := []
  checking := false
  armed := false
  armAt := 0
  bulb := false
  lamps := []
  unlatch := 0#64
  pins := 0#32
  changed := false
  samples := []
  sigs := []
  compared := []
  shown := []
  records := []
  lastImm := none
  lastProof := none

/-! ### The converters (15) -/

/-- A conversion in progress: urgent slot or sequence entry, channel, and whether its result will carry REC (R777). -/
structure Conversion where
  urgent : Option Nat
  channel : Nat
  carries : Bool
  deriving DecidableEq, Repr

/-- A converter: conversion in progress; whether a sequence runs and its entry; codes and flags gathered for an averaged
entry; pending trigger and urgent requests; recovery window: conversions still to end in it, and its time (R777). -/
structure Conv where
  running : Option Conversion
  seq : Bool
  entry : Nat
  codes : List Nat
  flags : Nat
  trig : Bool
  urgent : List Nat
  window : Option (Nat × Nat)
  lastPeriod : Option Nat
  deriving DecidableEq, Repr

def Conv.reset : Conv := ⟨none, false, 0, [], 0, false, [], none, none⟩

/-- A window comparator while enabled: output, consecutive results counted, stamp of the last counted result, and whether the result that last completed a count was below LO. -/
structure Comparator where
  out : Bool
  count : Nat
  last : Nat
  stale : Bool
  low : Bool
  deriving DecidableEq, Repr

def Comparator.reset : Comparator := ⟨false, 0, 0, false, false⟩

/-- The converters: result FIFO with the stamp of each entry (R771), comparators, and when REFEN was set. -/
structure Adc where
  convs : AMap Conv
  fifo : List (Nat × Nat)
  comps : AMap Comparator
  refAt : Option Nat
  deriving DecidableEq, Repr

def Adc.reset : Adc := ⟨[], [], [], none⟩

/-! ### Vehicle and board I/O (16) -/

/-- What a request asks for (R794). -/
inductive VioReq where
  | can (id : Nat) (data : List Byte)
  | linFrame (id len : Nat) (subscribe enhanced : Bool) (data : List Byte)
  | linWakeup
  | pins (set' clear : Nat)
  | duty (channel duty : Nat)
  | i3c (addr : Nat) (write : List Byte) (read : Nat)
  | spi (cs mode vec : Nat) (data : List Byte)
  | uart (data : List Byte)
  deriving DecidableEq, Repr

/-- A request that a controller has taken and that has not completed (R791, R792): port, heap address, order of taking,
sprig to notify, what it asks for. started: the transfer is under way. -/
structure Taken where
  port : Nat
  addr : Nat
  order : Nat
  notify : TWord
  req : VioReq
  started : Bool
  deriving DecidableEq, Repr

/-- A frame in a Witness transmit buffer (R804): identifier word and data. -/
structure WitFrame where
  id : Nat
  data : List Byte
  deriving DecidableEq, Repr

/-- The I/O block. heldWrites: host writes that the gates hold (R798); recovering: controllers in bus-off recovery;
accepted: when each Listener slot last accepted a frame or was enabled; raw, rawAt: raw pin levels and when each last
changed; uartBytes, uartErr, uartAt: the UART's open record and when its last byte came. -/
structure Vio where
  taken : List Taken
  order : Nat
  wit : AMap WitFrame
  heldWrites : List StagedWrite
  recovering : List Nat
  accepted : AMap Nat
  raw : W32
  rawAt : AMap Nat
  uartBytes : List Byte
  uartErr : Nat
  uartAt : Nat
  deriving DecidableEq, Repr

def Vio.reset : Vio where
  taken := []
  order := 0
  wit := []
  heldWrites := []
  recovering := []
  accepted := []
  raw := 0#32
  rawAt := []
  uartBytes := []
  uartErr := 0
  uartAt := 0

/-! ### The mode controller (17) -/

/-- The mode controller, Rail Watch and the WAKE filters. powered: the switched domain is out of reset; pmicAt: when
PMIC_EN last changed; parked: the 10 ms of R856 run; wake: the WAKE input whose accepted wake waits for their end;
safeHeld: a SAFE request is held (R849); klAt: when KL30 last entered LOW or HIGH; kl2: KL30's condition of level 2
holds; absent: for each shed level, since when no condition requires it or a higher one; scripts: PMIC scripts requested;
epark: an emergency park is to be shown at the next start; wakeRuns: consecutive active samples of each WAKE filter. -/
structure Power where
  powered : Bool
  pmicEn : Bool
  pmicAt : Nat
  parked : Bool
  wake : Option Nat
  safeHeld : Bool
  klAt : Nat
  kl2 : Bool
  absent : AMap Nat
  scripts : List Nat
  pmicLow : Bool
  epark : Bool
  wakeRuns : AMap Nat
  deriving DecidableEq, Repr

/-- At State.reset the switched domain has just left reset into Ochre mode, with PMIC_EN high (log entry 12). -/
def Power.reset : Power where
  powered := true
  pmicEn := true
  pmicAt := 0
  parked := false
  wake := none
  safeHeld := false
  klAt := 0
  kl2 := false
  absent := []
  scripts := []
  pmicLow := false
  epark := false
  wakeRuns := []

/-! ### The Gatekeeper (18) -/

/-- What a key slot holds (R882): the device root of the fuses, the boot key that the hardware derives from it, or bytes
that an operation has loaded. -/
inductive KeyVal where
  | root
  | boot
  | bytes (l : List Byte)
  deriving DecidableEq, Repr

/-- An operation in progress (R890) with the inputs it was started with. host: addr is a host bus address, for an
operation that serves an IMAGE command (R916, R922). -/
structure GkpOp where
  op : Nat
  slot : Nat
  addr : Nat
  len : Nat
  mask : Nat
  input : List Byte
  host : Bool
  deriving DecidableEq, Repr

/-- The Gatekeeper. keys: the slots that hold a key; kek: the key-encryption key of R884 is held; erases: deferred
(R887); stream: the entry in work, while the stream runs, and how many pages of it are written; written: image-region
pages that the stream has written (R898); trialAt: when the trial
watchdog was armed; confirmed: a confirm has been carried out (R912). -/
structure Gkp where
  keys : AMap KeyVal
  kek : Bool
  op : Option GkpOp
  erases : List Nat
  stream : Option (Nat × Nat)
  written : List Nat
  trialAt : Option Nat
  confirmed : Bool
  deriving DecidableEq, Repr

/-- After the fuse load: K0, K1 and the key-encryption key are held (R882, R884). -/
def Gkp.reset : Gkp where
  keys := [(0, .root), (1, .boot)]
  kek := true
  op := none
  erases := []
  stream := none
  written := []
  trialAt := none
  confirmed := false

/-! ### The Warden's controllers (19) -/

/-- A flash command in progress (R937): 1 or 2 to erase, 3 to program; offset and, for a program, the bytes. -/
structure FlashOp where
  op : Nat
  addr : Nat
  data : List Byte
  deriving DecidableEq, Repr

/-- The watchdog, the cell self-test and the flash controller. wdogAt: when the watchdog's count last restarted; kick:
0x5A has been written; test: the cell under self-test; flashOp: the command in progress; ddrReleased: DDR_RESET_N is
high (R935; 20 R984). -/
structure Warden where
  wdogAt : Nat
  kick : Bool
  test : Option Nat
  flashOp : Option FlashOp
  ddrReleased : Bool
  deriving DecidableEq, Repr

def Warden.reset : Warden := ⟨0, false, none, none, false⟩

end Sys2Proof.Machine
end

