-- ==== Sys2Proof/Machine/PicTypes.lean ====
section
/-!
DEFINITION. The state of the Painters and the Mirror (13).
-/
namespace Sys2Proof.Machine

/-- A job the Painters have taken (R666, R671). `order` numbers jobs in the order they were taken. Positions of its tile
range are numbered in raster order: `started` of them have been started, `tiles` gives the pool tile of each that holds
one, `done` those that are DONE, `settled` those whose tile has been freed or latched. -/
structure Job where
  order : Nat
  port : Nat
  epoch : Nat
  addr : Nat
  out : Nat
  plane : Nat
  col0 : Nat
  row0 : Nat
  col1 : Nat
  row1 : Nat
  list : TWord
  fill : TWord
  notify : TWord
  started : Nat
  tiles : AMap Nat
  done : List Nat
  settled : List Nat
  told : Bool
  deriving DecidableEq, Repr

/-- A tile that a Painter is painting: job and position. -/
structure PaintWork where
  job : Nat
  pos : Nat
  deriving DecidableEq, Repr

/-- A latched tile: pool tile and order of its job (R687). -/
structure Latched where
  tile : Nat
  order : Nat
  deriving DecidableEq, Repr

/-- One output of the Mirror: latched scene tiles by plane and position, guest tiles by position, a finished copy that
waits for its lock point (R693), whether the link is being trained, the tile positions of the current frame that could not
be fetched (R692), and whether Vermilion mode has been entered and the lock point that frees the latched tiles is still to
come (19 R964). -/
structure Output where
  scene : AMap Latched
  guest : AMap Nat
  guestNext : Option (AMap Nat)
  training : Bool
  underrun : List (Nat × Nat)
  purge : Bool
  deriving DecidableEq, Repr

def Output.reset : Output := ⟨[], [], none, false, [], false⟩

/-- The Painters and the Mirror. `used` holds the pool tiles that are not FREE, with their epoch; `turn` counts tile
starts of the weighted round robin (R676); `held` the PAINT_DONE events of ochre jobs that wait (R679). -/
structure Pic where
  jobs : List Job
  order : Nat
  work : AMap PaintWork
  used : AMap Nat
  turn : Nat
  held : List (Nat × TWord)
  outA : Output
  outB : Output
  deriving DecidableEq, Repr

def Pic.reset : Pic := ⟨[], 0, [], [], 0, [], Output.reset, Output.reset⟩

def Pic.out (p : Pic) (n : Nat) : Output := if n = 0 then p.outA else p.outB

def Pic.setOut (p : Pic) (n : Nat) (o : Output) : Pic := if n = 0 then { p with outA := o } else { p with outB := o }

end Sys2Proof.Machine
end

