-- ==== Sys2Proof/Machine/ShepTypes.lean ====
section
/-!
DEFINITION. The state of the Shepherd: sprig slots, epochs and the epoch log (10).
-/
namespace Sys2Proof.Machine

/-- Slot states (10 R500). -/
inductive SlotState where
  | free | ready | running | blocked | stalled | held | ended
  deriving DecidableEq, Repr

def SlotState.code : SlotState → Nat
  | .free => 0 | .ready => 1 | .running => 2 | .blocked => 3 | .stalled => 4 | .held => 5 | .ended => 6

/-- A sprig slot. The pending event set, the wait mask and stamp and the deadline stand in the context record while
the sprig is off its cell; here they are held once, whatever the slot's state. noCtx: the Spinner has answered the
request for the context record as exhausted. -/
structure Slot where
  state : SlotState
  gen : Nat
  pri : Nat
  cls : Nat
  epoch : Nat
  grove : Nat
  spawner : TWord
  spawnEpoch : Nat
  deadline : Option Nat
  missed : Bool
  order : Nat
  cell : Option Nat
  staged : Option Nat
  placedAt : Nat
  slice : Nat
  pend : W64
  waitMask : Option W64
  waitStamp : Option Nat
  ctx : Option Nat
  exit : TWord
  heldFor : Option Nat
  prior : SlotState
  dropReq : Bool
  endHeld : Bool
  noCtx : Bool
  deriving DecidableEq, Repr

/-- A slot at chip reset: FREE, generation 0 (R498). -/
def Slot.reset : Slot where
  state := .free
  gen := 0
  pri := 0
  cls := 0
  epoch := 0
  grove := 0
  spawner := unb 0
  spawnEpoch := 0
  deadline := none
  missed := false
  order := 0
  cell := none
  staged := none
  placedAt := 0
  slice := 0
  pend := 0#64
  waitMask := none
  waitStamp := none
  ctx := none
  exit := unb 0
  heldFor := none
  prior := .ready
  dropReq := false
  endHeld := false
  noCtx := false

/-- An open epoch (R531): parent, opener's slot and generation, opening order. -/
structure Epoch where
  parent : Nat
  opener : Nat
  openerGen : Nat
  order : Nat
  deriving DecidableEq, Repr

/-- A log entry (R537): epoch (0 once confirmed into ivory and not yet written back), address, old and new word. -/
structure LogEntry where
  epoch : Nat
  addr : Nat
  old : TWord
  new : TWord
  deriving DecidableEq, Repr

/-- A confirm or squash accepted and not yet carried out, with the handle of the sprig that wrote it (R1025). -/
structure EpochReq where
  squash : Bool
  epoch : Nat
  by' : Option TWord
  deriving DecidableEq, Repr

/-- An ended sprig of an ochre epoch whose slot has been reclaimed (R502): its epoch, whether it counts as cancelled,
its spawner (log entry 20). -/
structure Ghost where
  epoch : Nat
  cancelled : Bool
  spawner : TWord
  deriving DecidableEq, Repr

structure Shep where
  slots : AMap Slot
  order : Nat
  endOrder : Nat
  epochs : AMap Epoch
  epochOrder : Nat
  log : List LogEntry
  writeback : List LogEntry
  reqs : List EpochReq
  ghosts : List Ghost
  leavingIvory : Bool
  deriving DecidableEq, Repr

def Shep.reset : Shep where
  slots := []
  order := 0
  endOrder := 0
  epochs := []
  epochOrder := 0
  log := []
  writeback := []
  reqs := []
  ghosts := []
  leavingIvory := false

end Sys2Proof.Machine
end

