-- ==== Sys2Proof/Machine/TallyTypes.lean ====
section
/-!
DEFINITION. The state of the Tally (11): terms of the seven ledgers, reports on their way, ledgers built.
-/
namespace Sys2Proof.Machine

/-- A report of a block (R569): ledger, instance, and the change of each term it names. -/
structure Report where
  ledger : Nat
  index : Nat
  changes : List (Nat × Int)
  deriving DecidableEq, Repr

/-- Terms are keyed by ledger, instance and term number; a term that is not listed is 0. `rings` lists the instances of
ledger 5 that are built. -/
structure Tally where
  terms : AMap Nat
  reports : List Report
  built : List Nat
  rings : List Nat
  lastAudit : Nat
  deriving DecidableEq, Repr

def tallyKey (ledger index term : Nat) : Nat := ledger * 2 ^ 20 + index * 16 + term

def Tally.term (t : Tally) (ledger index term : Nat) : Nat := AMap.get 0 t.terms (tallyKey ledger index term)

def Tally.setTerm (t : Tally) (ledger index term v : Nat) : Tally :=
  { t with terms := AMap.put 0 t.terms (tallyKey ledger index term) v }

/-- An input of a link: the four ports of a router towards a router or an edge node, port 4 of a grove or an edge node,
port 5 of a router for its local port (02 R63; log entry 31). -/
def linkExists (node port : Nat) : Bool :=
  if port < 4 then
    decide (node < 16) && (((port == 0) && decide (4 ≤ node)) || ((port == 1) && decide (node % 4 < 3))
      || ((port == 2) && decide (node < 12)) || ((port == 3) && decide (0 < node % 4))
      || [(0, 3), (4, 3), (7, 1), (15, 1), (14, 2), (13, 2), (12, 3), (3, 0)].contains (node, port))
  else if port = 4 then decide (node < 24)
  else decide (port = 5) && decide (node < 16)

/-- The instances of ledger 1, ascending: input + 256 × channel. -/
def linkInstances : List Nat :=
  (List.range 4).flatMap fun v => (List.range 6).flatMap fun p =>
    ((List.range 32).filter fun n => linkExists n p).map fun n => n + 32 * p + 256 * v

/-- Credits of an instance of ledger 1 (02 R67). -/
def linkCredits (i : Nat) : Nat := if i < 512 then 8 else 4

/-- Ledgers 1, 3, 4, 6 and 7 as built at entry to Ochre mode (R579): every sender holds full credit, every bin is free,
every other term is zero. -/
def Tally.reset : Tally where
  terms := linkInstances.map (fun i => (tallyKey 1 i 0, linkCredits i)) ++ [(tallyKey 3 0 0, 2048)]
  reports := []
  built := [1, 3, 4, 6, 7]
  rings := []
  lastAudit := 0

end Sys2Proof.Machine
end

