-- ==== Sys2Proof/Machine/State.lean ====
section
/-!
DEFINITION. The state of the block, the reasons a step can stop, and the state after reset.
-/
namespace Sys2Proof.Machine

/-- The operating modes (00, table The eight modes). -/
inductive Mode where
  | sable | umber | ochre | saffron | ivory | slate | vermilion | cobalt
  deriving DecidableEq, Repr

def Mode.num : Mode → Nat
  | .sable => 0 | .umber => 1 | .ochre => 2 | .saffron => 3 | .ivory => 4 | .slate => 5 | .vermilion => 6
  | .cobalt => 7

/-- No command of the model ends in a fault: an error of the hardware is an effect on the state (an exception of a
cell, an alarm source, a status bit). The one constructor is for a state no run reaches. -/
inductive Fault where
  /-- Raised by nothing. -/
  | unreachable
  deriving DecidableEq, Repr

/-- The reasons a command has no meaning. -/
inductive Refusal where
  /-- Raised by the arms of exec for a row that has no meaning yet. Safe. -/
  | notModelled (mnemonic : String)
  deriving DecidableEq, Repr

/-- An alarm raised and not yet acted on, inside one step: source and argument. -/
structure Raise where
  source : Nat
  arg : Nat
  deriving DecidableEq, Repr

structure State where
  time : Timebase
  regs : AMap W32
  act : AMap W32
  snap : PerReq (AMap W32)
  sel : PerReq (AMap W32)
  mode : Mode
  weave : Weave
  trims : AMap Trim
  cells : AMap Cell
  cellsHeld : Bool
  codeExec : List Nat
  cstore : AMap (BitVec 120)
  cstoreBad : List (Nat × Nat)
  heap : Heap
  shep : Shep
  tally : Tally
  pic : Pic
  irqs : List IrqPacket
  resyncs : List (Nat × Nat)
  patchReqs : List Nat
  dram : List Host.Cell
  wmem : List Host.Cell
  flash : List Host.Cell
  host : List Host.Cell
  evr : Evr
  lamps : Lamps
  adc : Adc
  vio : Vio
  power : Power
  gkp : Gkp
  warden : Warden
  out : List Emission
  rdata : PerReq W32
  floor : Nat
  raised : List Raise
  free : Nat
  pending : List Instr
  deriving DecidableEq, Repr

def State.reset : State where
  time := Timebase.reset
  regs := [(0xC004, 0x1C0#32)]
  act := []
  snap := ⟨[], []⟩
  sel := ⟨[], []⟩
  mode := .ochre
  weave := Weave.reset
  trims := []
  cells := [(256, Cell.wardenReset)]
  cellsHeld := true
  codeExec := []
  cstore := []
  cstoreBad := []
  heap := Heap.reset
  shep := Shep.reset
  tally := Tally.reset
  pic := Pic.reset
  irqs := []
  resyncs := []
  patchReqs := []
  dram := []
  wmem := []
  flash := []
  host := []
  evr := Evr.reset
  lamps := Lamps.reset
  adc := Adc.reset
  vio := Vio.reset
  power := Power.reset
  gkp := Gkp.reset
  warden := Warden.reset
  out := []
  rdata := ⟨0#32, 0#32⟩
  floor := 0
  raised := []
  free := 0
  pending := []

end Sys2Proof.Machine
end

