-- ==== Sys2Proof/Machine/Ops.lean ====
section
/-!
DEFINITION. Named operations on the setup registers, the alarm queue, the cells and the timebase.
-/
namespace Sys2Proof.Machine

/-! ### Setup registers -/

/-- The row of a register table that an offset lies in, with the index of the instance. -/
def rowAt (off : Nat) : List RegRow → Option (RegRow × Nat)
  | [] => none
  | r :: rs =>
    if r.count = 1 then (if off = r.off then some (r, 0) else rowAt off rs)
    else if r.off ≤ off ∧ (off - r.off) % r.stride = 0 ∧ (off - r.off) / r.stride < r.count then
      some (r, (off - r.off) / r.stride)
    else rowAt off rs

def regRow (off : Nat) : Option (RegRow × Nat) := rowAt off (regWindow (off / 4096))

/-- A row's reset value from its fields. -/
def resetOf (fs : List Field) : Nat := fs.foldl (fun a f => a + f.reset * 2 ^ f.lo) 0

/-- Floor and default class of the Alarm board's sources (19 R947); a reserved number has neither. -/
def alarmSource (n : Nat) : Option (Nat × Nat) :=
  if [0, 64].contains n then some (0, 1)
  else if [1, 3, 6, 16, 17, 18, 22, 23, 32, 34, 37, 38, 48, 49, 50, 65, 67, 81, 82].contains n then some (1, 1)
  else if [2, 4, 5, 7, 8, 19, 24, 33, 35, 36, 80].contains n then some (3, 3)
  else if [20, 96, 97, 98].contains n then some (4, 4)
  else if [21, 51, 66, 83].contains n || (decide (112 ≤ n) && decide (n < 128)) then some (0, 0)
  else none

/-- A register's value after chip reset (00 R14); ALM_SRCn takes its own from 19 R947. -/
def regReset (off : Nat) : W32 :=
  if 0xE100 ≤ off ∧ off < 0xE300 then
    match alarmSource ((off - 0xE100) / 4) with
    | some (floor, cls) => BitVec.ofNat 32 (cls + 16 * floor)
    | none => 0#32
  else
    match regRow off with
    | some (r, _) => BitVec.ofNat 32 (resetOf r.fields)
    | none => 0#32

/-- The stored value of a register: for an EDGE field the shadow copy (00 R19). -/
def State.reg (s : State) (off : Nat) : W32 := AMap.get (regReset off) s.regs off

def State.setReg (s : State) (off : Nat) (v : W32) : State :=
  { s with regs := AMap.put (regReset off) s.regs off v }

def State.fld (s : State) (f : Fld) : Nat := bits (s.reg f.off).toNat f.hi f.lo

def State.bit (s : State) (f : Fld) : Bool := s.fld f == 1

def State.setFld (s : State) (f : Fld) (v : Nat) : State :=
  s.setReg f.off (BitVec.ofNat 32 (setBits (s.reg f.off).toNat f.hi f.lo v))

/-- The active copy of an EDGE field (00 R19). -/
def State.actReg (s : State) (off : Nat) : W32 := AMap.get (regReset off) s.act off

def State.actFld (s : State) (f : Fld) : Nat := bits (s.actReg f.off).toNat f.hi f.lo

def State.actBit (s : State) (f : Fld) : Bool := s.actFld f == 1

def State.setAct (s : State) (off hi lo v : Nat) : State :=
  { s with act := AMap.put (regReset off) s.act off (BitVec.ofNat 32 (setBits (s.actReg off).toNat hi lo v)) }

/-- The boundary of a field of instance i of its row, if it is an EDGE field. -/
def Field.boundary (f : Field) (i : Nat) : Option Boundary :=
  match f.when' with
  | .edge b => some b
  | .edgeI .mirI => some (.mir i)
  | .edgeI .adcSeqI => some (.adcSeq i)
  | .edgeI .adcUrgI => some (.adcUrg i)
  | .edgeI .canI => some (.can i)
  | .edgeI .linI => some (.lin i)
  | .edgeI .pwmI => some (.pwm i)
  | _ => none

/-- Copy every field of one register whose boundary is b into its active copy. -/
def transferReg (b : Boundary) (off : Nat) (r : RegRow) (i : Nat) (s : State) : State :=
  r.fields.foldl (fun s f =>
    if f.boundary i = some b then s.setAct off f.hi f.lo (bits (s.reg off).toNat f.hi f.lo) else s) s

/-- A boundary transfer of one window (00 R19): every EDGE field of that boundary takes its shadow value. -/
def transfer (window : Nat) (b : Boundary) (s : State) : State :=
  (regWindow window).foldl (fun s r =>
    (List.range r.count).foldl (fun s i => transferReg b (r.off + r.stride * i) r i s) s) s

/-- The CFG_REJ bit of the block that owns an offset. -/
def cfgRej (off : Nat) : Fld :=
  match off / 4096 with
  | 0x0 => F.GEN_STATUS_CFG_REJ
  | 0x1 => F.GKP_STATUS_CFG_REJ
  | 0x2 => F.EVR_STATUS_CFG_REJ
  | 0x3 => F.SHP_STATUS_CFG_REJ
  | 0x4 => F.SPN_GC_STATUS_CFG_REJ
  | 0x5 => F.FRY_STATUS_CFG_REJ
  | 0x6 => F.MIR_STATUS_CFG_REJ (if off < 0x6100 then 0 else 1)
  | 0x7 => F.PNT_STATUS_CFG_REJ
  | 0x8 => F.LMP_STATUS_CFG_REJ
  | 0x9 => F.WIT_STATUS_CFG_REJ
  | 0xA => F.ADC_STATUS_CFG_REJ
  | 0xB => F.VIO_STATUS_CFG_REJ
  | 0xC => F.PWR_STATUS_CFG_REJ
  | 0xD => F.TAL_STATUS_CFG_REJ
  | 0xE => F.ALM_STATUS_CFG_REJ
  | 0xF => F.TBD_TB_STATUS_CFG_REJ
  | _ => F.PLT_STATUS_CFG_REJ

/-- Set the CFG_REJ bit of the block that owns an offset. -/
def State.reject (s : State) (off : Nat) : State := s.setFld (cfgRej off) 1

/-- Count once in a saturating counter; at its largest value the _SAT bit is set (00 R24). -/
def State.bump (s : State) (cnt sat : Fld) : State :=
  let n := s.fld cnt
  let top := 2 ^ (cnt.hi + 1 - cnt.lo) - 1
  if n ≥ top then s.setFld sat 1
  else
    let s := s.setFld cnt (n + 1)
    if n + 1 = top then s.setFld sat 1 else s

/-- Count in a wrapping counter field. -/
def State.count (s : State) (cnt : Fld) : State :=
  s.setFld cnt ((s.fld cnt + 1) % 2 ^ (cnt.hi + 1 - cnt.lo))

/-- Count a refused host write (01 R55). -/
def State.hostRejected (s : State) : State := s.bump F.GEN_HOSTREJ_CNT_COUNT F.GEN_STATUS_HOSTREJ_SAT

/-- A value held in two consecutive registers, low half first. -/
def State.pair (s : State) (lo : Nat) : Nat := (s.reg lo).toNat + 2 ^ 32 * (s.reg (lo + 4)).toNat

def State.setPair (s : State) (lo v : Nat) : State :=
  (s.setReg lo (BitVec.ofNat 32 v)).setReg (lo + 4) (BitVec.ofNat 32 (v / 2 ^ 32))

/-! ### Time, alarms, free values -/

/-- The timebase; every local copy is read as the master's value (log entry 4). -/
def State.now (s : State) : Nat := s.time.ns.toNat

/-- Raise an Alarm board source; its action is taken before the step ends (19 R938). -/
def State.raise (s : State) (source arg : Nat) : State := { s with raised := s.raised ++ [⟨source, arg⟩] }

/-! Alarm board sources (19 R947). -/
abbrev aCellFault : Nat := 0
abbrev aCellBist : Nat := 1
abbrev aQuarLimit : Nat := 2
abbrev aMcFix : Nat := 3
abbrev aMcEcc : Nat := 4
abbrev aMcAbort : Nat := 5
abbrev aTrimVote : Nat := 6
abbrev aTrimLost : Nat := 7
abbrev aWeaveStall : Nat := 8
abbrev aEccCell : Nat := 16
abbrev aEccLarder : Nat := 17
abbrev aEccDram : Nat := 18
abbrev aEccBlock : Nat := 19
abbrev aEccWarden : Nat := 20
abbrev aEccCorr : Nat := 21
abbrev aFryPoison : Nat := 22
abbrev aHeapExhaust : Nat := 23
abbrev aTalBreach : Nat := 24
abbrev aMirUnderrun : Nat := 32
abbrev aLmpBook : Nat := 33
abbrev aWitNotshown : Nat := 34
abbrev aWitAb : Nat := 35
abbrev aWitStest : Nat := 36
abbrev aWitKey : Nat := 37
abbrev aLedFault : Nat := 38
abbrev aAdcStale : Nat := 48
abbrev aCanBusoff : Nat := 49
abbrev aLisTimeout : Nat := 50
abbrev aPcieDown : Nat := 51
abbrev aPmicInt : Nat := 64
abbrev aPmicNack : Nat := 65
abbrev aRailKl30 : Nat := 66
abbrev aThermHot : Nat := 67
abbrev aGkpTamper : Nat := 80
abbrev aGkpDigest : Nat := 81
abbrev aGkpTrim : Nat := 82
abbrev aGkpTrial : Nat := 83
abbrev aWardenLock : Nat := 96
abbrev aWardenFault : Nat := 97
abbrev aWardenWdog : Nat := 98
abbrev aSw0 : Nat := 112

/-- Take a free value (log entry 2). -/
def State.takeFree (s : State) : W64 × State := (Config.freeWord s.free, { s with free := s.free + 1 })

/-! ### Cells -/

def State.cell (s : State) (c : Nat) : Cell := AMap.get Cell.reset s.cells c

def State.setCell (s : State) (c : Nat) (x : Cell) : State :=
  { s with cells := AMap.put Cell.reset s.cells c x }

def State.modCell (s : State) (c : Nat) (f : Cell → Cell) : State := s.setCell c (f (s.cell c))

/-- The Warden's lockstep pair. -/
def wardenCell : Nat := 256

/-- The grove of a cell; a Warden cell counts as of grove 0 (10 R511). -/
def groveOf (c : Nat) : Nat := if c < 256 then c / 16 else 0

/-- Is the cell in placement and able to take interrupts (07 R359, R370). -/
def State.inPlacement (s : State) (c : Nat) : Bool := c == wardenCell || (s.cell c).placed

/-! ### Sprig slots -/

def State.slot (s : State) (n : Nat) : Slot := AMap.get Slot.reset s.shep.slots n

def State.setSlot (s : State) (n : Nat) (x : Slot) : State :=
  { s with shep := { s.shep with slots := AMap.put Slot.reset s.shep.slots n x } }

def State.modSlot (s : State) (n : Nat) (f : Slot → Slot) : State := s.setSlot n (f (s.slot n))

/-- The handle of a slot's sprig (10 R497). -/
def State.handle (s : State) (n : Nat) : TWord := sprgW n (s.slot n).gen

/-- Slot and generation of a SPRG word. -/
def sprgSlot (w : TWord) : Nat := w.p % 4096
def sprgGen (w : TWord) : Nat := w.p / 4096 % 4096

/-- A handle whose generation is not its slot's (10 R499). -/
def State.stale (s : State) (w : TWord) : Bool := (s.slot (sprgSlot w)).gen != sprgGen w

def SlotState.live : SlotState → Bool
  | .free => false
  | .ended => false
  | _ => true

/-- A handle that names a live sprig (05 R267). -/
def State.liveHandle (s : State) (w : TWord) : Bool :=
  w.t == tSPRG && !s.stale w && (s.slot (sprgSlot w)).state.live

/-! ### Reports to the Tally -/

/-- A block reports changes of terms to the Tally (11, "The seven ledgers"). -/
def State.report (s : State) (ledger index : Nat) (changes : List (Nat × Int)) : State :=
  let cs := changes.filter fun c => c.2 ≠ 0
  if cs.isEmpty then s
  else { s with tally := { s.tally with reports := s.tally.reports ++ [⟨ledger, index, cs⟩] } }

/-- Move n from one term to another. -/
def State.reportMove (s : State) (ledger index from' to' n : Nat) : State :=
  s.report ledger index [(from', -(n : Int)), (to', (n : Int))]

/-- Send events to a sprig: the bits are set in the pending set of a live one, and the packet counts as delivered or
merged in the event ledger (05 R267, R269; 11 R576); a handle of no live sprig is sent nothing. -/
def State.sendSprig (s : State) (w : TWord) (mask : W64) : State :=
  if s.liveHandle w then
    let merged := decide ((s.slot (sprgSlot w)).pend &&& mask = mask)
    (s.modSlot (sprgSlot w) fun x => { x with pend := x.pend ||| mask }).report 6 0
      [(0, 1), (if merged then 2 else 1, 1)]
  else s

/-! ### Interrupts to cells -/

/-- Arrival of IRQn at one cell (07 R370, R371): merged, delivered or dropped in the event ledger (11 R575). -/
def irqArrive (n : Nat) (payload : W32) (level2 : Bool) (c : Nat) (s : State) : State :=
  if s.inPlacement c then
    let was := (s.cell c).irqPend.getLsbD n
    (s.modCell c fun x =>
      { x with
        irqPend := BitVec.ofNat 32 (setBits x.irqPend.toNat n n 1)
        irqL2 := BitVec.ofNat 32 (setBits x.irqL2.toNat n n (b2n level2))
        irqPay := AMap.put 0#32 x.irqPay n payload }).reportMove 6 0 4 (if was then 2 else 1) 1
  else s.reportMove 6 0 4 3 1

/-- The cells from FIRST to LAST. -/
def cellRange (first last : Nat) : List Nat := (List.range (last + 1 - first)).map (· + first)

/-- The one cell of a range that a ONE route picks (07 R368): the lowest at level 0 with no hold open, else the
lowest. DEDUCED: a cell out of placement is not picked as one at level 0 (log entry 15). -/
def pickOne (s : State) (cs : List Nat) : Option Nat :=
  match cs.find? fun c => s.inPlacement c && decide ((s.cell c).level = .l0) && (s.cell c).hold.isNone with
  | some c => some c
  | none => cs.head?

/-- A block raises IRQn with a payload: a packet leaves for each target of its route (07 R367 to R369).
IRQ19 goes to the Warden only (19 R941). -/
def State.irq (s : State) (n payload : Nat) : State :=
  if s.bit (F.ALM_IRQ_ROUTE_EN n) then
    let l2 := s.bit (F.ALM_IRQ_ROUTE_LEVEL n)
    let cs := cellRange (s.fld (F.ALM_IRQ_ROUTE_FIRST n)) (s.fld (F.ALM_IRQ_ROUTE_LAST n))
    let cs := if n = 19 then [] else if s.bit (F.ALM_IRQ_ROUTE_ONE n) then (pickOne s cs).toList else cs
    let cs := if s.bit (F.ALM_IRQ_ROUTE_WDN n) then cs ++ [wardenCell] else cs
    ({ s with irqs := s.irqs ++ cs.map fun c => (⟨c, n, BitVec.ofNat 32 payload, l2⟩ : IrqPacket) }).report 6 0
      [(0, (cs.length : Int)), (4, (cs.length : Int))]
  else s

/-- The oldest interrupt packet on its way to a cell arrives. -/
def irqDeliver (c : Nat) (s : State) : State :=
  match s.irqs.find? fun p => p.cell == c with
  | some p => irqArrive p.irq p.payload p.level2 c { s with irqs := s.irqs.erase p }
  | none => s

/-- NMI at one cell: merged with one that is pending (07 R370, R377). -/
def nmiArrive (fromPin : Bool) (source c : Nat) (s : State) : State :=
  if s.inPlacement c then
    s.modCell c fun x =>
      let old := match x.nmi with | some i => i.toNat | none => 0
      let i := if fromPin then setBits old 0 0 1 else setBits (setBits old 1 1 1) 15 8 source
      { x with nmi := some (BitVec.ofNat 64 i) }
  else s

/-- NMI to the Warden and to the routed cells (07 R376). -/
def State.nmiAll (s : State) (fromPin : Bool) (source : Nat) : State :=
  let cs := if s.bit F.ALM_NMI_ROUTE_EN then
    cellRange (s.fld F.ALM_NMI_ROUTE_FIRST) (s.fld F.ALM_NMI_ROUTE_LAST) else []
  (wardenCell :: cs).foldl (fun s c => nmiArrive fromPin source c s) s

end Sys2Proof.Machine
end

