-- ==== Sys2Proof/Machine/HeapOps.lean ====
section
/-!
DEFINITION. The heap as data: regions, headers and colours, the Larder's bins, the DRAM page format, reading and
writing heap words, granules, and walking the objects of a granule (09).
-/
namespace Sys2Proof.Machine

/-! ### Addresses and regions (R434 to R437) -/

def pageOf (a : Nat) : Nat := a / 1024
def granOf (a : Nat) : Nat := a / 256

inductive Region where
  | collected | image | unmapped
  deriving DecidableEq, Repr

def State.region (s : State) (page : Nat) : Region :=
  let hb := s.fld F.SPN_HEAP_BASE_PAGE
  let ib := s.fld F.SPN_IMG_BASE_PAGE
  if hb ≤ page ∧ page < hb + s.fld F.SPN_HEAP_PAGES_COUNT then .collected
  else if ib ≤ page ∧ page < ib + s.fld F.SPN_IMG_PAGES_COUNT then .image
  else .unmapped

/-- The backing index of a page (R485). -/
def State.backing (s : State) (page : Nat) : Nat :=
  match s.region page with
  | .image => s.fld F.SPN_HEAP_PAGES_COUNT + page - s.fld F.SPN_IMG_BASE_PAGE
  | _ => page - s.fld F.SPN_HEAP_BASE_PAGE

def State.payloadAt (s : State) (page : Nat) : Nat :=
  s.fld F.FRY_HEAP_DBASE_BASE * 2 ^ 20 + s.backing page * 8192

def State.sidecarAt (s : State) (page : Nat) : Nat :=
  s.fld F.FRY_SIDE_DBASE_BASE * 2 ^ 20 + s.backing page * 1024

/-- The installed DRAM in bytes: PLT_DDR_STAT.CAP MiB (19 R935). -/
def State.dramSize (s : State) : Nat := s.fld F.PLT_DDR_STAT_CAP * 2 ^ 20

/-- The page lies beyond the DRAM backing configured for its region (R482 reason 3). DEDUCED: its payload or sidecar
does not lie wholly in the installed DRAM (log entry 16). -/
def State.unbacked (s : State) (page : Nat) : Bool :=
  s.dramSize < s.payloadAt page + 8192 || s.dramSize < s.sidecarAt page + 1024

/-! ### Headers and colours (R439 to R446) -/

def hdrLen (w : TWord) : Nat := w.p % 65536
def hdrKind (w : TWord) : Nat := bits w.p 19 16
def hdrM (w : TWord) : Bool := w.payload.getLsbD 20
def hdrExc (w : TWord) : Bool := w.payload.getLsbD 21
def hdrMov (w : TWord) : Bool := w.payload.getLsbD 22
def hdrLarge (w : TWord) : Bool := w.payload.getLsbD 23

/-- Set one bit of a header's payload. -/
def hdrSet (w : TWord) (bit : Nat) (v : Bool) : TWord :=
  { w with payload := BitVec.ofNat 64 (setBits w.p bit bit (b2n v)) }

/-- A header word of a colour, length, kind, M and LARGE, with EXC and MOV clear. -/
def mkHdr (colour : BitVec 2) (len kind : Nat) (m large : Bool) : TWord :=
  ⟨BitVec.ofNat 6 tHDR, colour, BitVec.ofNat 64 (len + kind * 2 ^ 16 + b2n m * 2 ^ 20 + b2n large * 2 ^ 23)⟩

def white : BitVec 2 := 0#2
def grey : BitVec 2 := 1#2
def black : BitVec 2 := 2#2
def pinned : BitVec 2 := 3#2

/-- Effectively white under the current parity (R444). -/
def effWhite (parity : Bool) (w : TWord) : Bool :=
  !(w.colour == pinned || ((w.colour == grey || w.colour == black) && hdrM w == parity))

/-- Kinds: pair, vector, string, closure, box, filler (R439). -/
abbrev kPair : Nat := 0
abbrev kVec : Nat := 1
abbrev kStr : Nat := 2
abbrev kClo : Nat := 3
abbrev kBox : Nat := 4
abbrev kFill : Nat := 5

/-- A pointer word to an object of a kind (R440). -/
def ptrTo (kind a : Nat) : TWord := mkN (0x08 + kind) a

/-- The heap word address in a pointer word. -/
def addrOf (w : TWord) : Nat := w.p % 2 ^ 40

/-! ### The sidecar's check bits (R488 to R490) -/

/-- The Hamming positions of the 24 data bits. -/
def hamPos : List Nat :=
  [3, 5, 6, 7, 9, 10, 11, 12, 13, 14, 15, 17, 18, 19, 20, 21, 22, 23, 24, 25, 26, 27, 28, 29]

/-- Exclusive-or of the positions of the set data bits: c_0 to c_4 as a number. -/
def hamSyn (d : Nat) : List Nat → Nat → Nat
  | [], _ => 0
  | p :: ps, k => (if d.testBit k then p else 0) ^^^ hamSyn d ps (k + 1)

/-- Parity of the low n bits. -/
def parityOf (x : Nat) : Nat → Nat
  | 0 => 0
  | n + 1 => (b2n (x.testBit n) + parityOf x n) % 2

/-- The check byte of 24 tag bits (R489). -/
def hamCheck (d : Nat) : Nat :=
  let c := hamSyn d hamPos 0
  c + 32 * ((parityOf d 24 + parityOf c 5) % 2)

/-- The corrected tag bits, or none for a double-bit error (R490). -/
def hamFix (d c : Nat) : Option Nat :=
  let syn := (hamSyn d hamPos 0 ^^^ c) % 32
  let par := (parityOf d 24 + parityOf c 6) % 2
  if syn = 0 then some d
  else if par = 0 then none
  else match hamPos.idxOf? syn with
    | some k => some (d ^^^ 2 ^ k)
    | none => if syn = 1 ∨ syn = 2 ∨ syn = 4 ∨ syn = 8 ∨ syn = 16 then some d else none

/-! ### DRAM page format (R485 to R491) -/

/-- A byte that nothing has written reads 0 (log entry 7). -/
def dramByte (s : State) (a : Nat) : Byte := Memory.read 0#8 s.dram a
def dramLe (s : State) (a n : Nat) : Nat := Memory.le 0#8 s.dram a n
def State.dramPut (s : State) (a n v : Nat) : State := { s with dram := Memory.putLe 0#8 s.dram a n v }
def State.dramWrite (s : State) (a : Nat) (bs : List Byte) : State :=
  { s with dram := Memory.writeN 0#8 s.dram a bs }

/-- The 24 tag bits of words 4g to 4g + 3 as DRAM holds them. -/
def tagBits (s : State) (page g : Nat) : Nat := dramLe s (s.sidecarAt page + 3 * g) 3

/-- A page-in of this group of tags finds no double-bit error. -/
def groupFix (s : State) (page g : Nat) : Option Nat :=
  hamFix (tagBits s page g) (dramByte s (s.sidecarAt page + 768 + g)).toNat

/-- One heap word as a page-in delivers it. -/
def dramWord (s : State) (page w : Nat) : TWord :=
  let d := (groupFix s page (w / 4)).getD (tagBits s page (w / 4))
  let tag := bits d (6 * (w % 4) + 5) (6 * (w % 4))
  let p := dramLe s (s.payloadAt page + 8 * w) 8
  if tag = tHDR then ⟨BitVec.ofNat 6 tag, BitVec.ofNat 2 (p / 2 ^ 62), BitVec.ofNat 64 (p % 2 ^ 62)⟩
  else mkN tag p

/-- One heap word as a page-out stores it. -/
def dramSet (s : State) (page w : Nat) (x : TWord) : State :=
  let p := if x.t = tHDR then x.p % 2 ^ 62 + x.colour.toNat * 2 ^ 62 else x.p
  let s := s.dramPut (s.payloadAt page + 8 * w) 8 p
  let g := w / 4
  let d := setBits ((groupFix s page g).getD (tagBits s page g)) (6 * (w % 4) + 5) (6 * (w % 4)) x.t
  let s := s.dramPut (s.sidecarAt page + 3 * g) 3 d
  s.dramPut (s.sidecarAt page + 768 + g) 1 (hamCheck d)

/-! ### Bins (R476 to R481) -/

/-- The bin that holds a page, in transit or not. -/
def State.binOf (s : State) (page : Nat) : Option (Nat × Bin) := List.find? (fun e => e.2.page == page) s.heap.bins

def State.resident (s : State) (page : Nat) : Bool :=
  match s.binOf page with
  | some (_, b) => !b.transit
  | none => false

/-- The term of the bin ledger that counts a bin (11 R573). -/
def binTerm : Option Bin → Nat
  | none => 0
  | some b => if b.transit then 2 else if b.pinned then 3 else 1

/-- Change a bin, with its report. -/
def State.setBin (s : State) (n : Nat) (b : Option Bin) : State :=
  let old := s.heap.bins.find? n
  let bins := match b with
    | some b => AMap.insert s.heap.bins n b
    | none => AMap.erase s.heap.bins n
  let s := { s with heap := { s.heap with bins := bins } }
  if binTerm old = binTerm b then s else s.reportMove 3 0 (binTerm old) (binTerm b) 1

/-- An access sets the referenced bit of its bin, a store also marks it written (R479). -/
def State.touch (s : State) (page : Nat) (write : Bool) : State :=
  { s with heap := { s.heap with bins := s.heap.bins.map fun e =>
      if e.2.page = page then (e.1, { e.2 with referenced := true, written := e.2.written || write }) else e } }

/-! ### Heap words -/

/-- The word at a heap address, in the Larder or in DRAM. -/
def State.heapRead (s : State) (a : Nat) : TWord :=
  if s.resident (pageOf a) then AMap.get ⟨0#6, 0#2, 0#64⟩ s.heap.words a
  else dramWord s (pageOf a) (a % 1024)

/-- Store a heap word, in the Larder or in DRAM. -/
def State.heapPut (s : State) (a : Nat) (w : TWord) : State :=
  if s.resident (pageOf a) then
    ({ s with heap := { s.heap with words := AMap.put ⟨0#6, 0#2, 0#64⟩ s.heap.words a w } }).touch (pageOf a) true
  else dramSet s (pageOf a) (a % 1024) w

/-- Store words at consecutive heap addresses. -/
def State.heapFill (s : State) (a : Nat) : List TWord → State
  | [] => s
  | w :: ws => State.heapFill (s.heapPut a w) (a + 1) ws

/-- Element i of a vector at address a, as an engine reads and writes it. -/
def State.elem (s : State) (a i : Nat) : TWord := s.heapRead (a + 1 + i)
def State.setElem (s : State) (a i : Nat) (w : TWord) : State := s.heapPut (a + 1 + i) w

/-- Page w to w + n - 1 of a page into the Larder's words. -/
def loadWords (s : State) (page : Nat) : Nat → AMap TWord → AMap TWord
  | 0, m => m
  | n + 1, m => loadWords s page n (AMap.put ⟨0#6, 0#2, 0#64⟩ m (page * 1024 + n) (dramWord s page n))

/-- The page's words enter the Larder (R491). -/
def State.pageLoad (s : State) (page : Nat) : State :=
  { s with heap := { s.heap with words := loadWords s page 1024 s.heap.words } }

/-- The check byte of a group is the one of its tag bits. -/
def State.groupClean (s : State) (page g : Nat) : Bool :=
  (dramByte s (s.sidecarAt page + 768 + g)).toNat == hamCheck (tagBits s page g)

/-- The page's words go to DRAM (R487 to R491). -/
def storeWords (page : Nat) : Nat → State → State
  | 0, s => s
  | n + 1, s =>
    let x := AMap.get ⟨0#6, 0#2, 0#64⟩ s.heap.words (page * 1024 + n)
    storeWords page n (if s.groupClean page (n / 4) ∧ dramWord s page n = x then s else dramSet s page n x)

/-- The page's words leave the Larder. -/
def State.pageDrop (s : State) (page : Nat) : State :=
  { s with heap := { s.heap with words := s.heap.words.filter fun e => pageOf e.1 ≠ page } }

/-! ### Granules (R447 to R452, R492) -/

def State.gran (s : State) (g : Nat) : Gran := AMap.get Gran.fresh s.heap.grans g

def State.setGran (s : State) (g : Nat) (x : Gran) : State :=
  { s with heap := { s.heap with grans := AMap.put Gran.fresh s.heap.grans g x } }

/-- First granule and number of granules of the collected region. -/
def State.firstGran (s : State) : Nat := s.fld F.SPN_HEAP_BASE_PAGE * 4
def State.granCount (s : State) : Nat := s.fld F.SPN_HEAP_PAGES_COUNT * 4

/-- Free granules now. -/
def State.freeGrans (s : State) : Nat :=
  s.granCount - (s.heap.grans.filter fun e => e.2.st ≠ .free).length

/-- The granule may be issued: free and not held (R452). -/
def State.issuable (s : State) (g : Nat) : Bool :=
  decide (s.firstGran ≤ g) && decide (g < s.firstGran + s.granCount) && decide ((s.gran g).st = .free)
    && !(s.gran g).held

/-- The lowest number from g up that is not listed. -/
def firstGap : AMap Gran → Nat → Nat
  | [], g => g
  | (k, x) :: m, g => if k = g then (if x.st = .free ∧ x.held = false then g else firstGap m (g + 1)) else
      if k < g then firstGap m g else g

/-- The granule a slab request takes (R447): one whose page is resident in the grove's slice, the lowest-numbered of
them (log entry 17), else the lowest-numbered free granule. -/
def State.pickGran (s : State) (grove : Nat) : Option Nat :=
  let pages := (s.heap.bins.filter fun e => e.1 / 128 = grove ∧ !e.2.transit).map (·.2.page)
  let near := (pages.flatMap fun p => [4 * p, 4 * p + 1, 4 * p + 2, 4 * p + 3]).filter s.issuable
  match near.min? with
  | some g => some g
  | none =>
    let g := firstGap s.heap.grans s.firstGran
    if s.issuable g then some g else none

/-- Every granule of n pages from page p is free and may be issued. -/
def State.pagesFree (s : State) (p : Nat) : Nat → Bool
  | 0 => true
  | n + 1 => s.issuable (4 * p) && s.issuable (4 * p + 1) && s.issuable (4 * p + 2) && s.issuable (4 * p + 3)
      && State.pagesFree s (p + 1) n

/-- The lowest-numbered run of n free pages (R450): it starts at the region's first page or just after a page that is
not free. -/
def State.pickRun (s : State) (n : Nat) : Option Nat :=
  let b := s.fld F.SPN_HEAP_BASE_PAGE
  let starts := b :: (s.heap.grans.map fun e => e.1 / 4 + 1)
  let ok := starts.filter fun p =>
    decide (b ≤ p) && decide (p + n ≤ b + s.fld F.SPN_HEAP_PAGES_COUNT) && s.pagesFree p n
  ok.min?

/-! ### Fillers (R442, R449) -/

/-- A filler over words a to b - 1, which lie in one granule. -/
def fillOne (a b : Nat) (s : State) : State :=
  if a < b then s.heapPut a (mkHdr black (b - a - 1) kFill s.heap.parity false) else s

/-- Fillers over words a to b - 1, one in each granule touched; n bounds the number of granules. -/
def fillRun : Nat → Nat → Nat → State → State
  | 0, _, _, s => s
  | n + 1, a, b, s =>
    if a < b then
      let e := min b ((granOf a + 1) * 256)
      fillRun n e b (fillOne a e s)
    else s

/-! ### Objects of a granule -/

/-- An object found by a walk: address, words in all, its first word. -/
structure Found where
  addr : Nat
  size : Nat
  hdr : TWord
  deriving DecidableEq, Repr

/-- Words that an object of this first word takes. A FWD word stands for an old copy: one word and the filler in its
word 1 (R472). -/
def objSize (s : State) (a : Nat) (w : TWord) : Nat :=
  if w.t = tHDR then 1 + hdrLen w
  else if w.t = tFWD then 2 + hdrLen (s.heapRead (a + 1))
  else 0

/-- The objects from a up to lim; a word that starts no object ends the walk. -/
def walk (s : State) (lim : Nat) : Nat → Nat → List Found
  | 0, _ => []
  | n + 1, a =>
    if a < lim then
      let w := s.heapRead a
      let k := objSize s a w
      if k = 0 then [] else ⟨a, k, w⟩ :: walk s lim n (a + k)
    else []

/-- The end of the words in use of a granule: the slab's next free word, or the granule's end. -/
def State.granEnd (s : State) (g : Nat) : Nat :=
  match (s.gran g).st with
  | .cellSlab c => match (s.cell c).slab, (s.cell c).quar with
    | some x, _ => if x.gran = g then x.ptr else 256 * g + 256
    | none, some x => if x.gran = g then x.ptr else 256 * g + 256
    | none, none => 256 * g + 256
  | .gleanerSlab v => match s.heap.gslabs.find? v with
    | some (h, p) => if h = g then p else 256 * g + 256
    | none => 256 * g + 256
  | _ => 256 * g + 256

/-- The objects of one granule. A large object is found in its first granule only. -/
def State.objects (s : State) (g : Nat) : List Found :=
  match (s.gran g).st with
  | .free => []
  | .largeTail => []
  | .ringSlab _ => []
  | .largeHead =>
    let w := s.heapRead (256 * g)
    [⟨256 * g, 1 + hdrLen w, w⟩]
  | _ => walk s (s.granEnd g) 256 (256 * g)

/-- Words of a granule that count as allocated or ochre: objects that are not fillers, and old copies (R492). -/
def State.liveWords (s : State) (g : Nat) : Nat :=
  ((s.objects g).filter fun f => !(f.hdr.t == tHDR && hdrKind f.hdr == kFill)).foldl (fun n f => n + f.size) 0

/-- The pages a large object of this length occupies (R442). -/
def largePages (len : Nat) : Nat := (len + 1024) / 1024

end Sys2Proof.Machine
end

