-- ==== Sys2Proof/Machine/HeapEngine.lean ====
section
/-!
DEFINITION. The Ferrymen (09 R476 to R484), shading and excuse (R445, R454, R456, R458), the start of a cycle (R461,
R462), slabs, large objects and retirement (R447 to R452).
-/
namespace Sys2Proof.Machine

/-! ### Ferrymen -/

/-- The first free bin of a grove's slice. -/
def State.freeBin (s : State) (grove : Nat) : Option Nat :=
  ((List.range 128).map (· + 128 * grove)).find? fun n => (s.heap.bins.find? n).isNone

/-- Free bins of a grove's slice. -/
def State.sliceFree (s : State) (grove : Nat) : Nat := 128 - (s.heap.bins.filter fun e => e.1 / 128 = grove).length

/-- The slice with the most free bins, the lowest grove among equals. -/
def State.roomiest (s : State) : Nat :=
  (List.range 16).foldl (fun b g => if s.sliceFree g > s.sliceFree b then g else b) 0

/-- The order in which the second-chance sweep meets a list of bins: from the hand on, then from the start. -/
def fromHand (hand : Nat) (l : List (Nat × Bin)) : List (Nat × Bin) :=
  l.filter (fun e => hand ≤ e.1) ++ l.filter (fun e => e.1 < hand)

/-- Clear the referenced bit of bins until one is found clear (R479). -/
def secondChance : List (Nat × Bin) → AMap Bin → AMap Bin × Option Nat
  | [], m => (m, none)
  | (n, b) :: l, m =>
    if b.referenced then secondChance l (AMap.insert m n { b with referenced := false }) else (m, some n)

/-- The victim of an eviction (R479): second chance over the resident, unpinned bins of the slice, or of the whole
Larder when the slice has none. Each slice has a hand of its own (log entry 8). -/
def State.victim (s : State) (grove : Nat) : State × Option Nat :=
  let all := s.heap.bins.filter fun e => !e.2.transit && !e.2.pinned
  let own := all.filter fun e => e.1 / 128 = grove
  let l := fromHand (AMap.get 0 s.heap.hand grove) (if own.isEmpty then all else own)
  let (m, v) := secondChance l s.heap.bins
  let v := match v with
    | some n => some n
    | none => l.head?.map (·.1)
  let hand := match v with
    | some n => AMap.put 0 s.heap.hand grove (n + 1)
    | none => s.heap.hand
  ({ s with heap := { s.heap with bins := m, hand := hand } }, v)

/-- Give a page a bin that starts its transit (R478, R479). A written victim is written back first: its bin stays on
the old page until then. -/
def State.startTransit (s : State) (page grove : Nat) : State :=
  if (s.binOf page).isSome || s.heap.bins.any (fun e => e.2.next == some page) then s
  else
    let fresh : Bin := ⟨page, true, false, false, false, none⟩
    match s.freeBin grove with
    | some n => s.setBin n (some fresh)
    | none => match s.freeBin s.roomiest with
      | some n => s.setBin n (some fresh)
      | none =>
        match s.victim grove with
        | (s, none) => s
        | (s, some n) => match s.heap.bins.find? n with
          | none => s
          | some b =>
            if b.written then s.setBin n (some { b with transit := true, next := some page })
            else (s.pageDrop b.page).setBin n (some fresh)

def State.fryQueue (s : State) (f : Nat) : List FryReq := AMap.get [] s.heap.queues f

def State.setFryQueue (s : State) (f : Nat) (q : List FryReq) : State :=
  { s with heap := { s.heap with queues := AMap.put [] s.heap.queues f q } }

/-- The request at the head of a Ferryman's queue starts its transit when a bin can be had. -/
def State.fryStart (s : State) (f : Nat) : State :=
  match s.fryQueue f with
  | [] => s
  | r :: _ => s.startTransit r.page r.grove

/-- An access requests a page that is not resident (R477, R480). A Ferryman whose 32 places are taken takes the
request when it is made again. -/
def State.requestPage (s : State) (page grove : Nat) : State :=
  let f := page % 4
  let q := s.fryQueue f
  if s.resident page || q.any (fun r => r.page == page) || q.length ≥ 32 then s.fryStart f
  else (s.setFryQueue f (q ++ [⟨page, grove, s.now⟩])).fryStart f

/-- Poison a page (R484): the first one is recorded. -/
def State.poisonPage (s : State) (page : Nat) : State :=
  if s.heap.poison.contains page then s
  else
    let s := if s.bit F.FRY_STATUS_POISON then s else s.setFld F.FRY_POISON_PAGE_PAGE page
    let s := { s with heap := { s.heap with poison := s.heap.poison ++ [page] } }
    (s.setFld F.FRY_STATUS_POISON 1).raise aFryPoison page

/-- A page of DRAM whose sidecar holds a double-bit error (R490). -/
def State.sidecarBad (s : State) (page : Nat) : Bool := (List.range 256).any fun g => (groupFix s page g).isNone

/-- Complete a page-in (R480, R484, R491): the bin in transit for the page becomes resident, or is freed when the page
is poisoned. -/
def State.finishPageIn (s : State) (page : Nat) (bad : Bool) : State :=
  match s.binOf page with
  | some (n, b) =>
    if b.transit && b.next.isNone then
      if bad || s.sidecarBad page then (s.poisonPage page).setBin n none
      else
        ((s.pageLoad page).setBin n (some { b with transit := false, referenced := true })).bump
          F.FRY_PAGEIN_CNT_COUNT F.FRY_STATUS_PAGEIN_SAT
    else s
  | none => s

/-- Write a victim back (R479, R487 to R491); its bin then carries the page that waits for it. A word marked poisoned
poisons the page (19 R952). -/
def State.finishWriteBack (s : State) (page : Nat) : State :=
  match s.binOf page with
  | some (n, b) => match b.next with
    | some p =>
      let badHere := s.heap.badWords.filter fun a => pageOf a = page
      let s := storeWords page 1024 s
      let s := if badHere.isEmpty then s else s.poisonPage page
      let s := { s with heap := { s.heap with badWords := s.heap.badWords.filter fun a => pageOf a ≠ page } }
      (s.pageDrop page).setBin n (some ⟨p, true, b.pinned, false, false, none⟩)
    | none => s
  | none => s

/-- Every bin is pinned or in transit (R482 reason 1). -/
def State.binsBusy (s : State) : Bool :=
  decide (s.heap.bins.length ≥ 2048) && s.heap.bins.all fun e => e.2.pinned || e.2.transit

/-! ### Shading, excuse, forwarding -/

def State.greyQueue (s : State) (g : Nat) : List Nat := AMap.get [] s.heap.grey g

def State.setGreyQueue (s : State) (g : Nat) (q : List Nat) : State :=
  { s with heap := { s.heap with grey := AMap.put [] s.heap.grey g q } }

/-- Push onto a grove's grey queue; a full queue flags the object's page (R470). -/
def State.greyPush (s : State) (g a : Nat) : State :=
  let q := s.greyQueue g
  if q.length < 8192 then s.setGreyQueue g (q ++ [a])
  else
    let o := s.heap.overflow
    { (s.setFld F.SPN_GC_STATUS_GQOVF 1) with
      heap := { s.heap with overflow := if o.contains (pageOf a) then o else o ++ [pageOf a] } }

/-- CASH on the header at a (R445), and a push onto the grove's queue when it succeeded (R454). -/
def State.shade (s : State) (grove a : Nat) : State :=
  let w := s.heapRead a
  if w.t = tHDR ∧ s.region (pageOf a) = .collected ∧ effWhite s.heap.parity w then
    (s.heapPut a { (hdrSet w 20 s.heap.parity) with colour := grey }).greyPush grove a
  else s

def State.condemned (s : State) (page : Nat) : Bool := s.heap.condemned.contains page

/-- Excuse the object at a: set EXC unless it is set (R456). An object of LEN 0 counts as excused (R472). -/
def State.excuse (s : State) (a : Nat) : State :=
  let w := s.heapRead a
  if w.t = tHDR ∧ hdrLen w ≠ 0 ∧ hdrExc w = false then s.heapPut a (hdrSet w 21 true) else s

/-- The object at a is excused. -/
def excused (w : TWord) : Bool := hdrExc w || hdrLen w == 0

/-- What resolving a FWD word comes to (R458). -/
inductive FwdRes where
  | ok (w : TWord) (s : State)
  | moving
  | bad

/-- Resolve a FWD to address a (R458). -/
def State.resolveFwd (s : State) (a : Nat) : FwdRes :=
  let w := s.heapRead a
  if w.t = tHDR then
    if hdrMov w then .moving
    else
      let s := if (s.heap.phase = .roots ∨ s.heap.phase = .mark ∨ s.heap.phase = .relocate)
          ∧ s.condemned (pageOf a) then s.excuse a else s
      .ok (ptrTo (hdrKind w) a) s
  else if w.t = tFWD then
    let b := addrOf w
    .ok (ptrTo (hdrKind (s.heapRead b)) b) s
  else .bad

/-- The write barrier of a store of `new` over `old` (R453, R454). -/
def State.writeBarrier (s : State) (grove : Nat) (old new : TWord) : State :=
  if s.heap.phase = .roots ∨ s.heap.phase = .mark then
    let s := if isPtrTag old.t then s.shade grove (addrOf old)
      else if old.t = tFWD then
        match s.resolveFwd (addrOf old) with
        | .ok w s => s.shade grove (addrOf w)
        | _ => s
      else s
    if isPtrTag new.t then s.shade grove (addrOf new) else s
  else s

/-! ### Cycles -/

/-- A cycle starts (R461): ROOTS, the cycle count, the EDGE fields at cycle start. -/
def State.gcStart (s : State) : State :=
  let s := transfer 4 .gcStart s
  { s with heap := { s.heap with
      phase := .roots, cycle := s.heap.cycle + 1#32, lastStart := s.now, scanned := [], rootsDone := [],
      relocated := [], swept := [] } }

/-- A cycle may start: from IDLE, with GC_EN set, while the Gleaners are not stopped (R462, R463). -/
def State.gcMay (s : State) : Bool :=
  decide (s.heap.phase = .idle) && s.bit F.SPN_CTL_GC_EN && s.heap.built

/-- Free granules have fallen below TRIG_FREE percent (R462). -/
def State.gcLow (s : State) : Bool :=
  decide (s.freeGrans * 100 < s.granCount * s.actFld F.SPN_GC_CTL_TRIG_FREE)

/-- Start a cycle for lack of granules or for a waiting request (R462). -/
def State.gcTrigger (s : State) : State :=
  if s.gcMay && (s.gcLow || !s.heap.reqs.isEmpty) then s.gcStart else s

/-! ### Slabs and large objects -/

/-- The term of the heap ledger for the words of an object in a granule of an epoch (R492). -/
def wordTerm (epoch : Nat) : Nat := if epoch = 0 then 2 else 4

/-- Report n words that move from slabs or free to objects of an epoch, with the ochre ledger's words (11 R577). -/
def State.reportObjects (s : State) (from' epoch n : Nat) : State :=
  let s := s.reportMove 2 0 from' (wordTerm epoch) n
  if epoch = 0 then s else s.report 7 epoch [(1, (n : Int))]

/-- Retire the slab of a cell (R449): fillers over its unused words, which count as free (R493). -/
def State.retireSlab (s : State) (c : Nat) : State :=
  match (s.cell c).slab with
  | none => s
  | some x =>
    let s := fillRun 1 x.ptr x.lim s
    let s := s.setGran x.gran { s.gran x.gran with st := .used }
    let s := s.modCell c fun k => { k with slab := none }
    s.reportMove 2 0 1 0 (x.lim - x.ptr)

/-- Give a cell a slab in granule g (R447). -/
def State.giveSlab (s : State) (c g epoch : Nat) : State :=
  let s := s.setGran g ⟨.cellSlab c, s.heap.parity, epoch, false⟩
  let s := s.modCell c fun k => { k with slab := some ⟨g, 256 * g, 256 * g + 256, s.heap.parity, epoch⟩ }
  (s.reportMove 2 0 0 1 256).gcTrigger

/-- A request waits in the Spinner (R451). -/
def State.spinWait (s : State) (r : SpinReq) : State :=
  { s with heap := { s.heap with reqs := s.heap.reqs ++ [r] } }

def State.dropReq (s : State) (who : SpinWho) : State :=
  { s with heap := { s.heap with reqs := s.heap.reqs.filter fun r => r.who ≠ who } }

def State.spinReqOf (s : State) (who : SpinWho) : Option SpinReq := s.heap.reqs.find? fun r => r.who = who

/-- The Spinner answers a request as exhausted (R451). -/
def State.exhaust (s : State) : State := (s.setFld F.SPN_GC_STATUS_EXHAUST 1).raise aHeapExhaust 0

/-- A request that finds no room is answered as exhausted at once while GC_EN is clear and no cycle that started after
it is running (R451). -/
def State.exhaustNow (s : State) (r : SpinReq) : Bool :=
  !s.bit F.SPN_CTL_GC_EN && !(decide (s.heap.phase ≠ .idle) && decide (r.cycle < s.heap.cycle.toNat))

/-- Write a large object into a run of pages from page p (R450): header, words, fillers after it, granules. -/
def State.putLarge (s : State) (p kind len : Nat) (first fill : TWord) (epoch : Nat) : State :=
  let n := largePages len
  let a := 1024 * p
  let s := (List.range (4 * n)).foldl (fun s k =>
    s.setGran (4 * p + k) ⟨if k = 0 then .largeHead else .largeTail, s.heap.parity, epoch, false⟩) s
  let s := s.heapPut a (mkHdr black len kind s.heap.parity true)
  let s := s.heapFill (a + 1) (if len = 0 then [] else first :: List.replicate (len - 1) fill)
  let s := fillRun 5 (a + 1 + len) (1024 * (p + n)) s
  (s.reportObjects 0 epoch (1 + len)).gcTrigger

/-- Free the pages of a large object whose head page is p. -/
def State.freeLarge (s : State) (p len : Nat) (held : Bool) : State :=
  (List.range (4 * largePages len)).foldl (fun s k => s.setGran (4 * p + k) ⟨.free, false, 0, held⟩) s

/-! ### Painter ports (13 R668, R673) -/

/-- Heap word address of port e's header. -/
def State.port (s : State) (e : Nat) : Nat := s.fld F.SPN_HEAP_BASE_PAGE * 1024 + 256 * e

/-- A port's elements as at its epoch's opening (R668, R673). -/
def portElems : List TWord := [fix 0, fix 0] ++ List.replicate 128 nil ++ List.replicate 125 (unb 0)

def State.portReset (s : State) (e : Nat) : State :=
  if s.heap.built then s.heapFill (s.port e + 1) (portElems.take 130) else s

end Sys2Proof.Machine
end

