-- ==== Sys2Proof/Machine/CellMem.lean ====
section
/-!
DEFINITION. Heap accesses of a cell: loads through the read barrier, stores through the write barrier and the store
buffer, the epoch log, compare-and-swap, objects and bounds, allocation (04 R181 to R187; 05 R236 to R244; 09 R434 to
R460; 10 R536 to R542).
-/
namespace Sys2Proof.Machine

/-- What an access or a routine of a cell comes to: a value; an exception (cause, SV_INFO); a wait, after which the
same move issues again; a stall of an ochre sprig (10 R545); the start of a micro-routine whose microcode is loaded
(08 R419). -/
inductive Out (α : Type) where
  | ok (a : α) (s : State)
  | exc (cause info : Nat) (s : State)
  | wait (s : State)
  | stall (s : State)
  | start (r : MicroStart) (s : State)

/-- Continue an outcome that has a value. -/
def Out.andThen {α β : Type} (o : Out α) (f : α → State → Out β) : Out β :=
  match o with
  | .ok a s => f a s
  | .exc c i s => .exc c i s
  | .wait s => .wait s
  | .stall s => .stall s
  | .start r s => .start r s

/-! Cause numbers (07 R331). -/
abbrev cTAGMISS : Nat := 0x01
abbrev cOVF : Nat := 0x02
abbrev cDIVZ : Nat := 0x03
abbrev cFPUN : Nat := 0x04
abbrev cSPILLF : Nat := 0x05
abbrev cFILLF : Nat := 0x06
abbrev cHEAPF : Nat := 0x07
abbrev cBINX : Nat := 0x08
abbrev cCODEW : Nat := 0x09
abbrev cPRIV : Nat := 0x0A
abbrev cBADSOCK : Nat := 0x0B
abbrev cLATEBUS : Nat := 0x0C
abbrev cHOLDX : Nat := 0x0D
abbrev cEVTO : Nat := 0x0E
abbrev cECCU : Nat := 0x0F
abbrev cMCABORT : Nat := 0x10
abbrev cDOUBLE : Nat := 0x11
abbrev cNMI : Nat := 0x12
abbrev cSYSGATE : Nat := 0x13

/-- SV_INFO of HEAPF (07 R339). -/
def heapfInfo (reason sock a : Nat) : Nat := reason + sock * 16 + (a % 2 ^ 40) * 2 ^ 24

def heapf {α : Type} (reason sock a : Nat) (s : State) : Out α := .exc cHEAPF (heapfInfo reason sock a) s

/-- HEAPF of an allocation, which has no heap address: the address bits are a free value (log entry 26). -/
def heapfAlloc {α : Type} (reason sock : Nat) (s : State) : Out α :=
  heapf reason sock s.takeFree.1.toNat s.takeFree.2

/-- SV_INFO of BINX (09 R483). -/
def binxInfo (reason a : Nat) : Nat := reason + (pageOf a % 4) * 16 + (a % 2 ^ 40) * 2 ^ 24

/-- SV_INFO of a TAGMISS at a socket that rejects the word (07 R339 reason 1). The second operand tag reads 0x3F. -/
def tagInfo (sock t : Nat) : Nat := sock + t * 2 ^ 12 + 0x3F * 2 ^ 18 + 1 * 2 ^ 24

def tagmiss {α : Type} (sock : Nat) (w : TWord) (s : State) : Out α := .exc cTAGMISS (tagInfo sock w.t) s

/-- SV_INFO of PRIV and BADSOCK (07 R339). -/
def sockInfo (reason sock : Nat) : Nat := sock % 4096 + reason * 2 ^ 12

def badsock {α : Type} (reason sock : Nat) (s : State) : Out α := .exc cBADSOCK (sockInfo reason sock) s
def priv {α : Type} (reason sock : Nat) (s : State) : Out α := .exc cPRIV (sockInfo reason sock) s

/-! ### Epoch views (10 R533 to R541) -/

def State.epochOpen (s : State) (e : Nat) : Bool := (s.shep.epochs.find? e).isSome

def State.parentOf (s : State) (e : Nat) : Nat := match s.shep.epochs.find? e with
  | some x => x.parent
  | none => 0

/-- The chain of an epoch, itself first, without epoch 0 (R533). -/
def State.chain (s : State) : Nat → Nat → List Nat
  | 0, _ => []
  | n + 1, e => if e = 0 then [] else e :: State.chain s n (s.parentOf e)

/-- Epoch d is e or descends from e. -/
def State.within (s : State) (d e : Nat) : Bool := e == 0 || (s.chain 16 d).contains e

def State.logEntry (s : State) (e a : Nat) : Option LogEntry := s.shep.log.find? fun x => x.epoch == e && x.addr == a

/-- The entry for an address among the epochs of a chain, the youngest epoch first (R539; log entry 18). -/
def State.chainEntry (s : State) (a : Nat) : List Nat → Option LogEntry
  | [] => none
  | e :: es => match s.logEntry e a with
    | some x => some x
    | none => State.chainEntry s a es

/-- The word in memory, with the confirmed entries that are not yet written back (R554). -/
def State.memWord (s : State) (a : Nat) : TWord :=
  match (s.shep.writeback.filter fun x => x.addr == a).getLast? with
  | some x => x.new
  | none => s.heapRead a

/-- A word in an ochre granule of e, or in Painter port e, is acted on directly (R536; 13 R672). -/
def State.ownGran (s : State) (e a : Nat) : Bool :=
  decide (e ≠ 0) && ((s.gran (granOf a)).epoch == e || (s.heap.built && granOf a == s.firstGran + e))

/-- The heap word address held in an _L and _H register pair. -/
def State.heapReg (s : State) (lo hi : Fld) : Nat := s.fld lo + 2 ^ 32 * s.fld hi

/-- The word at a lies in the body of the vector at address v; 0 stands for no vector. -/
def State.inVec (s : State) (v a : Nat) : Bool :=
  decide (v ≠ 0) && decide (v < a) && decide (a ≤ v + hdrLen (s.heapRead v))

/-- A store here by an ochre sprig stalls: the inbox of the endpoint and the kernel port (R543, R545; 12 R634;
19 R972). -/
def State.sealed (s : State) (a : Nat) : Bool :=
  s.inVec (s.heapReg F.EVR_INBOX_L_ADDR_L F.EVR_INBOX_H_ADDR_H) a
    || s.inVec (s.heapReg F.ALM_KPORT_L_ADDR F.ALM_KPORT_H_ADDR) a

/-- A store into a slot of the kernel port, once performed, raises IRQ19 with reason 2 (19 R942, R970). -/
def State.kernelPort (s : State) (a : Nat) : State :=
  let v := s.heapReg F.ALM_KPORT_L_ADDR F.ALM_KPORT_H_ADDR
  if v ≠ 0 ∧ v + 3 ≤ a ∧ a ≤ v + 130 then s.irq 19 2 else s

/-- The word at a that is visible to epoch e (R536, R539). -/
def State.visible (s : State) (e a : Nat) : TWord :=
  if e = 0 || s.ownGran e a then s.memWord a
  else match s.chainEntry a (s.chain 16 e) with
    | some x => x.new
    | none => s.memWord a

/-! ### Store buffer (04 R181 to R187) -/

/-- The newest store of the cell to a heap word that is not yet performed. -/
def Cell.buffered (x : Cell) (a : Nat) : Option StoreEntry :=
  x.sbuf.reverse.find? fun e => !e.code && e.addr == a

/-- The lowest free slot of the store buffer. -/
def Cell.freeSlot (x : Cell) : Nat :=
  ((List.range 16).find? fun n => !(x.sbuf.any fun e => e.slot == n)).getD 0

def Cell.sbufFull (x : Cell) : Bool := decide (x.sbuf.length ≥ 16)

/-- A store enters the store buffer. -/
def State.pushStore (s : State) (c : Nat) (code : Bool) (a : Nat) (w : TWord) : State :=
  s.modCell c fun x => { x with sbuf := x.sbuf ++ [⟨x.freeSlot, code, a, w⟩] }

/-- Code address A in DRAM (04 R201). -/
def State.codeAt (s : State) (a : Nat) : Nat := s.fld F.FRY_CODE_BASE_BASE * 16384 + a

def State.codeWindow (s : State) (a : Nat) : Bool := decide (a < s.fld F.FRY_CODE_PAGES_PAGES * 16384)

/-- A confirmed entry of the same address is written back before an ivory store of it (10 R554). -/
def State.dropWriteback (s : State) (a : Nat) : State :=
  { s with shep := { s.shep with writeback := s.shep.writeback.filter fun x => x.addr ≠ a } }

/-- What performing a buffered store finds. -/
inductive Perform where
  | done (s : State)
  | absent (s : State)
  | fail (error : Nat)

/-- A store of a heap word reaches its Larder slice (R182; 09 R477, R482; 19 R952). -/
def performHeap (grove a : Nat) (w : TWord) (s : State) : Perform :=
  if s.heap.poison.contains (pageOf a) then .fail 1
  else if s.resident (pageOf a) then
    let s := ((s.dropWriteback a).heapPut a w).kernelPort a
    .done { s with heap := { s.heap with badWords := s.heap.badWords.filter fun b => b ≠ a } }
  else if s.unbacked (pageOf a) then .fail 2
  else .absent (s.requestPage (pageOf a) grove)

/-- A buffered store is performed when no earlier store to its word is still buffered. -/
def performEntry (c : Nat) (e : StoreEntry) (s : State) : Perform :=
  if e.code then .done (s.dramPut (s.codeAt e.addr) 4 (e.word.p % 2 ^ 32))
  else performHeap (groveOf c) e.addr e.word s

def State.dropStore (s : State) (c : Nat) (e : StoreEntry) : State :=
  s.modCell c fun x => { x with sbuf := x.sbuf.erase e }

/-- Perform the oldest store of a cell when its page is resident. -/
def State.performOldest (s : State) (c : Nat) : Perform :=
  match (s.cell c).sbuf with
  | [] => .done s
  | e :: _ => match performEntry c e s with
    | .done t => .done (t.dropStore c e)
    | r => r

/-- A store whose target fails makes LATEBUS pending for its slot (07 R352). -/
def State.lateBus (s : State) (c : Nat) (e : StoreEntry) (error : Nat) : State :=
  let info := e.slot + error * 16 + b2n e.code * 256 + (e.addr % 2 ^ 40) * 2 ^ 24
  (s.dropStore c e).modCell c fun x =>
    if (x.latebus.find? e.slot).isSome then x
    else { x with latebus := AMap.insert x.latebus e.slot (BitVec.ofNat 64 info) }

/-- Make room in a full store buffer for a store of a routine (08 R406). -/
def State.makeRoom (s : State) (c : Nat) : Out Unit :=
  if (s.cell c).sbufFull then
    match s.performOldest c with
    | .done s => .ok () s
    | .absent s => .wait s
    | .fail err => match (s.cell c).sbuf with
      | e :: _ => .ok () (s.lateBus c e err)
      | [] => .ok () s
  else .ok () s

/-! ### Loads (09 R435, R456 to R460, R477, R482; 10 R539) -/

/-- The page of a word a cell reads: resident, or waited for (R460), or BINX (R482). -/
def needPage (c a : Nat) (s : State) : Out Unit :=
  if s.heap.poison.contains (pageOf a) then .exc cBINX (binxInfo 2 a) s
  else if s.resident (pageOf a) then .ok () (s.touch (pageOf a) false)
  else if s.unbacked (pageOf a) then .exc cBINX (binxInfo 3 a) s
  else .wait ((s.requestPage (pageOf a) (groveOf c)).modCell c fun x =>
    if x.pageWait.any (fun w => w.1 == a) then x else { x with pageWait := some (a, s.now) })

/-- The read barrier on a word loaded from the field at a (R456, R458, R459). -/
def readBarrier (sock a : Nat) (w : TWord) (s : State) : Out TWord :=
  if w.t = tFWD then
    match s.resolveFwd (addrOf w) with
    | .ok r t => .ok r (if t.heapRead a = w then t.heapPut a r else t)
    | .moving => .wait s
    | .bad => heapf 6 sock a s
  else if isPtrTag w.t ∧ (s.heap.phase = .roots ∨ s.heap.phase = .mark) ∧ s.condemned (pageOf (addrOf w)) then
    .ok w (s.excuse (addrOf w))
  else .ok w s

/-- A load by cell c in epoch e of the heap word at a. -/
def loadWord (c e sock a : Nat) (s : State) : Out TWord :=
  if s.region (pageOf a) = .unmapped then heapf 5 sock a s
  else match (s.cell c).buffered a with
  | some x => .ok x.word.plain s
  | none =>
    let logged := if e = 0 || s.ownGran e a then none else s.chainEntry a (s.chain 16 e)
    match logged with
    | some x => (readBarrier sock a x.new s).andThen fun w s => .ok w.plain s
    | none => (needPage c a s).andThen fun _ s =>
      if s.heap.badWords.contains a then .exc cECCU (4 + (a % 2 ^ 40) * 2 ^ 24) (s.raise aEccLarder a)
      else (readBarrier sock a (s.memWord a) s).andThen fun w s => .ok w.plain s

/-! ### Stores (09 R435, R453 to R455; 10 R537 to R542) -/

/-- Log entries of an epoch. -/
def State.logCount (s : State) (e : Nat) : Nat := (s.shep.log.filter fun x => x.epoch == e).length

/-- A logged store of epoch e (R537, R542). -/
def logStore (e a : Nat) (w : TWord) (s : State) : Out Unit :=
  match s.logEntry e a with
  | some _ =>
    let log := s.shep.log.map fun x => if x.epoch = e ∧ x.addr = a then { x with new := w } else x
    .ok () { s with shep := { s.shep with log := log } }
  | none =>
    if s.logCount e ≥ s.fld F.SHP_ELOG_MAX || s.shep.log.length ≥ 8192 then .stall s
    else
      let s := { s with shep := { s.shep with log := s.shep.log ++ [(⟨e, a, s.visible e a, w⟩ : LogEntry)] } }
      .ok () (s.report 7 e [(2, 1)])

/-- The check of a store's target (R435). -/
def storeCheck (sock a : Nat) (s : State) : Out Unit :=
  match s.region (pageOf a) with
  | .unmapped => heapf 5 sock a s
  | .image => heapf 4 sock a s
  | .collected => .ok () s

/-- A store by cell c in epoch e of a word at a: logged, or through the write barrier into the store buffer; a full
buffer makes it wait (04 R187). -/
def storeWord (c e sock a : Nat) (w : TWord) (s : State) : Out Unit :=
  (storeCheck sock a s).andThen fun _ s =>
    if e ≠ 0 && s.sealed a then .stall s
    else if e ≠ 0 && !s.ownGran e a then logStore e a w.plain s
    else if (s.cell c).sbufFull then .wait s
    else
      let old := match (s.cell c).buffered a with
        | some x => x.word
        | none => s.memWord a
      .ok () ((s.writeBarrier (groveOf c) old w).pushStore c false a w.plain)

/-- A store of a routine, which makes its own room in the store buffer. -/
def storeRoutine (c e sock a : Nat) (w : TWord) (s : State) : Out Unit :=
  (s.makeRoom c).andThen fun _ s => storeWord c e sock a w s

/-- Compare-and-swap (05 R244; 09 R455; 10 R540): the word at a against the expected word. It waits for the cell's own
earlier stores of that word. -/
def casWord (c e sock a : Nat) (expect w : TWord) (s : State) : Out Bool :=
  (storeCheck sock a s).andThen fun _ s =>
    if e ≠ 0 && s.sealed a then .stall s
    else if ((s.cell c).buffered a).isSome then .wait s
    else (loadWord c e sock a s).andThen fun old s =>
      if old.eqv expect then
        if e ≠ 0 && !s.ownGran e a then (logStore e a w.plain s).andThen fun _ s => .ok true s
        else (needPage c a s).andThen fun _ s =>
          .ok true ((((s.writeBarrier (groveOf c) old w).dropWriteback a).heapPut a w.plain).kernelPort a)
      else .ok false s

/-! ### Objects (05 R236 to R242; 09 R439 to R443) -/

/-- The object a pointer word names, its header checked: address and LEN. `store` adds the image-region check. The
checks come in the order of reasons 1, 5, 4, 6 (log entry 19). -/
def objAt (c sock : Nat) (w : TWord) (store : Bool) (s : State) : Out (Nat × Nat) :=
  let a := addrOf w
  if !w.canonical then heapf 1 sock a s
  else if s.region (pageOf a) = .unmapped then heapf 5 sock a s
  else if store && decide (s.region (pageOf a) = .image) then heapf 4 sock a s
  else (needPage c a s).andThen fun _ s =>
    let h := s.heapRead a
    let a' := if h.t = tFWD then addrOf h else a
    let h' := if h.t = tFWD then s.heapRead a' else h
    if h'.t = tHDR ∧ hdrKind h' + 0x08 = w.t then .ok (a', hdrLen h') s else heapf 6 sock a s

/-- The index of a word that must lie in 0 to n - 1 (R237). -/
def boundsIndex (w : TWord) (n : Nat) : Option Nat :=
  if 0 ≤ w.i ∧ w.i < (n : Int) then some w.i.toNat else none

/-! ### Allocation (08 R420; 09 R441, R447 to R451) -/

/-- Allocate a small object from the cell's slab, or request one. -/
def allocSmall (c e sock kind : Nat) (words : List TWord) (s : State) : Out Nat :=
  let n := 1 + words.length
  let x := s.cell c
  let fits := match x.slab with
    | some b => decide (b.epoch = e) && decide (b.ptr + n ≤ b.lim)
    | none => false
  match fits, x.slab with
  | true, some b =>
    let s := s.heapFill b.ptr (mkHdr black words.length kind b.parity false :: words)
    let s := s.modCell c fun k => { k with slab := some { b with ptr := b.ptr + n } }
    .ok b.ptr (s.reportObjects 1 b.epoch n)
  | _, _ =>
    if x.answer = some .exhausted then heapfAlloc 3 sock (s.modCell c fun k => { k with answer := none })
    else
      let s := s.retireSlab c
      if (s.spinReqOf (.cell c)).isSome then .wait s
      else .wait ((s.spinWait ⟨.cell c, kind, 0, nil, nil, e, s.heap.cycle.toNat⟩).gcTrigger)

/-- Allocate a large object through the Spinner (R450). -/
def allocLarge (c e sock kind len : Nat) (first fill : TWord) (s : State) : Out Nat :=
  let clear := s.modCell c fun k => { k with answer := none }
  match (s.cell c).answer with
  | some .exhausted => heapfAlloc 3 sock clear
  | some (.large a n) =>
    if n = len then .ok a clear else .wait clear
  | none =>
    if (s.spinReqOf (.cell c)).isSome then .wait s
    else .wait ((s.spinWait ⟨.cell c, kind, len, first, fill, e, s.heap.cycle.toNat⟩).gcTrigger)

/-- Allocate an object of LEN len whose first field is `first` and whose other fields are `fill`. -/
def allocObj (c e sock kind len : Nat) (first fill : TWord) (s : State) : Out TWord :=
  let r := if 1 + len ≤ 256 then
      allocSmall c e sock kind (if len = 0 then [] else first.plain :: List.replicate (len - 1) fill.plain) s
    else allocLarge c e sock kind len first.plain fill.plain s
  r.andThen fun a s => .ok (ptrTo kind a) s

end Sys2Proof.Machine
end

