-- ==== Sys2Proof/Machine/ShepOps.lean ====
section
/-!
DEFINITION. Sprigs: context records, switch-out and switch-in, readiness, ends, rank (10 R496 to R530), and the
floating state of a cell (06 R312 to R317).
-/
namespace Sys2Proof.Machine

/-! ### Context records (R520 to R523) -/

/-- The 63 operand and result sockets of the level-0 bank of 05 R222 to R259, ascending (R521). -/
def ctxSocks : List Nat :=
  [0x100, 0x102, 0x104, 0x106, 0x108, 0x10E, 0x110, 0x112, 0x114, 0x116, 0x118, 0x11A, 0x11C, 0x11E, 0x120, 0x122] ++
  [0x126, 0x128, 0x12A, 0x1F0] ++
  [0x200, 0x202, 0x204, 0x206, 0x20A, 0x20B, 0x20E, 0x210, 0x21C, 0x21E, 0x220, 0x222, 0x260] ++
  [0x284, 0x290, 0x292, 0x294, 0x295, 0x297, 0x2A0, 0x2A2, 0x2A8, 0x2F0] ++
  [0x300, 0x302, 0x303, 0x305, 0x306, 0x307, 0x310, 0x318, 0x31A, 0x320, 0x370] ++
  [0x380, 0x386, 0x3B0] ++ [0x3C8, 0x3C9, 0x3F0] ++ [0x401, 0x403, 0x43F]

/-- An element of a context record, stored through the write barrier, never logged (R520). -/
def State.ctxPut (s : State) (a i : Nat) (w : TWord) : State :=
  (s.writeBarrier 0 (s.memWord (a + 1 + i)) w).heapPut (a + 1 + i) w.plain

/-- An element of a context record, loaded through the read barrier. -/
def State.ctxGet (s : State) (a i : Nat) : TWord :=
  match readBarrier 0 (a + 1 + i) (s.memWord (a + 1 + i)) s with
  | .ok w _ => w.plain
  | _ => s.memWord (a + 1 + i)

def State.ctxPutAll (s : State) (a i : Nat) : List TWord → State
  | [] => s
  | w :: ws => State.ctxPutAll (s.ctxPut a i w) a (i + 1) ws

/-- The element of a socket of the level-0 bank. -/
def ctxSockElem (sock : Nat) : Nat := 160 + (ctxSocks.idxOf? sock).getD 0

def optWord (f : Nat → TWord) : Option Nat → TWord
  | some n => f n
  | none => unb 0

/-- The window map of R321, for the windows of one level only, or of all. -/
def windowMap (x : Cell) (only : Option Level) : Nat :=
  let code := fun i => match x.owner i with
    | some l => if only.isSome && only != some l then 7 else l.num
    | none => 7
  ((List.range 8).foldl (fun a i => a + code i * 2 ^ (3 * i)) 0) + x.lent.toNat * 2 ^ 24 + x.win * 2 ^ 32

/-- Element 223: P1 to P7, OV, DZ. -/
def predWord (x : Cell) : TWord := rawW ((x.preds.l0.toNat / 2 * 2) + x.ustat.l0.toNat * 2 ^ 8)

/-- Element 243 (R521). -/
def slotWord (x : Slot) : TWord :=
  rawW (x.pri + x.cls * 2 ^ 4 + x.epoch * 2 ^ 8 + x.grove * 2 ^ 16 + x.spawner.p % 2 ^ 24 * 2 ^ 24)

/-- Elements 154 to 159 and 242, 243: what the Shepherd holds of a sprig. -/
def slotElems (s : State) (a n resume : Nat) : State :=
  let x := s.slot n
  let s := s.ctxPutAll a 154 [codeW resume, evtW x.pend.toNat, optWord evtW (x.waitMask.map BitVec.toNat),
    optWord stampW x.waitStamp, optWord stampW x.deadline, x.exit]
  (s.ctxPut a 242 (s.handle n)).ctxPut a 243 (slotWord x)

/-- Store group g of the registers of a cell (R305, R522); the link word goes with the first group of its window. -/
def saveGroup (c a g : Nat) (s : State) : State :=
  let x := s.cell c
  let s := s.ctxPutAll a (4 * g) ((List.range 4).map fun k => x.reg (4 * g + k))
  if g ≥ 4 ∧ g % 4 = 0 then s.ctxPut a (144 + (g - 4) / 4) (Sys2Proof.mk tRAW (x.link ((g - 4) / 4))) else s

/-- A group among the globals and the windows that level 0 owns. -/
def ownGroup (x : Cell) (g : Nat) : Bool := g < 4 || x.owner ((g - 4) / 4) == some .l0

/-- Switch a sprig out of its cell, to resume at a code address (R522). -/
def State.switchOut (s : State) (c n resume : Nat) : State :=
  match (s.slot n).ctx with
  | none => s
  | some a =>
    let x := s.cell c
    let s := (List.range 36).foldl (fun s g =>
      if x.dirty.getLsbD g && ownGroup x g then saveGroup c a g s else s) s
    let s := s.ctxPut a 152 (rawW (windowMap x (some .l0)))
    let s := s.ctxPut a 153 (Sys2Proof.mk tRAW (x.st.l0.setWidth 64))
    let s := slotElems s a n resume
    let s := s.ctxPutAll a 160 (ctxSocks.map fun k => x.sock .l0 k)
    let s := s.ctxPut a 223 (predWord x)
    let s := s.modCell c fun x =>
      let x := { x with dirty := 0#36 }
      let x := (List.range 8).foldl (fun x i => if x.owner i = some .l0 then x.freeWindow i else x) x
      { x with sprig := none, lastSprig := s.handle n, hold := none, defer := none, early := [], mlPend := none, micro := none,
               obtain := false }
    s.modSlot n fun y => { y with cell := none }

/-- Load one group of a record into a cell. -/
def loadGroup (c a g : Nat) (s : State) : State :=
  let ws := (List.range 4).map fun k => s.ctxGet a (4 * g + k)
  let s := s.modCell c fun x =>
    (List.range 4).foldl (fun x k => x.setReg (4 * g + k) (ws.getD k (unb 0))) x
  if g ≥ 4 ∧ g % 4 = 0 then
    let l := s.ctxGet a (144 + (g - 4) / 4)
    s.modCell c fun x => x.setLink ((g - 4) / 4) (if l.t = tRAW then l.payload else 0#64)
  else s

/-- The owners and lent flags of a window map word; 7 is FREE (R321). -/
def setWindowMap (m : Nat) (x : Cell) : Cell :=
  (List.range 8).foldl (fun x i =>
    let o := bits m (3 * i + 2) (3 * i)
    x.setOwner i (if o = 7 then none else some (levelOf o))) x

/-- ST.FPA of level 0 follows SY.FPOWN (06 R313). -/
def fpaFor (h : TWord) (x : Cell) : Cell := x.setSt .l0 10 10 (b2n (x.fpown == h))

/-- Switch a sprig in on a cell (R523). -/
def State.switchIn (s : State) (c n : Nat) : State :=
  match (s.slot n).ctx with
  | none => s
  | some a =>
    let same := (s.cell c).lastSprig == s.handle n
    let m := (s.ctxGet a 152).p
    let s := s.modCell c fun x => setWindowMap m x
    let s := if same then s
      else
        let x := s.cell c
        let s := (List.range 36).foldl (fun s g => if ownGroup x g then loadGroup c a g s else s) s
        let ks := (List.range 63).map fun i => (ctxSocks.getD i 0, s.ctxGet a (160 + i))
        let p := (s.ctxGet a 223).p
        s.modCell c fun x =>
          let x := ks.foldl (fun x k => x.setSock .l0 k.1 k.2) x
          { x with preds := { x.preds with l0 := BitVec.ofNat 8 (p % 256 / 2 * 2) },
                   ustat := { x.ustat with l0 := BitVec.ofNat 2 (p / 256) } }
    let st := (s.ctxGet a 153).p
    let pc := (s.ctxGet a 154).p
    let h := s.handle n
    let e := (s.slot n).epoch
    let s := s.modCell c fun x =>
      let x := { x with st := { x.st with l0 := BitVec.ofNat 32 (setBits st 15 12 e) }, dirty := 0#36, pc := pc,
                        sprig := some n, lastSprig := h, ops := [], defer := none, early := [], hold := none,
                        wait := none, pageWait := none, mlPend := none, micro := none, obtain := false }
      fpaFor h x
    let s := transfer 3 .place s
    s.modSlot n fun y =>
      { y with state := .running, cell := some c, staged := none, placedAt := s.now, slice := s.actFld F.SHP_SLICE_US }

/-- Write the record of a new sprig (R284, R315, R510, R521). -/
def State.freshContext (s : State) (a n st : Nat) (w0 w15 : TWord) (code : Nat) : State :=
  let s := s.ctxPutAll a 0 (List.replicate 255 (unb 0))
  let s := s.ctxPut a 16 w0.plain
  let s := s.ctxPut a 31 w15.plain
  let s := s.ctxPutAll a 144 (List.replicate 8 (rawW 0))
  let s := s.ctxPut a 152 (rawW (windowMap (Cell.reset.setOwner 0 (some .l0)) none))
  let s := s.ctxPut a 153 (rawW st)
  let s := slotElems s a n code
  let s := s.ctxPutAll a 160 (ctxSocks.map sockReset)
  let s := s.ctxPut a 223 (rawW 0)
  s.ctxPutAll a 224 (List.replicate 16 (mkN tFLO 0) ++ [rawW 0, rawW 0])

/-- Store the floating state of a cell in a sprig's block (06 R314, R317). -/
def State.storeFloat (s : State) (c n : Nat) : State :=
  match (s.slot n).ctx with
  | none => s
  | some a =>
    let x := s.cell c
    s.ctxPutAll a 224 ((List.range 16).map (fun k => Sys2Proof.mk tFLO (AMap.get 0#64 x.fregs k))
      ++ [x.sock .l0 0x261, x.sock .l0 0x262])

/-- Load a sprig's floating state into a cell (06 R314). -/
def State.loadFloat (s : State) (c n : Nat) : State :=
  match (s.slot n).ctx with
  | none => s
  | some a =>
    let fs := (List.range 16).map fun k => s.ctxGet a (224 + k)
    let ctl := s.ctxGet a 240
    let flags := s.ctxGet a 241
    s.modCell c fun x =>
      let x := (List.range 16).foldl (fun x k =>
        { x with fregs := AMap.put 0#64 x.fregs k (fs.getD k (unb 0)).payload }) x
      ((x.setSock .l0 0x261 (rawW (ctl.p % 16))).setSock .l0 0x262 (rawW (flags.p % 32)))

/-- A sprig whose handle SY.FPOWN of a cell holds and that is live (06 R314). -/
def State.fpOwner (s : State) (c : Nat) : Option Nat :=
  let h := (s.cell c).fpown
  if s.liveHandle h then some (sprgSlot h) else none

/-- FPFLUSH (06 R317): every other cell that holds the sprig's floating state stores it and gives it up. -/
def State.fpFlush (s : State) (c n : Nat) : State :=
  let h := s.handle n
  (s.cells.map (·.1)).foldl (fun s k =>
    if k ≠ c ∧ (s.cell k).fpown = h then
      let s := s.storeFloat k n
      s.modCell k fun x => if x.sprig.isSome then fpaFor h { x with fpown := unb 0 } else { x with fpown := unb 0 }
    else s) s

/-! ### Readiness and ends (R500 to R506) -/

/-! Sprig classes (R508; 05 R253). -/
abbrev clsSteady : Nat := 0
abbrev clsDeadline : Nat := 1
abbrev clsIdle : Nat := 2
abbrev clsSpec : Nat := 3

/-- The next number in the order in which sprigs become ready. -/
def State.readyOrder (s : State) : Nat × State :=
  (s.shep.order, { s with shep := { s.shep with order := s.shep.order + 1 } })

/-- Slots in a state. -/
def State.slotsIn (s : State) (st : SlotState) : List Nat :=
  (s.shep.slots.filter fun e => e.2.state = st).map (·.1)

def State.groveAlive (s : State) (g : Nat) : Bool := (List.range 16).any fun k => (s.cell (16 * g + k)).placed

/-- READY sprigs homed in a grove. -/
def State.homedReady (s : State) (g : Nat) : List Nat := (s.slotsIn .ready).filter fun n => (s.slot n).grove = g

/-- The grove that READY sprigs homed in g belong to: with no cell of g in placement, the one of those that have such a
cell with the fewest ready non-IDLE sprigs, the lowest on a tie (19 R957). -/
def State.refuge (s : State) (g : Nat) : Nat :=
  if s.groveAlive g then g
  else
    let load := fun (v : Nat) => ((s.homedReady v).filter fun n => (s.slot n).cls ≠ clsIdle).length
    (((List.range 16).filter s.groveAlive).foldl (fun b v => match b with
      | none => some v
      | some u => if load v < load u then some v else b) none).getD g

/-- A sprig becomes READY in its home grove, behind those of equal rank (R509, R516; 19 R957). -/
def State.makeReady (s : State) (n : Nat) : State :=
  let (o, s) := s.readyOrder
  let home := s.refuge (s.slot n).grove
  s.modSlot n fun x => { x with state := .ready, order := o, cell := none, staged := none, grove := home }

/-- An exit value that the XG2560 produces for a cancel or a cell reset (R504). -/
def isCancelExit (w : TWord) : Bool := w == unb 2 || w == unb 3

/-- Count the ending of an ivory sprig in the sprig ledger (11 R574). -/
def State.reportEnd (s : State) (cancelled : Bool) : State := s.reportMove 4 0 3 (if cancelled then 2 else 1) 1

/-- A request to the Shepherd (R1025). -/
def State.epochRequest (s : State) (r : EpochReq) : State :=
  { s with shep := { s.shep with reqs := s.shep.reqs ++ [r] } }

/-- Squash every open epoch that a sprig opened (R534). -/
def State.squashOf (s : State) (n gen : Nat) : State :=
  s.shep.epochs.foldl (fun s e =>
    if e.2.opener = n ∧ e.2.openerGen = gen ∧ !(s.shep.reqs.any fun r => r.squash && r.epoch == e.1) then
      s.epochRequest ⟨true, e.1, none⟩
    else s) s

/-- A sprig reaches ENDED (R501, R505, R506, R534). -/
def State.endSprig (s : State) (n : Nat) (exit : TWord) : State :=
  let x := s.slot n
  let wasStalled := x.state = .stalled
  let o := s.shep.endOrder
  let s := { s with shep := { s.shep with endOrder := o + 1 } }
  let s := match x.ctx with
    | some a => s.ctxPut a 159 exit.plain
    | none => s
  let s := s.modSlot n fun x =>
    { x with state := .ended, exit := exit.plain, order := o, cell := none, staged := none, waitMask := none,
             waitStamp := none, dropReq := false, heldFor := none, endHeld := decide (x.epoch ≠ 0) }
  let s := if wasStalled then s.report 7 x.epoch [(4, -1)] else s
  let s := if x.epoch = 0 then (s.reportEnd (isCancelExit exit)).sendSprig x.spawner (BitVec.ofNat 64 (2 ^ 54)) else s
  s.squashOf n x.gen

/-- A slot becomes FREE (R498, R501): its generation steps; its context record stays (R520). -/
def State.freeSlot (s : State) (n : Nat) : State :=
  s.modSlot n fun x => { Slot.reset with gen := (x.gen + 1) % 4096, ctx := x.ctx }

/-- Reclaim an ENDED slot (R502). An ochre one leaves a ghost until its epoch resolves. -/
def State.reclaim (s : State) (n : Nat) : State :=
  let x := s.slot n
  let s := if x.epoch ≠ 0 then
      { (s.report 7 x.epoch [(0, -1)]) with
        shep := { s.shep with ghosts := s.shep.ghosts ++ [⟨x.epoch, isCancelExit x.exit, x.spawner⟩] } }
    else s
  s.freeSlot n

/-- The lowest slot that is FREE (R502). -/
def State.freeSlotNo (s : State) : Option Nat :=
  (List.range 4096).find? fun n => (s.slot n).state = .free

/-- The ENDED slot that ended earliest (R502). -/
def State.oldestEnded (s : State) : Option Nat :=
  (s.slotsIn .ended).foldl (fun b n => match b with
    | none => some n
    | some m => if (s.slot n).order < (s.slot m).order then some n else b) none

/-! ### Rank (R507 to R509) -/

/-- The part of the rank without the order of readiness: IDLE last, then priority, then class. -/
def rankClass (x : Slot) : List Nat :=
  [b2n (x.cls = clsIdle), 7 - x.pri, if x.cls = clsDeadline then 0 else if x.cls = clsSteady then 1 else 2]

/-- The rank of a sprig as numbers compared in turn, the smallest first (R509). -/
def rankKey (n : Nat) (x : Slot) : List Nat :=
  rankClass x ++ (if x.cls = clsDeadline then [x.deadline.getD 0, n] else [x.order, n])

def lexLt : List Nat → List Nat → Bool
  | [], [] => false
  | [], _ :: _ => true
  | _ :: _, [] => false
  | a :: as, b :: bs => if a < b then true else if b < a then false else lexLt as bs

/-- The first of a list of slots by rank. -/
def State.topRanked (s : State) (ns : List Nat) : Option Nat :=
  ns.foldl (fun b n => match b with
    | none => some n
    | some m => if lexLt (rankKey n (s.slot n)) (rankKey m (s.slot m)) then some n else b) none

/-- The last of a list of slots by rank. -/
def State.lowRanked (s : State) (ns : List Nat) : Option Nat :=
  ns.foldl (fun b n => match b with
    | none => some n
    | some m => if lexLt (rankKey m (s.slot m)) (rankKey n (s.slot n)) then some n else b) none

/-- The shed level (17 R838). -/
def State.shed (s : State) : Nat := s.fld F.PWR_STATUS_SHED

/-- The shed level lets the Shepherd place a sprig (17 R838). -/
def State.shedAllows (s : State) (n : Nat) : Bool :=
  let x := s.slot n
  (s.shed == 0 || decide (x.cls ≠ clsIdle)) && (decide (s.shed < 2) || decide (s.fld F.PWR_SLATE_MINPRI ≤ x.pri))
    && (decide (s.shed < 3) || x.cls == clsDeadline)

/-- The shed level lets the Shepherd place sprigs on a cell (17 R838). -/
def State.shedCell (s : State) (c : Nat) : Bool := decide (s.shed < 2) || decide (c % 16 < s.fld F.PWR_SLATE_CELLS)

/-- Ready sprigs of a grove that the shed level lets run. -/
def State.readyIn (s : State) (g : Nat) : List Nat :=
  (s.slotsIn .ready).filter fun n => (s.slot n).grove = g ∧ s.shedAllows n

def State.readyBusy (s : State) (g : Nat) : List Nat := (s.readyIn g).filter fun n => (s.slot n).cls ≠ clsIdle

/-- Cells of a grove that are free for a sprig (R512): in placement, at level 0, with none on them, and not excluded by
the shed level. -/
def State.freeCells (s : State) (g : Nat) : List Nat :=
  ((List.range 16).map (· + 16 * g)).filter fun c =>
    let x := s.cell c
    x.placed && x.sprig.isNone && decide (x.level = .l0) && s.shedCell c

/-- The cell that a placement prefers (R512). -/
def State.preferCell (s : State) (n : Nat) (cs : List Nat) : Option Nat :=
  match cs.find? fun c => (s.cell c).fpown == s.handle n with
  | some c => some c
  | none => match cs.find? fun c => match (s.cell c).slab with
      | some b => b.epoch == (s.slot n).epoch
      | none => false with
    | some c => some c
    | none => cs.head?

/-- Place a sprig on a cell (R512, R523; 06 R317; 09 R449). -/
def State.placeOn (s : State) (c n : Nat) : State :=
  let s := s.fpFlush c n
  let s := match (s.cell c).slab with
    | some b => if b.epoch ≠ (s.slot n).epoch then s.retireSlab c else s
    | none => s
  s.switchIn c n

end Sys2Proof.Machine
end

