-- ==== Sys2Proof/Machine/Levels.lean ====
section
/-!
DEFINITION. Windows across calls and levels (06), taking an exception and returning from one, cell reset (07).
-/
namespace Sys2Proof.Machine

/-! ### Micro-routines (08 R387, R389, R419) -/

/-- Microcode is loaded at an entry (log entry 119). The Warden's cells run from their own store (R387). -/
def State.loaded (s : State) (c entry : Nat) : Bool := decide (c < wardenCell) && AMap.get 0#120 s.cstore entry != 0#120

/-- A routine that runs as the catalogue says: a microword at its entry that cannot be corrected ends it with MCABORT,
reason 6 (R389, R417, R418). -/
def nativeRoutine {α : Type} (c entry : Nat) (s : State) (f : State → Out α) : Out α :=
  if c < wardenCell ∧ s.cstoreBad.contains (groveOf c, entry) then
    .exc cMCABORT (entry + 6 * 4096) (s.raise aMcAbort c)
  else f s

/-- Start of a micro-routine: from its microcode when that is loaded, else as the catalogue says. -/
def routine {α : Type} (c : Nat) (r : MicroStart) (s : State) (f : State → Out α) : Out α :=
  if s.loaded c r.entry then .start r s else nativeRoutine c r.entry s f

/-- The start of SPILL or FILL for a window, which has no operands. -/
def windowRoutine (entry win : Nat) (give : Bool) : MicroStart := ⟨entry, unb 0, unb 0, win % 8, give⟩

/-! ### Spill and fill (06 R285 to R293) -/

/-- The check of a spill or fill of window i with level l's spill area (R291): its address and top index. -/
def spillCheck (c e : Nat) (l : Level) (i : Nat) (fill : Bool) (s : State) : Out (Nat × Nat) :=
  let w := (s.cell c).sock l 0x320
  let bad := fun (r : Nat) (s : State) =>
    (Out.exc (if fill then cFILLF else cSPILLF) (r + i % 8 * 16 + l.num * 256 + b2n fill * 4096) s : Out (Nat × Nat))
  let a := addrOf w
  if w.t ≠ tVEC then bad 1 s
  else if !w.canonical then bad 2 s
  else if s.region (pageOf a) ≠ .collected then bad 5 s
  else (needPage c a s).andThen fun _ s =>
    let h := s.heapRead a
    let len := hdrLen h
    if h.t ≠ tHDR ∨ hdrKind h ≠ kVec then bad 5 s
    else if len = 0 then bad 4 s
    else (loadWord c e 0x320 (a + 1) s).andThen fun t s =>
      let top := if t.t = tFIX ∧ 0 ≤ t.i then t.i.toNat else 0
      if fill then
        if len < top then bad 4 s else if top < 18 then bad 3 s else .ok (a, top) s
      else
        if len < top + 17 then bad 4 s else if top < 1 then bad 3 s else .ok (a, top) s

/-- Perform every buffered store of a cell, oldest first; n bounds their number. -/
def drainStores (c : Nat) : Nat → State → Out Unit
  | 0, s => .ok () s
  | n + 1, s => match (s.cell c).sbuf with
    | [] => .ok () s
    | e :: _ => match s.performOldest c with
      | .done s => drainStores c n s
      | .absent s => .wait s
      | .fail err => drainStores c n (s.lateBus c e err)

/-- Store words at consecutive addresses through the write barrier. -/
def storeMany (c e sock : Nat) : Nat → List TWord → State → Out Unit
  | _, [], s => .ok () s
  | a, w :: ws, s => (storeRoutine c e sock a w s).andThen fun _ s => storeMany c e sock (a + 1) ws s

/-- Load n words from consecutive addresses through the read barrier. -/
def loadMany (c e sock : Nat) : Nat → Nat → State → Out (List TWord)
  | 0, _, s => .ok [] s
  | n + 1, a, s => (loadWord c e sock a s).andThen fun w s =>
    (loadMany c e sock n (a + 1) s).andThen fun ws s => .ok (w :: ws) s

/-- A routine that cannot finish has no effect of its own but the request of the page it waits for: the move issues again
from the state before (08 R410; 09 R477). -/
def Out.orBack {α : Type} (o : Out α) (c : Nat) (s : State) : Out α :=
  match o with
  | .wait t => match (t.cell c).pageWait with
    | some (a, n) => .wait ((s.requestPage (pageOf a) (groveOf c)).modCell c fun x => { x with pageWait := some (a, n) })
    | none => .wait s
  | .stall _ => .stall s
  | o => o

/-- Push a record of 17 words to level l's spill area (R286). -/
def spillRecord (c e : Nat) (l : Level) (i : Nat) (words : List TWord) (s : State) : Out Unit :=
  (spillCheck c e l i false s).andThen fun at' s =>
    (needPage c (at'.1 + at'.2 + 17) s).andThen fun _ s =>
    (drainStores c 16 s).andThen fun _ s =>
      ((storeMany c e 0x320 (at'.1 + 1 + at'.2) words s).andThen fun _ t =>
        storeRoutine c e 0x320 (at'.1 + 1) (fix ((at'.2 + 17 : Nat) : Int)) t).orBack c s

/-- The epoch in which the sprig of a level runs (R288). -/
def Cell.epochOf (x : Cell) (l : Level) : Nat := bits (x.st.get l).toNat 15 12

def Cell.windowWords (x : Cell) (i : Nat) : List TWord :=
  (List.range 16).map (fun j => x.reg (winKey i j)) ++ [Sys2Proof.mk tRAW (x.link i)]

/-- Spill window i to its owner's area; it then has no owner (R286). -/
def spillWindow (c i : Nat) (s : State) : Out Unit :=
  let x := s.cell c
  match x.owner i with
  | none => .ok () s
  | some l => (spillRecord c (x.epochOf l) l (i % 8) (x.windowWords i) s).andThen fun _ s =>
    .ok () (s.modCell c fun x => x.freeWindow i)

/-- Fill window i for level l (R287). -/
def fillWindow (c i : Nat) (l : Level) (s : State) : Out Unit :=
  routine c (windowRoutine 0x00A i false) s fun s =>
  let e := (s.cell c).epochOf l
  (spillCheck c e l (i % 8) true s).andThen fun at' s =>
    (loadMany c e 0x320 17 (at'.1 + 1 + at'.2 - 17) s).andThen fun ws s =>
      (storeRoutine c e 0x320 (at'.1 + 1) (fix ((at'.2 - 17 : Nat) : Int)) s).andThen fun _ s =>
        let lw := ws.getD 16 (unb 0)
        .ok () (s.modCell c fun x =>
          let x := (List.range 16).foldl (fun x j => x.setReg (winKey i j) (ws.getD j (unb 0))) x
          (x.setOwner i (some l)).setLink i (if lw.t = tRAW then lw.payload else 0#64))

/-! ### The active levels -/

/-- The levels that are active on a cell, the current one first. -/
def activeLevels (x : Cell) : Nat → Level → List Level
  | 0, _ => []
  | n + 1, l => match l with
    | .l0 => [.l0]
    | l => l :: activeLevels x n (x.save.get l).fromLevel

def Cell.active (x : Cell) : List Level := activeLevels x 5 x.level

def Cell.svWin (x : Cell) (l : Level) : Nat := (x.save.get l).win.p

/-- The level to which a lent window is lent: the active level whose entry window it is (R294). -/
def Cell.borrower (x : Cell) (i : Nat) : Option Level :=
  x.active.find? fun l => decide (l ≠ .l0) && decide (bits (x.svWin l) 6 4 = i % 8) && decide (bits (x.svWin l) 8 8 = 1)

def Cell.setSvWin (x : Cell) (l : Level) (bit : Nat) (v : Bool) : Cell :=
  let sv := x.save.get l
  { x with save := x.save.set l { sv with win := rawW (setBits sv.win.p bit bit (b2n v)) } }

/-- A frame that was never written: 16 UNB words and a clear link word (R296). -/
def blankFrame : List TWord := List.replicate 16 (unb 0) ++ [rawW 0]

/-- Spill the owner's data from a window that is about to be taken for a call, written while lent (`claim`), or taken
for a return (R279, R296, R1021). -/
def vacate (c i : Nat) (forCall claim : Bool) (s : State) : Out Unit :=
  let x := s.cell c
  if x.owner i = none then .ok () s
  else routine c (windowRoutine 0x009 i (forCall || claim)) s fun s =>
  if x.isLent i then
    let back := s
    ((spillWindow c i s).andThen fun _ s =>
      match x.borrower i with
      | some m =>
        let s := s.modCell c fun x => (x.setLent i false).setSvWin m 9 true
        if forCall then spillRecord c (x.epochOf m) m (i % 8) blankFrame s else .ok () s
      | none => .ok () (s.modCell c fun x => x.setLent i false)).orBack c back
  else spillWindow c i s

/-- The first write to a register of the current window while it is lent (R296). -/
def claimWindow (c : Nat) (s : State) : Out Unit :=
  let x := s.cell c
  let i := x.win
  if x.isLent i then
    (vacate c i false true s).andThen fun _ s => .ok () (s.modCell c fun y => y.initWindow i x.level 0#64)
  else .ok () s

/-- Obtain window w for level l (R1021). -/
def obtainWindow (c w : Nat) (l : Level) (s : State) : Out Unit :=
  let x := s.cell c
  if x.owner w = some l then .ok () s
  else if x.isLent w && decide (l ≠ .l0) && decide (bits (x.svWin l) 6 4 = w % 8) then .ok () s
  else if x.owner w = none then fillWindow c w l s
  else (vacate c w false false s).andThen fun _ s => fillWindow c w l s

/-! ### Arithmetic operations in flight (04 R177, R178; 07 R350) -/

/-- SV_INFO of OVF and DIVZ (07 R339). -/
def opInfo (o : PendOp) : Nat := b2n o.fx + o.op * 8 + (o.readDst.getD 0xFFF) * 256 + o.trig % 2 ^ 32 * 2 ^ 32

/-- An operation completes without an exception: its result and its sticky flags (03 R139, R144; 05 R228). -/
def finishOp (o : PendOp) (x : Cell) : Cell :=
  let l := o.level
  let x := x.setSock l (if o.fx then 0x260 else 0x1F0) o.res
  let u := x.ustat.get l ||| BitVec.ofNat 2 (b2n o.setOv + 2 * b2n o.setDz)
  let x := { x with ustat := x.ustat.set l u }
  if o.fflags = 0 then x else x.setSock l 0x262 (rawW ((x.sock l 0x262).p ||| o.fflags))

/-- Complete the operations of a list, in order, up to one that raises an exception. -/
def drainList (c : Nat) : List PendOp → State → State × Option PendOp
  | [], s => (s, none)
  | o :: os, s =>
    let s := s.modCell c fun x => { x with ops := x.ops.erase o }
    if o.exc = 0 then drainList c os (s.modCell c (finishOp o)) else (s, some o)

/-- Every outstanding operation of the current level completes, in order, up to one that raises an exception. -/
def drainOps (c : Nat) (s : State) : State × Option PendOp :=
  let x := s.cell c
  drainList c (x.ops.filter fun o => o.level = x.level) s

/-! ### Cell reset (07 R357 to R359; 11 R588; 19 R927, R956, R957, R961) -/

/-- A grove with no cell in placement has its ready sprigs moved (19 R957). -/
def State.rehome (s : State) (g : Nat) : State :=
  let v := s.refuge g
  (s.homedReady g).foldl (fun s n => s.modSlot n fun x => { x with grove := v }) s

/-- The cell resets for a cause (R357). QUAR_LIMIT is raised when its condition begins to hold (19 R948, R961). -/
def cellReset (c cause : Nat) (s : State) : State :=
  if c ≥ wardenCell then s.raise aWardenFault cause
  else
    let x := s.cell c
    let own := match s.fpOwner c with
      | some m => if x.sprig = some m then none else some m
      | none => none
    let unused := match x.slab with
      | some b => b.lim - b.ptr
      | none => 0
    let s := s.raise aCellFault (c + cause * 65536)
    let s := s.setCell c { Cell.reset with placed := false, quar := x.slab }
    let lost := (s.resyncs.filter fun p => p.2 = c).length
    let s := { s with resyncs := s.resyncs.filter fun p => p.2 ≠ c }
    let s := s.reportMove 6 0 4 3 lost
    let s := s.reportMove 2 0 1 3 unused
    let s := match x.sprig with
      | some n => s.endSprig n (unb 2)
      | none => s
    let s := match own with
      | some m => s.endSprig m (unb 2)
      | none => s
    let s : State := s.shep.slots.foldl (fun s e =>
      if e.2.staged = some c then State.modSlot s e.1 fun y => { y with staged := none } else s) s
    let s := s.dropReq (.cell c)
    let n := s.fld F.TAL_QUAR_CELLS + 1
    let s := s.setFld F.TAL_QUAR_CELLS n
    let q := F.ALM_QUAR_QUAR (c / 32)
    let s := s.setFld q (setBits (s.fld q) (c % 32) (c % 32) 1)
    let s : State := if n = s.fld F.ALM_QUARLIM_LIMIT + 1 then s.raise aQuarLimit 0 else s
    s.rehome (groveOf c)

/-! ### Entry (07 R331 to R344) -/

/-- A code address a cell may fetch from (04 R202; 19 R931). -/
def State.fetchable (s : State) (c a : Nat) : Bool :=
  if c < wardenCell then s.codeWindow a
  else decide (a < 2 ^ 20) || (decide (0xFFFF0000 ≤ a) && decide (a < 2 ^ 32))

/-- SV_ML at an entry (06 R309). -/
def mlWord : Option (BitVec 36) → TWord
  | some m => rawW (m.toNat + 2 ^ 63)
  | none => rawW 0

/-- Take an entry to a level: the save set, ST, the window and the vector (R335 to R342). Operations in flight have
completed. An entry without CODE in SY.VBASE, or to a vector outside the code window, resets the cell (R334, R357). -/
def enter (c : Nat) (l : Level) (cause inner info pc : Nat) (impr : Bool) (s : State) : State :=
  let x := s.cell c
  let from' := x.level
  let idle := decide (from' = .l0) && x.sprig.isNone && decide (c < wardenCell)
  let x := x.setSt from' 11 11 0
  let st := x.st.get from'
  let st := if idle then BitVec.ofNat 32 (setBits (setBits st.toNat 15 12 0) 18 16 0) else st
  let n := (bits st.toNat 2 0 + 1) % 8
  let lentNow := (x.owner n).isSome
  let causeW := cause + inner * 256 + from'.num * 2 ^ 16 + b2n impr * 2 ^ 24
  let sync := cause ≠ cLATEBUS ∧ cause ≠ cNMI ∧ cause < 0x20
  let sv : SaveSet := ⟨codeW (if idle then 0 else pc), Sys2Proof.mk tRAW (st.setWidth 64), rawW causeW, rawW info,
    mlWord x.mlPend, rawW (bits st.toNat 2 0 + n * 16 + b2n lentNow * 256), from', st⟩
  let newSt := n + 8 + (match l with | .ln => 3 | l => l.num) * 16 + b2n (decide (l = .ln)) * 64 + 128
    + (if sync then bits st.toNat 15 12 else 0) * 2 ^ 12 + bits st.toNat 18 16 * 2 ^ 16
  let x := { x with save := x.save.set l sv, st := x.st.set l (BitVec.ofNat 32 newSt), level := l, hold := none,
                    early := [], wait := none, pageWait := none, mlPend := none, micro := none, obtain := false,
                    lastSprig := if idle then unb 0 else x.lastSprig }
  let x := if lentNow then x.setLent n true else x.initWindow n l 0#64
  let base := x.vbase.get l
  let vec := (base.p + cause * 64) % 2 ^ 32
  let s := s.setCell c { x with pc := vec }
  if base.t ≠ tCODE ∨ !s.fetchable c vec then cellReset c cause s else s

/-- Take a synchronous cause at the current level, with no operation in flight (R325). -/
def enterSync (c cause info pc : Nat) (impr : Bool) (s : State) : State :=
  match (s.cell c).level with
  | .l0 => enter c .l1 cause 0 info pc impr s
  | .l1 => enter c .l3 cDOUBLE cause info pc impr s
  | .l2 => enter c .l3 cDOUBLE cause info pc impr s
  | _ => cellReset c cause s

/-- The exception of a completed operation, with SV_PC at the first move not completed (04 R177; 07 R350). -/
def opException (c : Nat) (o : PendOp) (pc : Nat) (s : State) : State :=
  enterSync c o.exc (opInfo o) pc (decide (pc ≠ o.trig)) s

/-- Raise a precise synchronous cause at the move at pc. An exception of an operation still in flight comes first, and
the move issues again later (R341, R350). -/
def raiseSync (c cause info pc : Nat) (s : State) : State :=
  match drainOps c s with
  | (s, some o) => opException c o pc s
  | (s, none) => enterSync c cause info pc false s

/-! ### Events that a cell can take (07 R324, R343, R353, R362, R372) -/

inductive Event where
  | nmi (info : Nat)
  | irq (n : Nat)
  | late (slot info : Nat)
  deriving DecidableEq, Repr

/-- The lowest pending IRQ that is routed to level 2 or to level 1. -/
def Cell.lowIrq (x : Cell) (two : Bool) : Option Nat :=
  (List.range 32).find? fun n => x.irqPend.getLsbD n && (x.irqL2.getLsbD n == two)

/-- The event a cell would take next: the lowest level first (R343). -/
def Cell.takeable (x : Cell) : Option Event :=
  let open' := x.hold.isNone
  let one : Option Event := match x.level with
    | .l0 => if open' then match x.latebus with
        | (k, i) :: _ => some (.late k i.toNat)
        | [] => (x.lowIrq false).map .irq
      else none
    | _ => none
  match one with
  | some e => some e
  | none =>
    let two : Option Event := match x.level with
      | .l0 => if open' then (x.lowIrq true).map Event.irq else none
      | .l1 => if open' then (x.lowIrq true).map Event.irq else none
      | _ => none
    match two with
    | some e => some e
    | none => match x.nmi with
      | some i => if x.level = .ln then none else some (.nmi i.toNat)
      | none => none

/-- Enter for one event; the pending bit is cleared (R371, R377). -/
def takeEvent (c : Nat) (e : Event) (s : State) : State :=
  let pc := (s.cell c).pc
  match e with
  | .late k info =>
    enter c .l1 cLATEBUS 0 info pc false (s.modCell c fun x => { x with latebus := AMap.erase x.latebus k })
  | .irq n =>
    let x := s.cell c
    let l := if x.irqL2.getLsbD n then Level.l2 else Level.l1
    let pay := (AMap.get 0#32 x.irqPay n).toNat
    enter c l (0x20 + n) 0 pay pc false (s.modCell c fun x =>
      { x with irqPend := BitVec.ofNat 32 (setBits x.irqPend.toNat n n 0), irqPay := AMap.erase x.irqPay n })
  | .nmi info => enter c .ln cNMI 0 info pc false (s.modCell c fun x => { x with nmi := none })

/-- The cell may take events: in placement, and not held at level 0 (10 R519). -/
def State.mayTake (s : State) (c : Nat) : Bool :=
  s.inPlacement c && (decide (c ≥ wardenCell) || !s.cellsHeld || decide ((s.cell c).level ≠ .l0))

/-- Enter for each event that can be taken, the lowest level first (R343); n bounds the number of levels. -/
def takeAll (c : Nat) : Nat → State → State
  | 0, s => s
  | n + 1, s =>
    if s.mayTake c then
      match (s.cell c).takeable with
      | some e => takeAll c n (takeEvent c e s)
      | none => s
    else s

/-- The write of a predicate that waits on a result socket completes with the result (04 R191). -/
def settleDefer (c : Nat) (s : State) : State :=
  s.modCell c fun x => match x.defer with
    | some d =>
      let n := d.sock % 8
      let w := x.sock x.level d.src
      let p := BitVec.ofNat 8 (setBits (x.preds.get x.level).toNat n n (b2n w.truth))
      { x with preds := x.preds.set x.level p, defer := none }
    | none => x

/-- SV_PC for an entry between moves: the earliest early-issued move when there is one (04 R200). -/
def Cell.boundaryPc (x : Cell) : Nat := match x.early with
  | p :: _ => p
  | [] => x.pc

/-- SV_PC for an exception of an operation: a predicate write that still waits on a result has not completed (04 R177,
R191). -/
def Cell.firstOpen (x : Cell) : Nat := match x.defer with
  | some d => d.pc
  | none => x.boundaryPc

/-- Go to a move boundary: operations complete, a waiting predicate is written, early-issued moves are discarded
(R341). An exception of an operation is taken, and answers none. -/
def toBoundary (c : Nat) (s : State) : State × Bool :=
  let pc := (s.cell c).boundaryPc
  let open' := (s.cell c).firstOpen
  match drainOps c s with
  | (s, some o) => (opException c o open' (s.modCell c fun x => { x with early := [], defer := none }), false)
  | (s, none) => ((settleDefer c s).modCell c fun x => { x with early := [], pc := pc, micro := none }, true)

/-- Take the events that can be taken at the next boundary (R341, R343, R350). -/
def takeEvents (c : Nat) (s : State) : State :=
  if s.mayTake c && (s.cell c).takeable.isSome then
    let (s, ok) := toBoundary c s
    if ok then takeAll c 4 s else takeAll c 3 s
  else s

/-! ### A sprig leaves its cell -/

/-- Levels whose ST.EPOCH is the given one are dropped without SY.RETI, down to a level of another epoch (10 R558). -/
def dropLevels (c e : Nat) : Nat → State → State
  | 0, s => s
  | n + 1, s =>
    let x := s.cell c
    if x.epochOf x.level = e then
      match x.level with
      | .l0 =>
        s.modCell c fun x =>
          let x := (List.range 8).foldl (fun x i => if x.owner i = some .l0 then x.freeWindow i else x) x
          { x with sprig := none, lastSprig := unb 0, ops := x.ops.filter fun o => o.level ≠ .l0, defer := none, early := [], wait := none, hold := none,
                   mlPend := none, micro := none, obtain := false, dropEpoch := none, latebus := [] }
      | l =>
        let sv := x.save.get l
        let ewin := bits sv.win.p 6 4
        let s := s.modCell c fun x =>
          let x := (List.range 8).foldl (fun x i => if x.owner i = some l then x.freeWindow i else x) x
          let x := if x.isLent ewin && x.owner ewin ≠ some l then x.setLent ewin false else x
          { x with save := x.save.set l SaveSet.reset, level := sv.fromLevel, pc := sv.pc.p, ops := x.ops.filter fun o => o.level ≠ l, defer := none, early := [], wait := none,
                   hold := none, mlPend := none, micro := none, obtain := true }
        dropLevels c e n s
    else s.modCell c fun x => { x with dropEpoch := some e }

/-- A running sprig is dropped from its cell at level 0 (10 R503): nothing of it is stored but its exit. -/
def State.dropSprig (s : State) (c : Nat) : State :=
  s.modCell c fun x =>
    let x := (List.range 8).foldl (fun x i => if x.owner i = some .l0 then x.freeWindow i else x) x
    { x with sprig := none, lastSprig := unb 0, ops := x.ops.filter fun o => o.level ≠ .l0, defer := none, early := [], wait := none, hold := none,
             mlPend := none, micro := none, obtain := false }

/-! ### Return (07 R346 to R349, R1023; 06 R297, R298, R310) -/

/-- SY.RETI leaves level l of cell c; operations of the level have completed. -/
def returnFrom (c : Nat) (l : Level) (s : State) : State :=
  let x := s.cell c
  let sv := x.save.get l
  let to' := sv.fromLevel
  let ewin := bits sv.win.p 6 4
  let x := (List.range 8).foldl (fun x i => if x.owner i = some l then x.freeWindow i else x) x
  let x := if x.isLent ewin then x.setLent ewin false else x
  let old := sv.fromSt.toNat
  let svSt := sv.st.p
  let st := setBits old 2 0 (bits sv.win.p 2 0)
  let st := setBits (setBits st 3 3 (bits svSt 3 3)) 9 7 (bits svSt 9 7)
  let st := setBits (setBits st 10 10 (bits svSt 10 10)) 11 11 0
  let ml := sv.ml.p
  let pend := if ml.testBit 63 then some (BitVec.ofNat 36 ml) else none
  let x := { x with st := x.st.set to' (BitVec.ofNat 32 st), level := to', pc := sv.pc.p, hold := none, wait := none,
                    mlPend := pend, obtain := true, early := [], defer := none }
  let s := s.setCell c x
  match to' with
  | .l0 =>
    match x.sprig with
    | some n =>
      let y := s.slot n
      if y.dropReq then (s.dropSprig c).endSprig n (unb 3)
      else s.modCell c fun x => fpaFor (s.handle n) x
    | none =>
      if c < wardenCell then
        s.modCell c fun x => { x with mlPend := none, micro := none, obtain := false }
      else s.modCell c fun x => fpaFor (unb 0) x
  | _ => s

/-- After a return, levels of a squashed epoch beneath an ivory one are dropped (10 R558). -/
def afterReturn (c : Nat) (s : State) : State :=
  match (s.cell c).dropEpoch with
  | some e => if (s.cell c).epochOf (s.cell c).level = e then dropLevels c e 5 s else s
  | none => s

end Sys2Proof.Machine
end

