-- ==== Sys2Proof/Machine/Cells.lean ====
section
/-!
DEFINITION. What a move of a cell comes to and how it ends: retiring, raising, waiting, stalling, the sprig leaving
its cell (04 R171 to R178; 07 R341, R363; 10 R503, R519 to R522, R545 to R547).
-/
namespace Sys2Proof.Machine

/-- How control goes on after a move that has taken effect: at the next move, at a code address, or wherever the
effect itself has put the cell. -/
inductive Ctl where
  | next
  | goto (pc : Nat)
  | gone
  deriving DecidableEq, Repr

/-- The move being issued: its cell, its address and its length in bytes. -/
structure Mv where
  c : Nat
  pc : Nat
  len : Nat
  deriving DecidableEq, Repr

/-- The level and epoch at which a cell runs. -/
def State.lvl (s : State) (c : Nat) : Level := (s.cell c).level
def State.cellEpoch (s : State) (c : Nat) : Nat := (s.cell c).epoch

/-- Deliver a word to a result socket of the current level's bank. -/
def State.result (s : State) (c sock : Nat) (w : TWord) : State :=
  s.modCell c fun x => x.setSock x.level sock w.plain

def okNext (s : State) : Out Ctl := .ok .next s

/-- The sprig of a cell leaves it at a move boundary, to resume at the move at the boundary; then it takes its new
state (R522). An exception of an operation in flight is taken first. -/
def leaveAtBoundary (c : Nat) (f : Nat → State → State) (s : State) : State :=
  match (s.cell c).sprig with
  | none => s
  | some n =>
    let (s, ok) := toBoundary c s
    if ok then f n (s.switchOut c n (s.cell c).pc) else s

/-- A running sprig at level 0 stops while cells 0 to 255 are held (R519). -/
def holdCell (c : Nat) (s : State) : State :=
  if s.cellsHeld ∧ (s.cell c).level = .l0 ∧ c < wardenCell then
    leaveAtBoundary c (fun n s => s.modSlot n fun x => { x with state := .held, prior := .ready }) s
  else s

/-- A sprig that an APPLY names becomes HELD at its safe point (R527, R528). -/
def applyHold (c : Nat) (s : State) : State :=
  match (s.cell c).sprig with
  | none => s
  | some n =>
    if (s.slot n).heldFor.isSome ∧ (s.cell c).level = .l0 ∧ (s.cell c).hold.isNone then
      leaveAtBoundary c (fun n s => s.modSlot n fun x => { x with state := .held, prior := .ready }) s
    else s

/-- Hold cells 0 to 255 (R426, R463, R519). -/
def State.holdCells (s : State) : State :=
  (List.range 256).foldl (fun s c => holdCell c s) { s with cellsHeld := true }

/-- Release cells 0 to 255: every HELD sprig becomes READY (R519). -/
def State.releaseCells (s : State) : State :=
  ((s.slotsIn .held).filter fun n => (s.slot n).heldFor.isNone).foldl (fun s n => s.makeReady n)
    { s with cellsHeld := false }

/-- The sprig on the cell ends at level 0 (R501): it leaves the cell, which is then free. -/
def exitSprig (c n : Nat) (w : TWord) (s : State) : State :=
  match drainOps c s with
  | (s, some o) => opException c o (s.cell c).pc s
  | (s, none) => (s.dropSprig c).endSprig n w

/-- A sprig at level 0 leaves its cell with the move at pc to issue again, or done with. -/
def leaveCell (c n resume : Nat) (f : State → State) (s : State) : State :=
  match drainOps c s with
  | (s, some o) => opException c o (s.cell c).pc s
  | (s, none) => f (s.switchOut c n resume)

/-- Wait in place (05 R265; 10 R547): the start is kept while the same wait goes on. -/
def State.waitInPlace (s : State) (m : Mv) (sock mask : Nat) (until' : Option Nat) : State :=
  s.modCell m.c fun x => match x.wait with
    | some _ => x
    | none => { x with wait := some ⟨s.now, m.len, sock, mask, until'⟩ }

/-- A stalled move (R546, R547): at level 0 the sprig becomes STALLED, above it the move waits in place. -/
def stallMove (m : Mv) (sock : Nat) (s : State) : State :=
  match (s.cell m.c).level, (s.cell m.c).sprig with
  | .l0, some n =>
    leaveCell m.c n m.pc (fun s =>
      (s.modSlot n fun x => { x with state := .stalled }).report 7 (s.slot n).epoch [(4, 1)]) s
  | _, _ => s.waitInPlace m sock 0 none

/-- A move retires (04 R177; 07 R363). An operation that the move itself started counts it as the first. -/
def retire (m : Mv) (s : State) : State :=
  s.modCell m.c fun x =>
    { x with ops := x.ops.map fun o => if o.level = x.level then { o with issued := o.issued + 1 } else o
             hold := x.hold.map fun h => { h with left := h.left - 1 }
             wait := none, pageWait := none }

/-- FPUN at level 0: the FP swap routine (06 R314, R316; 08 R425). The move then issues again. On a cell with no sprig
there is no block to load (log entry 22). -/
def fpSwap (c : Nat) (s : State) : State :=
  match (s.cell c).sprig with
  | none => s.modCell c fun x => x.setSt .l0 10 10 1
  | some n =>
    let s := match s.fpOwner c with
      | some m => if m = n then s else s.storeFloat c m
      | none => s
    let s := s.loadFloat c n
    s.modCell c fun x => ({ x with fpown := s.handle n }).setSt .l0 10 10 1

/-- End the issue of a move. A routine that starts goes its own way (Sequencer.lean). -/
def finish (m : Mv) (sock : Nat) (o : Out Ctl) : State :=
  match o with
  | .ok .next s => retire m (s.modCell m.c fun x => { x with pc := (m.pc + m.len) % 2 ^ 32 })
  | .ok (.goto p) s => retire m (s.modCell m.c fun x => { x with pc := p % 2 ^ 32 })
  | .ok .gone s => s
  | .exc cause info s =>
    if cause = cFPUN ∧ (s.cell m.c).level = .l0 then fpSwap m.c s
    else raiseSync m.c cause info m.pc s
  | .wait s => s
  | .stall s => stallMove m sock s
  | .start _ s => s

/-- The hold's bounds that are reached, as bits 0 and 1 of SV_INFO (07 R363, R365). -/
def holdReached (s : State) (c : Nat) : Nat :=
  match (s.cell c).hold with
  | some h => b2n (decide (h.left = 0)) + 2 * b2n (decide (h.endsAt ≤ s.now))
  | none => 0

/-- HOLDX (07 R339, R365): the hold ends, with the mask of the interrupts it deferred. -/
def holdEnds (c bounds : Nat) (s : State) : State :=
  let (s, ok) := toBoundary c s
  if ok then
    let x := s.cell c
    let s := s.modCell c fun x => ({ x with hold := none }).setSt x.level 11 11 0
    enterSync c cHOLDX (bounds + x.irqPend.toNat * 2 ^ 32) x.pc false s
  else s

/-- A cell that issues moves: in placement, running a sprig or a handler, or the Warden (07 R359, R1023; 08 R426). -/
def State.running (s : State) (c : Nat) : Bool :=
  let x := s.cell c
  s.inPlacement c && (decide (c ≥ wardenCell) || decide (x.level ≠ .l0) || x.sprig.isSome)

/-- The window a resumed level needs is obtained before its first move (06 R298). -/
def obtainFirst (c : Nat) (s : State) : Out Unit :=
  let x := s.cell c
  if x.obtain then
    (obtainWindow c x.win x.level s).andThen fun _ s => .ok () (s.modCell c fun x => { x with obtain := false })
  else .ok () s

end Sys2Proof.Machine
end

