-- ==== Sys2Proof/Machine/SoftFloat.lean ====
section
/-!
DEFINITION. IEEE 754-2019 binary64 with full subnormal support, exact over natural numbers and rounded once
(03 R135, 05 R225 to R231).
-/
namespace Sys2Proof.Machine

/-- Rounding modes in the encoding of FX.CTL.RM (05 R226). -/
inductive Rm where
  | ne | tz | up | dn
  deriving DecidableEq, Repr

def rmOf (n : Nat) : Rm :=
  match n % 4 with
  | 0 => .ne | 1 => .tz | 2 => .up | _ => .dn

/-- IEEE exception flags in the order of FX.FLAGS (05 R226). -/
structure FFlags where
  nv : Bool := false
  dz : Bool := false
  of' : Bool := false
  uf : Bool := false
  nx : Bool := false
  deriving DecidableEq, Repr

def FFlags.toNat (f : FFlags) : Nat :=
  b2n f.nv + 2 * b2n f.dz + 4 * b2n f.of' + 8 * b2n f.uf + 16 * b2n f.nx

def FFlags.none : FFlags := {}

/-- A binary64 datum: NaN (signalling or not), infinity, or sign, magnitude m times 2^e. -/
inductive Flo where
  | nan (sig : Bool)
  | inf (neg : Bool)
  | fin (neg : Bool) (m : Nat) (e : Int)
  deriving DecidableEq, Repr

def qNaN : W64 := 0x7FF8000000000000#64

def floOf (x : W64) : Flo :=
  let n := x.toNat
  let neg := n ≥ 2 ^ 63
  let ex := bits n 62 52
  let fr := n % 2 ^ 52
  if ex = 2047 then (if fr = 0 then .inf neg else .nan (fr < 2 ^ 51))
  else if ex = 0 then .fin neg fr (-1074)
  else .fin neg (2 ^ 52 + fr) ((ex : Int) - 1075)

def signBit (neg : Bool) : Nat := if neg then 2 ^ 63 else 0

def infBits (neg : Bool) : W64 := BitVec.ofNat 64 (signBit neg + 0x7FF0000000000000)
def zeroBits (neg : Bool) : W64 := BitVec.ofNat 64 (signBit neg)
def maxBits (neg : Bool) : W64 := BitVec.ofNat 64 (signBit neg + 0x7FEFFFFFFFFFFFFF)

/-- Round m/2^sh to an integer; sticky says that a nonzero remainder below m was already dropped.
The second component says that the result is inexact. -/
def roundShift (rm : Rm) (neg : Bool) (m sh : Nat) (sticky : Bool) : Nat × Bool :=
  let q := m / 2 ^ sh
  let r := m % 2 ^ sh
  let inexact := r ≠ 0 || sticky
  let up : Bool := match rm with
    | .tz => false
    | .up => inexact && !neg
    | .dn => inexact && neg
    | .ne => if sh = 0 then false
             else if 2 * r > 2 ^ sh then true
             else if 2 * r < 2 ^ sh then false
             else sticky || q % 2 == 1
  (if up then q + 1 else q, inexact)

/-- The binary64 result of the exact magnitude m times 2^e (plus a dropped part when sticky), and its flags.
Underflow is detected after rounding (05 R226). -/
def roundFlo (rm : Rm) (neg : Bool) (m : Nat) (e : Int) (sticky : Bool) : W64 × FFlags :=
  if m = 0 then (zeroBits neg, { nx := sticky })
  else
    let len : Int := (Nat.log2 m : Int) + 1
    let qn : Int := e + len - 53
    let q : Int := if qn < -1074 then -1074 else qn
    -- the value at the target exponent, from a magnitude aligned so that the shift is not negative
    let at' (q : Int) : Nat × Bool :=
      if q ≥ e then roundShift rm neg m (q - e).toNat sticky
      else roundShift rm neg (m * 2 ^ (e - q).toNat) 0 sticky
    let (r, nx) := at' q
    -- tininess after rounding: with the exponent unbounded the rounded result lies below 2^-1022
    let ru := (at' qn).1
    let tiny : Bool := if ru ≥ 2 ^ 53 then qn + 53 < -1022 else qn + 52 < -1022
    let (r, q) := if r ≥ 2 ^ 53 then (r / 2, q + 1) else (r, q)
    if r < 2 ^ 52 then
      (BitVec.ofNat 64 (signBit neg + r), { nx := nx, uf := nx && tiny })
    else
      let ex : Int := q + 1075
      if ex ≥ 2047 then
        let toInf := match rm with
          | .ne => true | .tz => false | .up => !neg | .dn => neg
        (if toInf then infBits neg else maxBits neg, { of' := true, nx := true })
      else
        (BitVec.ofNat 64 (signBit neg + ex.toNat * 2 ^ 52 + (r - 2 ^ 52)), { nx := nx, uf := nx && tiny })

/-- Signed value times 2^e, aligned to exponent d. -/
def alignTo (neg : Bool) (m : Nat) (e d : Int) : Int :=
  let v : Int := (m : Int) * (2 : Int) ^ (e - d).toNat
  if neg then -v else v

def nanRes (sig : Bool) : W64 × FFlags := (qNaN, { nv := sig })
def invalidRes : W64 × FFlags := (qNaN, { nv := true })

def isSig : Flo → Bool
  | .nan s => s
  | _ => false

def isNaN' : Flo → Bool
  | .nan _ => true
  | _ => false

/-- Sum of two finite data under a rounding mode; an exact zero sum of opposite signs is +0, or -0 toward
negative infinity. -/
def addFin (rm : Rm) (n1 : Bool) (m1 : Nat) (e1 : Int) (n2 : Bool) (m2 : Nat) (e2 : Int) : W64 × FFlags :=
  let d := min e1 e2
  let v := alignTo n1 m1 e1 d + alignTo n2 m2 e2 d
  if v = 0 then
    (if m1 = 0 ∧ m2 = 0 ∧ n1 = n2 then zeroBits n1 else zeroBits (rm = .dn), {})
  else roundFlo rm (v < 0) v.natAbs d false

def floAdd (rm : Rm) (a b : Flo) : W64 × FFlags :=
  match a, b with
  | .nan s, y => nanRes (s || isSig y)
  | _, .nan s => nanRes s
  | .inf x, .inf y => if x = y then (infBits x, {}) else invalidRes
  | .inf x, .fin _ _ _ => (infBits x, {})
  | .fin _ _ _, .inf y => (infBits y, {})
  | .fin n1 m1 e1, .fin n2 m2 e2 => addFin rm n1 m1 e1 n2 m2 e2

def floNeg : Flo → Flo
  | .nan s => .nan s
  | .inf n => .inf !n
  | .fin n m e => .fin (!n) m e

def floSub (rm : Rm) (a b : Flo) : W64 × FFlags := floAdd rm a (floNeg b)

def floMul (rm : Rm) (a b : Flo) : W64 × FFlags :=
  match a, b with
  | .nan s, y => nanRes (s || isSig y)
  | _, .nan s => nanRes s
  | .inf x, .inf y => (infBits (x != y), {})
  | .inf x, .fin n m _ => if m = 0 then invalidRes else (infBits (x != n), {})
  | .fin n m _, .inf x => if m = 0 then invalidRes else (infBits (x != n), {})
  | .fin n1 m1 e1, .fin n2 m2 e2 => roundFlo rm (n1 != n2) (m1 * m2) (e1 + e2) false

def floDiv (rm : Rm) (a b : Flo) : W64 × FFlags :=
  match a, b with
  | .nan s, y => nanRes (s || isSig y)
  | _, .nan s => nanRes s
  | .inf _, .inf _ => invalidRes
  | .inf x, .fin n _ _ => (infBits (x != n), {})
  | .fin n _ _, .inf x => (zeroBits (x != n), {})
  | .fin n1 m1 e1, .fin n2 m2 e2 =>
    if m2 = 0 then (if m1 = 0 then invalidRes else (infBits (n1 != n2), { dz := true }))
    else
      let n := m1 * 2 ^ 120
      roundFlo rm (n1 != n2) (n / m2) (e1 - e2 - 120) (n % m2 ≠ 0)

/-- Integer square root, one bit at a time from bit k-1 down. -/
def isqrt (n : Nat) : Nat → Nat → Nat
  | 0, r => r
  | k + 1, r => isqrt n k (if (r + 2 ^ k) * (r + 2 ^ k) ≤ n then r + 2 ^ k else r)

def floSqrt (rm : Rm) (a : Flo) : W64 × FFlags :=
  match a with
  | .nan s => nanRes s
  | .inf n => if n then invalidRes else (infBits false, {})
  | .fin n m e =>
    if m = 0 then (zeroBits n, {})
    else if n then invalidRes
    else
      let odd := e % 2 ≠ 0
      let v := m * 2 ^ (if odd then 121 else 120)
      let e' : Int := if odd then (e - 121) / 2 else (e - 120) / 2
      let r := isqrt v 90 0
      roundFlo rm false r e' (r * r ≠ v)

/-- Fused multiply-add. The invalid flag of 0 times infinity with a quiet NaN addend is left to the implementation
by IEEE 754-2019 (7.2): Config.fmaQuietInvalid. -/
def floFma (rm : Rm) (a b c : Flo) : W64 × FFlags :=
  let sig := isSig a || isSig b || isSig c
  let zeroInf : Bool := match a, b with
    | .inf _, .fin _ m _ => m == 0
    | .fin _ m _, .inf _ => m == 0
    | _, _ => false
  if isNaN' a || isNaN' b then nanRes sig
  else if zeroInf then
    (if isNaN' c then (qNaN, { nv := sig || Config.fmaQuietInvalid }) else invalidRes)
  else match c with
    | .nan s => nanRes s
    | c =>
      match a, b, c with
      | .fin n1 m1 e1, .fin n2 m2 e2, .fin n3 m3 e3 => addFin rm (n1 != n2) (m1 * m2) (e1 + e2) n3 m3 e3
      | .fin _ _ _, .fin _ _ _, .inf n => (infBits n, {})
      | x, y, c =>
        let sg : Flo → Bool := fun | .inf n => n | .fin n _ _ => n | .nan _ => false
        let ps := sg x != sg y
        match c with
        | .inf n => if n = ps then (infBits ps, {}) else invalidRes
        | _ => (infBits ps, {})

/-- Exact comparison of two data that are not NaN. -/
def floCmp (a b : Flo) : Ordering :=
  match a, b with
  | .inf x, .inf y => if x = y then .eq else if x then .lt else .gt
  | .inf x, _ => if x then .lt else .gt
  | _, .inf y => if y then .gt else .lt
  | .fin n1 m1 e1, .fin n2 m2 e2 =>
    let d := min e1 e2
    compare (alignTo n1 m1 e1 d) (alignTo n2 m2 e2 d)
  | _, _ => .eq

def floSign : Flo → Bool
  | .fin n _ _ => n
  | .inf n => n
  | .nan _ => false

/-- Is the first datum below the second, with -0 below +0 (minimum and maximum of IEEE 754-2019). -/
def floBelow (a b : Flo) : Bool :=
  match floCmp a b with
  | .lt => true
  | .gt => false
  | .eq => floSign a && !floSign b

def floMin (x y : W64) : W64 × FFlags :=
  let a := floOf x; let b := floOf y
  if isNaN' a || isNaN' b then nanRes (isSig a || isSig b)
  else (if floBelow b a then y else x, {})

def floMax (x y : W64) : W64 × FFlags :=
  let a := floOf x; let b := floOf y
  if isNaN' a || isNaN' b then nanRes (isSig a || isSig b)
  else (if floBelow a b then y else x, {})

/-- The integer a finite datum rounds to, and whether it is inexact. -/
def roundInt (rm : Rm) (neg : Bool) (m : Nat) (e : Int) : Nat × Bool :=
  if e ≥ 0 then (m * 2 ^ e.toNat, false) else roundShift rm neg m (-e).toNat false

/-- Rounding to an integral value; DEDUCED: the operation of IEEE 754-2019 that rounds in the current direction is
roundToIntegralExact, which signals inexact. -/
def floRint (rm : Rm) (x : W64) : W64 × FFlags :=
  match floOf x with
  | .nan s => nanRes s
  | .inf _ => (x, {})
  | .fin n m e =>
    let (v, nx) := roundInt rm n m e
    ((roundFlo .ne n v 0 false).1, { nx := nx })

/-- Conversion to a 64-bit integer (05 R231). -/
def floToInt (rm : Rm) (a : Flo) : Option Int × Bool :=
  match a with
  | .fin n m e =>
    let (v, nx) := roundInt rm n m e
    let i : Int := if n then -(v : Int) else v
    if i < -(2 : Int) ^ 63 ∨ i ≥ (2 : Int) ^ 63 then (none, false) else (some i, nx)
  | _ => (none, false)

/-- Conversion of an integer times 2^e. -/
def intToFlo (rm : Rm) (i : Int) (e : Int) : W64 × FFlags :=
  if i = 0 then (zeroBits false, {}) else roundFlo rm (i < 0) i.natAbs e false

end Sys2Proof.Machine
end

