-- ==== Sys2Proof/Machine/Generic.lean ====
section
/-!
DEFINITION. The generic operations of GA, numbered as in 03 R118: result tags (R121 to R127), numeric rules (R128 to
R137), overflow (R138 to R142), division by zero (R143), PT2, RGBA and STAMP (R147 to R151).
-/
namespace Sys2Proof.Machine

/-- What a generic operation finds: no hardware result (dispatched under R154), a TAGMISS that is never dispatched
(R142), a division by zero, or a result word with its overflow. -/
inductive GaOut where
  | miss
  | reject
  | divz
  | val (w : TWord) (ov : Bool)
  deriving DecidableEq, Repr

def GaOut.ok (w : TWord) : GaOut := .val w false

/-- Two's complement result of a 64-bit class: low 64 bits, overflow outside [-2^63, 2^63 - 1] or when a conversion
overflowed (R138, R139). -/
def signedOut (tag : Nat) (v : Int) (ov : Bool) : GaOut :=
  .val (mk tag (BitVec.ofInt 64 v)) (ov || v < -(2 : Int) ^ 63 || v ≥ (2 : Int) ^ 63)

/-- Nearest integer to n/d, ties to even, d > 0. -/
def rne (n : Int) (d : Nat) : Int :=
  let q := n / (d : Int)
  let r := n % (d : Int)
  if 2 * r > d then q + 1
  else if 2 * r < d then q
  else if q % 2 = 0 then q else q + 1

/-- Nearest integer to n/d for any nonzero d. -/
def rneDiv (n d : Int) : Int := if d < 0 then rne (-n) d.natAbs else rne n d.natAbs

/-- A FIX or FIXQ operand as a count of 2^-32, and whether the conversion of R129 overflows. -/
def qraw (w : TWord) : Int × Bool :=
  if w.t = tFIX then (w.i * 2 ^ 32, w.i < -(2 : Int) ^ 31 || w.i ≥ (2 : Int) ^ 31) else (w.i, false)

/-- The exact value of a number word. -/
def exactOf (w : TWord) : Flo :=
  if w.t = tFLO then floOf w.payload
  else if w.t = tFIXQ then .fin (w.i < 0) w.i.natAbs (-32)
  else .fin (w.i < 0) w.i.natAbs 0

/-- A number word converted to FLO (R130). -/
def toFlo (w : TWord) : W64 :=
  if w.t = tFLO then w.payload
  else (intToFlo .ne w.i (if w.t = tFIXQ then -32 else 0)).1

def floOut (r : W64 × FFlags) : GaOut := .ok (mk tFLO r.1)

/-- Components of a PT2 payload, as counts of 2^-16. -/
def ptX (w : TWord) : Int := (w.payload.extractLsb' 32 32).toInt
def ptY (w : TWord) : Int := (w.payload.extractLsb' 0 32).toInt

def out32 (v : Int) : Bool := v < -(2 : Int) ^ 31 || v ≥ (2 : Int) ^ 31

/-- A PT2 result from two component results; each overflows on its own (R138, R139, R147). -/
def ptOut (x y : Int) : GaOut :=
  .val (mk tPT2 ((BitVec.ofInt 32 x) ++ (BitVec.ofInt 32 y))) (out32 x || out32 y)

/-- Channel k of an RGBA payload, red first. -/
def chan (w : TWord) (k : Nat) : Nat := bits w.p (31 - 8 * k) (24 - 8 * k)

def sat8 (v : Int) : Nat := if v < 0 then 0 else if v > 255 then 255 else v.toNat

def rgbaOut (f : Nat → Int) : GaOut :=
  .ok (mkN tRGBA (sat8 (f 0) * 2 ^ 24 + sat8 (f 1) * 2 ^ 16 + sat8 (f 2) * 2 ^ 8 + sat8 (f 3)))

def gaAddSub (sub : Bool) (a b : TWord) : GaOut :=
  let k : Int := if sub then -1 else 1
  if isNumTag a.t && isNumTag b.t then
    if a.t = tFLO ∨ b.t = tFLO then
      floOut ((if sub then floSub else floAdd) .ne (floOf (toFlo a)) (floOf (toFlo b)))
    else if a.t = tFIX ∧ b.t = tFIX then signedOut tFIX (a.i + k * b.i) false
    else signedOut tFIXQ ((qraw a).1 + k * (qraw b).1) ((qraw a).2 || (qraw b).2)
  else if a.t = tPT2 ∧ b.t = tPT2 then ptOut (ptX a + k * ptX b) (ptY a + k * ptY b)
  else if a.t = tRGBA ∧ b.t = tRGBA then rgbaOut fun c => (chan a c : Int) + k * (chan b c : Int)
  else if a.t = tSTAMP ∧ b.t = tFIX then
    let v : Int := (a.p : Int) + k * b.i
    .val (mk tSTAMP (BitVec.ofInt 64 v)) (v < 0 || v ≥ (2 : Int) ^ 64)
  else if sub && a.t == tSTAMP && b.t == tSTAMP then signedOut tFIX ((a.p : Int) - (b.p : Int)) false
  else .miss

/-- PT2 by a FIX or FIXQ factor (R148). -/
def ptMul (p f : TWord) : GaOut :=
  if f.t = tFIX then ptOut (ptX p * f.i) (ptY p * f.i)
  else ptOut (rne (ptX p * f.i) (2 ^ 32)) (rne (ptY p * f.i) (2 ^ 32))

/-- RGBA by a FIXQ factor (R150). -/
def rgbaScale (c f : TWord) : GaOut := rgbaOut fun k => rne ((chan c k : Int) * f.i) (2 ^ 32)

def gaMul (a b : TWord) : GaOut :=
  if isNumTag a.t && isNumTag b.t then
    if a.t = tFLO ∨ b.t = tFLO then floOut (floMul .ne (floOf (toFlo a)) (floOf (toFlo b)))
    else if a.t = tFIX ∧ b.t = tFIX then signedOut tFIX (a.i * b.i) false
    else signedOut tFIXQ (rne ((qraw a).1 * (qraw b).1) (2 ^ 32)) ((qraw a).2 || (qraw b).2)
  else if a.t = tPT2 ∧ (b.t = tFIX ∨ b.t = tFIXQ) then ptMul a b
  else if b.t = tPT2 ∧ (a.t = tFIX ∨ a.t = tFIXQ) then ptMul b a
  else if a.t = tRGBA ∧ b.t = tRGBA then
    rgbaOut fun k => ((2 * chan a k * chan b k + 255) / 510 : Nat)
  else if a.t = tRGBA ∧ b.t = tFIXQ then rgbaScale a b
  else if b.t = tRGBA ∧ a.t = tFIXQ then rgbaScale b a
  else .miss

def gaDivRem (rem : Bool) (a b : TWord) : GaOut :=
  if isNumTag a.t && isNumTag b.t then
    if a.t = tFLO ∨ b.t = tFLO then
      (if rem then .miss else floOut (floDiv .ne (floOf (toFlo a)) (floOf (toFlo b))))
    else if b.p = 0 then .divz
    else if a.t = tFIX ∧ b.t = tFIX then
      signedOut tFIX (if rem then a.i.tmod b.i else a.i.tdiv b.i) false
    else
      let x := (qraw a).1
      let y := (qraw b).1
      signedOut tFIXQ (if rem then x.tmod y else rneDiv (x * 2 ^ 32) y) ((qraw a).2 || (qraw b).2)
  else if !rem && a.t == tPT2 && (b.t == tFIX || b.t == tFIXQ) then
    if b.p = 0 then .divz
    else
      let s : Int := if b.t = tFIX then 1 else 2 ^ 32
      ptOut (rneDiv (ptX a * s) b.i) (rneDiv (ptY a * s) b.i)
  else .miss

def gaNegAbs (abs : Bool) (a : TWord) : GaOut :=
  let f : Int → Int := fun v => if abs then v.natAbs else -v
  if a.t = tFIX then signedOut tFIX (f a.i) false
  else if a.t = tFIXQ then signedOut tFIXQ (f a.i) false
  else if a.t = tFLO then
    (if isNaN' (floOf a.payload) then .ok (mk tFLO qNaN)
     else .ok (mk tFLO (if abs then a.payload &&& 0x7FFFFFFFFFFFFFFF#64 else a.payload ^^^ 0x8000000000000000#64)))
  else if a.t = tPT2 then ptOut (f (ptX a)) (f (ptY a))
  else .miss

/-- The key by which CHR and STAMP compare (R107, R136). -/
def ordKey (w : TWord) : Nat := if w.t = tCHR then w.p % 2 ^ 21 else w.p

/-- The five numeric comparisons (R136). -/
def gaCompare (ok : Ordering → Bool) (numeq : Bool) (a b : TWord) : GaOut :=
  if isNumTag a.t && isNumTag b.t then
    let x := exactOf a
    let y := exactOf b
    .ok (boolW (!isNaN' x && !isNaN' y && ok (floCmp x y)))
  else if !numeq && a.t == b.t && (a.t == tCHR || a.t == tSTAMP) then
    .ok (boolW (ok (compare (ordKey a) (ordKey b))))
  else .miss

/-- A number word converted to a result tag (R128). -/
def convertTo (tag : Nat) (w : TWord) : GaOut :=
  if tag = tFLO then .ok (mk tFLO (if isNaN' (floOf (toFlo w)) then qNaN else toFlo w))
  else if tag = tFIXQ then signedOut tFIXQ (qraw w).1 (qraw w).2
  else .ok w.plain

def gaMinMax (mx : Bool) (a b : TWord) : GaOut :=
  if isNumTag a.t && isNumTag b.t then
    let x := exactOf a
    let y := exactOf b
    if isNaN' x || isNaN' y then .ok (mk tFLO qNaN)
    else
      let below (u v : Flo) : Bool :=
        if a.t = tFLO ∧ b.t = tFLO then floBelow u v else floCmp u v = .lt
      let second := if mx then below x y else below y x
      let tag := if a.t = tFLO ∨ b.t = tFLO then tFLO else if a.t = tFIXQ ∨ b.t = tFIXQ then tFIXQ else tFIX
      convertTo tag (if second then b else a)
  else if a.t == b.t && (a.t == tCHR || a.t == tSTAMP) then
    let second := if mx then ordKey a < ordKey b else ordKey b < ordKey a
    let w := if second then b else a
    .ok (produce w.t w.payload)
  else .miss

def isBitsTag (t : Nat) : Bool := t == tFIX || t == tRAW || t == tEVT

def gaBitwise (f : W64 → W64 → W64) (a b : TWord) : GaOut :=
  if isBitsTag a.t && isBitsTag b.t then
    .ok (mk (if a.t = b.t then a.t else tRAW) (f a.payload b.payload))
  else .miss

def gaNot (a : TWord) : GaOut := if isBitsTag a.t then .ok (mk a.t (~~~a.payload)) else .miss

/-- Shifts: 0 SHL, 1 SHR, 2 SHRL (R126, R141, R142). -/
def gaShift (kind : Nat) (a b : TWord) : GaOut :=
  if (a.t == tFIX || a.t == tRAW) && b.t == tFIX then
    if b.i < 0 then .reject
    else
      let n := b.p
      if kind = 0 then
        if n ≥ 64 then .val (mkN a.t 0) (a.t == tFIX && a.p != 0)
        else if a.t = tFIX then signedOut tFIX (a.i * 2 ^ n) false
        else .ok (mk tRAW (a.payload <<< n))
      else if kind = 1 then .ok (mk a.t (a.payload.sshiftRight (min n 63)))
      else .ok (mk a.t (if n ≥ 64 then 0 else a.payload >>> n))
  else .miss

def gaToFix (a : TWord) : GaOut :=
  if a.t = tFIX then .ok a.plain
  else if a.t = tCHR then .ok (mkN tFIX (a.p % 2 ^ 21))
  else if a.t = tFIXQ then .ok (fix (a.i / 2 ^ 32))
  else if a.t = tFLO then
    match (floToInt .tz (floOf a.payload)).1 with
    | some i => .ok (fix i)
    | none => .val (mkN tFIX (2 ^ 63)) true
  else .miss

def gaToFixq (a : TWord) : GaOut :=
  if a.t = tFIXQ then .ok a.plain
  else if a.t = tFIX then signedOut tFIXQ (qraw a).1 (qraw a).2
  else if a.t = tFLO then
    let bad : GaOut := .val (mkN tFIXQ (2 ^ 63)) true
    match floOf a.payload with
    | .fin n m e =>
      match (floToInt .ne (.fin n m (e + 32))).1 with
      | some i => .ok (mk tFIXQ (BitVec.ofInt 64 i))
      | none => bad
    | _ => bad
  else .miss

def gaToFlo (a : TWord) : GaOut := if isNumTag a.t then convertTo tFLO a else .miss

/-- The unary operations (R118): NEG, ABS, NOT, TOFIX, TOFIXQ, TOFLO. -/
def gaUnary (n : Nat) : Bool := n == 5 || n == 6 || n == 18 || n == 22 || n == 23 || n == 24

/-- Operation n of R118 on a first and a second operand; a unary operation acts on b, the word written to its
trigger. -/
def gaOp (n : Nat) (a b : TWord) : GaOut :=
  match n with
  | 0 => gaAddSub false a b
  | 1 => gaAddSub true a b
  | 2 => gaMul a b
  | 3 => gaDivRem false a b
  | 4 => gaDivRem true a b
  | 5 => gaNegAbs false b
  | 6 => gaNegAbs true b
  | 7 => gaCompare (· = .lt) false a b
  | 8 => gaCompare (· ≠ .gt) false a b
  | 9 => gaCompare (· = .gt) false a b
  | 10 => gaCompare (· ≠ .lt) false a b
  | 11 => gaCompare (· = .eq) true a b
  | 12 => .ok (boolW (a.eqv b))
  | 13 => gaMinMax false a b
  | 14 => gaMinMax true a b
  | 15 => gaBitwise (· &&& ·) a b
  | 16 => gaBitwise (· ||| ·) a b
  | 17 => gaBitwise (· ^^^ ·) a b
  | 18 => gaNot b
  | 19 => gaShift 0 a b
  | 20 => gaShift 1 a b
  | 21 => gaShift 2 a b
  | 22 => gaToFix b
  | 23 => gaToFixq b
  | 24 => gaToFlo b
  | _ => .miss

/-- An FX operation, numbered by its trigger socket less 0x200 (05 R225), on the payloads of its operand sockets and
of the word written to the trigger. -/
def fxOp (n : Nat) (rm : Rm) (a b c : W64) : TWord × FFlags :=
  let fa := floOf a
  let fb := floOf b
  let fl (r : W64 × FFlags) : TWord × FFlags := (mk tFLO r.1, r.2)
  let cmp (ok : Ordering → Bool) (quiet : Bool) : TWord × FFlags :=
    if isNaN' fa || isNaN' fb then (boolW false, { nv := !quiet || isSig fa || isSig fb })
    else (boolW (ok (floCmp fa fb)), {})
  match n with
  | 0x01 => fl (floAdd rm fa fb)
  | 0x03 => fl (floSub rm fa fb)
  | 0x05 => fl (floMul rm fa fb)
  | 0x07 => fl (floDiv rm fa fb)
  | 0x09 => fl (floSqrt rm fb)
  | 0x0C => fl (floFma rm fa (floOf c) fb)
  | 0x0F => fl (floMin a b)
  | 0x11 => fl (floMax a b)
  | 0x13 => (mk tFLO (if isNaN' fb then qNaN else b ^^^ 0x8000000000000000#64), {})
  | 0x15 => (mk tFLO (if isNaN' fb then qNaN else b &&& 0x7FFFFFFFFFFFFFFF#64), {})
  | 0x17 => fl (floRint rm b)
  | 0x19 =>
    match floToInt rm fb with
    | (some i, nx) => (fix i, { nx := nx })
    | (none, _) => (mkN tFIX (2 ^ 63), { nv := true })
  | 0x1B => fl (intToFlo rm b.toInt 0)
  | 0x1D => cmp (· = .lt) false
  | 0x1F => cmp (· ≠ .gt) false
  | 0x21 => cmp (· = .eq) true
  | 0x23 => (boolW (isNaN' fa || isNaN' fb), {})
  | _ => (unb 0, {})

end Sys2Proof.Machine
end

