-- ==== Sys2Proof/Machine/Sockets.lean ====
section
/-!
DEFINITION. The socket catalogue: kinds (05 R216, R222 to R273; 19 R932), the order of checks (R220), reading a
source, the words that operand sockets accept, and writing registers and operand sockets.
-/
namespace Sys2Proof.Machine

inductive Kind where
  | reg | freg | operand | trigger | result | unassigned
  deriving DecidableEq, Repr

def fxOperands : List Nat :=
  [0x200, 0x202, 0x204, 0x206, 0x20A, 0x20B, 0x20E, 0x210, 0x21C, 0x21E, 0x220, 0x222, 0x261, 0x262]
def fxTriggers : List Nat :=
  [0x201, 0x203, 0x205, 0x207, 0x209, 0x20C, 0x20F, 0x211, 0x213, 0x215, 0x217, 0x219, 0x21B, 0x21D, 0x21F, 0x221,
    0x223]
def lxOperands : List Nat := [0x284, 0x290, 0x292, 0x294, 0x295, 0x297, 0x2A0, 0x2A2, 0x2A8]
def lxReads : List Nat := [0x281, 0x283, 0x285, 0x287, 0x289, 0x28B]
def lxTriggers : List Nat := lxReads ++ [0x291, 0x293, 0x296, 0x298, 0x2A1, 0x2A3, 0x2A5, 0x2A7, 0x2A9]
def mxOperands : List Nat := [0x300, 0x302, 0x303, 0x305, 0x306, 0x307, 0x310, 0x318, 0x31A, 0x320]
def mxTriggers : List Nat := [0x301, 0x304, 0x308, 0x30A, 0x311, 0x313, 0x319, 0x31B]
def tgTriggers : List Nat := [0x381, 0x383, 0x385, 0x387, 0x389, 0x38B]
def brTriggers : List Nat :=
  [0x3C0, 0x3C1, 0x3C2, 0x3C3, 0x3C4, 0x3C5, 0x3CA, 0x3CB, 0x3CC, 0x3CD, 0x3D0, 0x3D1, 0x3D2]
def syOperands : List Nat :=
  [0x600, 0x601, 0x602, 0x603, 0x604, 0x608, 0x609, 0x610, 0x620, 0x640] ++ range' 0x630 16
def syTriggers : List Nat := [0x611, 0x618, 0x619, 0x650]

/-- The kind of a socket number (05; 04 R166). The Warden's sockets exist on a Warden cell only. -/
def sockKind (n : Nat) : Kind :=
  if n < 0x20 then .reg
  else if n < 0x30 then .freg
  else if 0x100 ≤ n ∧ n ≤ 0x131 then
    if n % 2 = 1 then .trigger else if gaUnary ((n - 0x100) / 2) then .unassigned else .operand
  else if n = 0x1F0 ∨ n = 0x260 ∨ n = 0x2F0 ∨ n = 0x370 ∨ n = 0x3B0 ∨ n = 0x3F0 ∨ n = 0x612 ∨ n = 0x70F then .result
  else if (0x408 ≤ n ∧ n ≤ 0x40B) ∨ n = 0x43F then .result
  else if (0x441 ≤ n ∧ n ≤ 0x448) ∨ n = 0x450 then .operand
  else if n = 0x3C8 ∨ n = 0x3C9 ∨ n = 0x401 ∨ n = 0x403 ∨ n = 0x380 ∨ n = 0x386 ∨ n = 0x700 ∨ n = 0x701 then .operand
  else if n = 0x400 ∨ n = 0x402 ∨ n = 0x404 ∨ n = 0x405 ∨ (0x702 ≤ n ∧ n ≤ 0x704) then .trigger
  else if (fxOperands ++ lxOperands ++ mxOperands ++ syOperands).contains n then .operand
  else if (fxTriggers ++ lxTriggers ++ mxTriggers ++ tgTriggers ++ brTriggers ++ syTriggers).contains n then .trigger
  else .unassigned

/-- Sockets into which a guarded move may issue early (05 R217): operand and trigger sockets of GA, FX and TG, and the
reading sockets of LX. -/
def cancellable (n : Nat) : Bool :=
  ((0x100 ≤ n && n ≤ 0x131) || (0x200 ≤ n && n < 0x280) || (0x380 ≤ n && n < 0x3B0) || (0x280 ≤ n && n ≤ 0x28B))

/-- FX sockets and floating registers, which need ST.FPA (04 R169). -/
def needsFpa (n : Nat) : Bool := (0x20 ≤ n && n < 0x30) || (0x200 ≤ n && n < 0x280 && sockKind n != .unassigned)

/-- What is wrong with a socket number named as source or destination: the item of R220 (2 to 5), cause, SV_INFO. -/
def sockCheck (c n : Nat) (read : Bool) (s : State) : Option (Nat × Nat × Nat) :=
  let x := s.cell c
  let k := sockKind n
  if n ≥ 0x700 ∧ c < wardenCell then some (2, cPRIV, sockInfo 4 n)
  else if n ≥ 0x600 ∧ x.sup = false then some (2, cPRIV, sockInfo 2 n)
  else if k = .unassigned ∨ (read ∧ k = .trigger) ∨ (!read ∧ k = .result) then some (3, cBADSOCK, sockInfo 1 n)
  else if needsFpa n ∧ x.fpa = false then some (4, cFPUN, n)
  else if (n = 0x310 ∨ n = 0x311 ∨ n = 0x313) ∧ x.sup = false then some (5, cPRIV, sockInfo 2 n)
  else none

/-- The earlier item of R220; the source before the destination where both meet one item (log entry 24). -/
def firstFault (src dst : Option (Nat × Nat × Nat)) : Option (Nat × Nat × Nat) :=
  match src, dst with
  | some a, some b => if b.1 < a.1 then some b else some a
  | some a, none => some a
  | none, d => d

/-! ### Reading -/

/-- A register of the current window; one of a lent window reads UNB (06 R295). -/
def Cell.readReg (x : Cell) (n : Nat) : TWord :=
  if n < 0x10 then x.reg n
  else if x.isLent x.win then unb 0
  else x.reg (winKey x.win (n - 0x10))

/-- An outstanding operation of a unit: false GA, true FX. -/
def Cell.busyOp (x : Cell) (fx : Bool) : Bool := x.ops.any fun o => o.fx == fx && o.level == x.level

/-- The sprig waits for the Shepherd to answer an epoch request (10 R1025). -/
def State.epochPending (s : State) (c : Nat) : Bool :=
  match (s.cell c).sprig, s.lvl c with
  | some n, .l0 => s.shep.reqs.any fun r => r.by' == some (s.handle n)
  | _, _ => false

/-- A read of a result socket of GA or FX, which waits for the latest operation and is recorded as its first reader
(04 R173; 07 R339). -/
def readResult (m : Mv) (fx : Bool) (sock dst : Nat) (s : State) : Out TWord :=
  let x := s.cell m.c
  if x.busyOp fx then
    .wait (s.modCell m.c fun x => { x with ops := x.ops.map fun o =>
      if o.fx = fx ∧ o.level = x.level ∧ o.readDst = none then { o with readDst := some dst } else o })
  else .ok (x.sock x.level sock) s

/-- The state of the page a CODE word addresses, as SY.CPGET delivers it (04 R208). -/
def pageState (w : TWord) (s : State) : TWord :=
  if w.t = tCODE ∧ s.codeWindow w.p then fix (if s.codeExec.contains (w.p / 16384) then 0 else 1) else unb 0

/-- SY.WREG j of the target that SY.WIN selects (06 R319 to R322). -/
def readWreg (x : Cell) (j : Nat) : TWord :=
  let w := x.sock x.level 0x620
  let save := fun l =>
    let v := x.save.get l
    if j = 0 then v.pc else if j = 1 then v.st else if j = 2 then v.cause else if j = 3 then v.info
    else if j = 4 then v.ml else if j = 5 then v.win else unb 0
  if w.t ≠ tFIX then unb 0
  else if w.p < 8 then x.reg (winKey w.p j)
  else if w.p = 8 then (if j < 8 then mk tRAW (x.link j) else unb 0)
  else if w.p = 9 then
    (if j = 0 then rawW (windowMap x none) else if j = 1 then rawW x.dirty.toNat else unb 0)
  else if w.p = 10 then (if j < 5 then x.sock (levelOf j) 0x320 else unb 0)
  else if w.p = 12 then save .l1
  else if w.p = 13 then save .l2
  else if w.p = 14 then save .l3
  else if w.p = 15 then save .ln
  else unb 0

/-- A read of a socket that the checks allow. `dst` is the destination of the reading move. -/
def readSock (m : Mv) (n dst : Nat) (s : State) : Out TWord :=
  let x := s.cell m.c
  let l := x.level
  if n < 0x20 then .ok (x.readReg n) s
  else if n < 0x30 then .ok (mk tFLO (AMap.get 0#64 x.fregs (n - 0x20))) s
  else if n = 0x1F0 then readResult m false n dst s
  else if n = 0x260 then readResult m true n dst s
  else if n = 0x3F0 then (if s.epochPending m.c then .wait s else .ok (x.sock l n) s)
  else if n = 0x408 then .ok (stampW s.now) s
  else if n = 0x409 then .ok (evtW (match x.sprig with | some k => (s.slot k).pend.toNat | none => 0)) s
  else if n = 0x40A then .ok (match x.sprig with | some k => s.handle k | none => unb 0) s
  else if n = 0x40B then .ok (fix (m.c : Int)) s
  else if 0x441 ≤ n ∧ n ≤ 0x447 then .ok (boolW ((x.preds.get l).getLsbD (n - 0x440))) s
  else if n = 0x448 then .ok (fix ((x.preds.get l).toNat / 2 * 2 : Nat)) s
  else if n = 0x450 then .ok (rawW (x.ustat.get l).toNat) s
  else if n = 0x600 then .ok (rawW x.stw) s
  else if 0x601 ≤ n ∧ n ≤ 0x604 then .ok (x.vbase.get (levelOf (n - 0x600))) s
  else if n = 0x608 then .ok x.tdbase s
  else if n = 0x609 then .ok x.gatebase s
  else if n = 0x612 then .ok (pageState (x.sock l 0x610) s) s
  else if 0x630 ≤ n ∧ n ≤ 0x63F then .ok (readWreg x (n - 0x630)) s
  else if n = 0x640 then .ok x.fpown s
  else .ok (x.sock l n) s

/-! ### What operand sockets accept (05 R219; 07 R332, R379; 04 R208; 03 R153) -/

def isFixIn (w : TWord) (lo hi : Int) : Bool := w.t == tFIX && decide (lo ≤ w.i) && decide (w.i ≤ hi)
def isBitsWord (w : TWord) : Bool := w.t == tFIX || w.t == tRAW

/-- The words SY.WREG j accepts, under the target of SY.WIN (06 R321; 07 R340). -/
def acceptsWreg (x : Cell) (j : Nat) (w : TWord) : Bool :=
  let t := x.sock x.level 0x620
  if t.t ≠ tFIX then true
  else if t.p = 9 ∧ j = 1 then isBitsWord w
  else if 12 ≤ t.p then
    if j = 0 then w.t == tCODE && decide (w.p % 4 = 0)
    else if j = 1 ∨ j = 4 then isBitsWord w
    else true
  else true

/-- The word is one that a register or an operand socket accepts. SY.FPOWN takes a SPRG or UNB payload 0 (log entry
23). -/
def accepts (x : Cell) (n : Nat) (w : TWord) : Bool :=
  if n < 0x20 then true
  else if n < 0x30 then w.t == tFLO
  else if n < 0x200 then true
  else if n = 0x261 ∨ n = 0x262 then isBitsWord w
  else if n < 0x280 then w.t == tFLO
  else if n = 0x284 ∨ n = 0x294 then w.t == tVEC || w.t == tSTR || w.t == tCLO
  else if n = 0x290 ∨ n = 0x292 then w.t == tCONS
  else if n = 0x295 ∨ n = 0x2A2 then w.t == tFIX
  else if n = 0x297 then w.t == tBOX
  else if n = 0x2A8 then w.t == tCODE
  else if n = 0x300 ∨ n = 0x303 ∨ n = 0x306 then w.t == tFIX
  else if n = 0x302 ∨ n = 0x305 then w.t == tCONS || w.t == tVEC || w.t == tBOX
  else if n = 0x310 then w.t == tCODE
  else if n = 0x318 ∨ n = 0x31A then w.t == tVEC
  else if n = 0x386 then isFixIn w 0 63
  else if n = 0x3C8 then w.t == tFIX && w.payload &&& 0x37#64 == w.payload
  else if n = 0x401 then w.t == tEVT
  else if n = 0x403 then
    w.t == tSPRG || (w.t == tFIX && decide (w.p < 65536) && decide (w.p % 256 ≤ w.p / 256))
  else if n = 0x448 ∨ n = 0x450 then isBitsWord w
  else if n = 0x600 then isBitsWord w
  else if 0x601 ≤ n ∧ n ≤ 0x604 then w.t == tCODE && decide (w.p % 4096 = 0)
  else if n = 0x608 then w.t == tCODE && decide (w.p % 8192 = 0)
  else if n = 0x609 then w.t == tCODE && decide (w.p % 1024 = 0)
  else if n = 0x610 then w.t == tCODE
  else if n = 0x620 then isFixIn w 0 15 && decide (w.p ≠ 11)
  else if 0x630 ≤ n ∧ n ≤ 0x63F then acceptsWreg x (n - 0x630) w
  else if n = 0x640 then w.t == tSPRG || w == unb 0
  else if n = 0x700 then isBitsWord w && decide (w.p < 2 ^ 40)
  else if n = 0x701 then w.t == tBOOL
  else true

/-! ### Writing registers and operand sockets -/

/-- SY.WREG j of the selected target is written (06 R300, R320 to R322; 07 R340). -/
def writeWreg (x : Cell) (j : Nat) (w : TWord) : Cell :=
  let t := x.sock x.level 0x620
  let save := fun l =>
    let v := x.save.get l
    let v' := if j = 0 then { v with pc := w } else if j = 1 then { v with st := rawW w.p }
      else if j = 2 then { v with cause := w } else if j = 3 then { v with info := w }
      else if j = 4 then { v with ml := rawW w.p } else v
    { x with save := x.save.set l v' }
  if t.t ≠ tFIX then x
  else if t.p < 8 then x.setReg (winKey t.p j) w
  else if t.p = 8 then (if j < 8 then x.setLink j w.payload else x)
  else if t.p = 9 then (if j = 1 then { x with dirty := w.payload.setWidth 36 } else x)
  else if t.p = 10 then (if j < 5 then x.setSock (levelOf j) 0x320 w else x)
  else if t.p = 12 then save .l1
  else if t.p = 13 then save .l2
  else if t.p = 14 then save .l3
  else if t.p = 15 then save .ln
  else x

/-- A write to SY.ST (07 R327 to R329). At level 0 it leaves FPA and can clear SUP. -/
def writeSt (c : Nat) (w : TWord) (s : State) : Out Unit :=
  let x := s.cell c
  let exact := bits w.p 7 7
  if exact ≠ b2n x.exact ∧ (x.ops.any fun o => o.level == x.level) then .wait s
  else .ok () (s.modCell c fun x =>
    let x := x.setSt x.level 9 7 (bits w.p 9 7)
    if x.level = .l0 then (if bits w.p 3 3 = 0 then x.setSt .l0 3 3 0 else x)
    else x.setSt x.level 10 10 (bits w.p 10 10))

/-- A write to USTAT: flags of operations that are still in flight and came earlier are overwritten (R272). -/
def writeUstat (w : TWord) (x : Cell) : Cell :=
  { x with ustat := x.ustat.set x.level (BitVec.ofNat 2 w.p),
           ops := x.ops.map fun o => if o.level = x.level then { o with setOv := false, setDz := false } else o }

/-- Store a word in a register or an operand socket that accepts it. -/
def writeOperand (c n : Nat) (w : TWord) (s : State) : Out Unit :=
  let w := w.plain
  let set := fun (f : Cell → Cell) => (Out.ok () (s.modCell c f) : Out Unit)
  if n < 0x10 then set fun x => x.setReg n w
  else if n < 0x20 then
    (claimWindow c s).andThen fun _ s => .ok () (s.modCell c fun x => x.setReg (winKey x.win (n - 0x10)) w)
  else if n < 0x30 then set fun x => { x with fregs := AMap.put 0#64 x.fregs (n - 0x20) w.payload }
  else if n = 0x261 then set fun x => x.setSock x.level n (rawW (w.p % 16))
  else if n = 0x262 then set fun x => x.setSock x.level n (rawW (w.p % 32))
  else if 0x441 ≤ n ∧ n ≤ 0x447 then set fun x =>
    let p := setBits (x.preds.get x.level).toNat (n - 0x440) (n - 0x440) (b2n w.truth)
    { x with preds := x.preds.set x.level (BitVec.ofNat 8 p) }
  else if n = 0x448 then set fun x => { x with preds := x.preds.set x.level (BitVec.ofNat 8 (w.p % 256 / 2 * 2)) }
  else if n = 0x450 then set (writeUstat w)
  else if n = 0x600 then writeSt c w s
  else if 0x601 ≤ n ∧ n ≤ 0x604 then set fun x => { x with vbase := x.vbase.set (levelOf (n - 0x600)) w }
  else if n = 0x608 then set fun x => { x with tdbase := w }
  else if n = 0x609 then set fun x => { x with gatebase := w }
  else if 0x630 ≤ n ∧ n ≤ 0x63F then set fun x => writeWreg x (n - 0x630) w
  else if n = 0x640 then set fun x => { x with fpown := w }
  else set fun x => x.setSock x.level n w

/-- An operand socket that still holds a word its entry refuses makes the trigger a TAGMISS, whose first operand tag is
that word's (R219; 07 R339; log entry 77). -/
def needOperands (m : Mv) (trig : Nat) (ns : List Nat) (s : State) (f : State → Out Ctl) : Out Ctl :=
  let x := s.cell m.c
  match ns.find? fun n => !accepts x n (x.sock x.level n) with
  | none => f s
  | some n => tagmiss trig (x.sock x.level n) s

/-- The word held in an operand socket of the current level. -/
def State.opnd (s : State) (c n : Nat) : TWord := (s.cell c).sock (s.lvl c) n

end Sys2Proof.Machine
end

