-- ==== Sys2Proof/Machine/Calls.lean ====
section
/-!
DEFINITION. Code space as data (04 R201 to R207; 19 R931), calls and dispatch frames (06
R279, R282).
-/
namespace Sys2Proof.Machine

/-- The 32-bit word at a code address of a cell. -/
def State.codeWord (s : State) (c a : Nat) : W32 :=
  if c < wardenCell then BitVec.ofNat 32 (dramLe s (s.codeAt a) 4)
  else if a < 2 ^ 20 then BitVec.ofNat 32 (Memory.le 0#8 s.wmem a 4)
  else BitVec.ofNat 32 (leNat ((List.range 4).map fun k => Config.maskRom (a - 0xFFFF0000 + k)))

/-- The code page of an address is in EXEC (04 R203); the Warden's pages always are (19 R931). -/
def State.execPage (s : State) (c a : Nat) : Bool := decide (c ≥ wardenCell) || s.codeExec.contains (a / 16384)

/-- SV_INFO of CODEW (07 R339). -/
def codewInfo (access a : Nat) (exec : Bool) : Nat := access + b2n exec * 4 + a % 2 ^ 32 * 2 ^ 32

/-- A code load (04 R207): the cell's own buffered store to the address, else the word in memory. -/
def codeLoad (c a : Nat) (s : State) : Out W32 :=
  if s.fetchable c a then
    match (s.cell c).sbuf.reverse.find? fun e => e.code && e.addr == a with
    | some e => .ok (e.word.payload.setWidth 32) s
    | none => .ok (s.codeWord c a) s
  else .exc cCODEW (codewInfo 1 a false) s

/-- Take the next window for a frame of the current level: its link word, and registers as (index, word) (R278, R279,
R280, R282). -/
def callWindow (m : Mv) (link : W64) (regs : List (Nat × TWord)) (s : State) : Out Unit :=
  let x := s.cell m.c
  let n := (x.win + 1) % 8
  let go := fun (s : State) =>
    (Out.ok () (s.modCell m.c fun x =>
      let l := x.level
      let x := x.initWindow n l link
      let x := regs.foldl (fun x r => x.setReg (winKey n r.1) r.2) x
      x.setSt l 2 0 n) : Out Unit)
  if x.owner n = none then go s
  else (vacate m.c n true false s).andThen fun _ s => go s

/-- A free word: what a register holds that the spec leaves undefined (log entry 2). No register holds FWD. -/
def State.freeWord (s : State) : TWord × State :=
  let (t, s) := s.takeFree
  let (p, s) := s.takeFree
  let t := t.toNat % 64
  (Sys2Proof.mk (if t = tFWD then Sys2Proof.tRAW else t) p, s)

end Sys2Proof.Machine
end

