-- ==== Sys2Proof/Machine/UnitArith.lean ====
section
/-!
DEFINITION. The triggers of GA, FX and TG (03 R118 to R157; 05 R222 to R235), and the completion of operations.
-/
namespace Sys2Proof.Machine

/-- SV_INFO of a TAGMISS that GA finds (07 R339): operand tags, 0x3F for no second operand. -/
def gaInfo (sock n : Nat) (a b : TWord) (reason : Nat) : Nat :=
  let (t1, t2) := if gaUnary n then (b.t, 0x3F) else (a.t, b.t)
  sock + t1 * 2 ^ 12 + t2 * 2 ^ 18 + reason * 2 ^ 24

/-- An operation starts (04 R177, R178): with EXACT set the move completes with it, else it is in flight. -/
def startOp (m : Mv) (o : PendOp) (s : State) : Out Ctl :=
  if (s.cell m.c).exact then
    if o.exc = 0 then okNext (s.modCell m.c (finishOp o)) else .exc o.exc (opInfo o) s
  else okNext (s.modCell m.c fun x => { x with ops := x.ops ++ [o] })

/-- A GA miss: dispatch through the table at SY.TDBASE, or TAGMISS (03 R153 to R155; 06 R282). -/
def gaMiss (m : Mv) (n : Nat) (a b : TWord) (s : State) : Out Ctl :=
  let sock := 0x101 + 2 * n
  let x := s.cell m.c
  let first := if gaUnary n then b else a
  let miss := fun (s : State) => (Out.exc cTAGMISS (gaInfo sock n a b 0) s : Out Ctl)
  if x.tdbase.t ≠ tCODE ∨ x.tdbase.p = 0 ∨ isReservedTag first.t ∨ (!gaUnary n ∧ isReservedTag b.t) then miss s
  else
    let n' := (x.win + 1) % 8
    (if s.loaded m.c 0x005 then vacate m.c n' true false s else .ok () s).andThen fun _ s =>
    routine m.c ⟨0x005, a, b, 0, false⟩ s fun s =>
    (codeLoad m.c (x.tdbase.p + (n * 64 + first.t) * 4) s).andThen fun e s =>
      let target := e.toNat / 4 * 4
      if e = 0#32 then miss s
      else
        let regs := [(0, first), (1, if gaUnary n then unb 0 else b), (2, fix (n : Int)), (3, unb 0)]
        (callWindow m (linkOf (m.pc + m.len) sock true true) regs s).andThen fun _ s => .ok (.goto target) s

/-- The write of GA's trigger of operation n (05 R222; 03 R121 to R151, R154). -/
def gaTrigger (m : Mv) (n : Nat) (b : TWord) (s : State) : Out Ctl :=
  let x := s.cell m.c
  let a := x.sock x.level (0x100 + 2 * n)
  let op : PendOp := ⟨false, n, unb 0, false, false, 0, 0, m.pc, 0, none, x.level⟩
  match gaOp n a b with
  | .miss => gaMiss m n a b s
  | .reject => .exc cTAGMISS (gaInfo (0x101 + 2 * n) n a b 1) s
  | .divz => startOp m (if x.dze then { op with exc := cDIVZ } else { op with setDz := true }) s
  | .val w ov => startOp m (if ov && x.ovfe then { op with exc := cOVF } else { op with res := w, setOv := ov }) s

/-- The operand sockets of an FX trigger, A first (05 R225). -/
def fxSocks (t : Nat) : List Nat :=
  if t = 0x20C then [0x20A, 0x20B]
  else if fxOperands.contains (t - 1) then [t - 1]
  else []

/-- The payload in operand socket k of an FX trigger; 0 where it has none. -/
def Cell.fxVal (x : Cell) (t k : Nat) : W64 :=
  match (fxSocks t)[k]? with
  | some n => (x.sock x.level n).payload
  | none => 0#64

/-- The write of an FX trigger (05 R225 to R232). -/
def fxTrigger (m : Mv) (t : Nat) (b : TWord) (s : State) : Out Ctl :=
  let want := if t = 0x21B then tFIX else tFLO
  if b.t ≠ want then tagmiss t b s
  else needOperands m t (fxSocks t) s fun s =>
    let x := s.cell m.c
    let ctl := (x.sock x.level 0x261).p
    let (w, f) := fxOp (t - 0x200) (rmOf (ctl % 4)) (x.fxVal t 0) b.payload (x.fxVal t 1)
    let op : PendOp := ⟨true, t - 0x200, w, false, false, f.toNat, 0, m.pc, 0, none, x.level⟩
    startOp m (if f.of' && ctl.testBit 2 then { op with exc := cOVF }
      else if f.dz && ctl.testBit 3 then { op with exc := cDIVZ } else op) s

/-- The write of a TG trigger (05 R233 to R235). -/
def tgTrigger (m : Mv) (t : Nat) (w : TWord) (s : State) : Out Ctl :=
  let res := fun (r : TWord) (s : State) => okNext (s.result m.c 0x3B0 r)
  if t = 0x381 then
    if !isFixIn w 0 63 then tagmiss t w s
    else match tagCheck w.p (s.cell m.c).sup with
      | 0 => res (Sys2Proof.mk w.p (s.opnd m.c 0x380).payload) s
      | 1 => priv 2 t s
      | _ => .exc cTAGMISS (t + w.p * 2 ^ 12 + 0x3F * 2 ^ 18 + 2 * 2 ^ 24) s
  else if t = 0x383 then res (fix (w.t : Int)) s
  else if t = 0x385 then res (Sys2Proof.mk tRAW w.payload) s
  else if t = 0x387 then
    needOperands m t [0x386] s fun s => res (boolW ((s.opnd m.c 0x386).p == w.t)) s
  else if t = 0x389 then res (fix (classCode w.t : Int)) s
  else res (boolW (isPtrTag w.t)) s

/-- The oldest operation of a unit in flight completes: its result, or its exception at the first move not completed
(04 R177, R198). -/
def completeOp (c : Nat) (fx : Bool) (s : State) : State :=
  match (s.cell c).ops.find? fun o => o.fx == fx && o.level == s.lvl c with
  | none => s
  | some o =>
    let s := s.modCell c fun x => { x with ops := x.ops.erase o }
    if o.exc = 0 then s.modCell c (finishOp o)
    else
      let pc := (s.cell c).firstOpen
      opException c o pc (s.modCell c fun x => { x with early := [], defer := none })

end Sys2Proof.Machine
end

