-- ==== Sys2Proof/Machine/UnitMem.lean ====
section
/-!
DEFINITION. The triggers of LX and MX (05 R236 to R246; 06 R304 to R310; 08 R419 to R424).
-/
namespace Sys2Proof.Machine

/-- Words of a heap object the XG2560 holds after the header at most (09 R441). -/
def maxLen : Nat := 65534

/-- A load that takes the read barrier's slow path runs RBAR (08 R419; 09 R456 to R460). -/
def slowLoad (s : State) (a : Nat) : Bool :=
  let w := s.memWord a
  !s.resident (pageOf a) || w.t == tFWD
    || (isPtrTag w.t && decide (s.heap.phase = .roots ∨ s.heap.phase = .mark) && s.condemned (pageOf (addrOf w)))

def loadField (c sock a : Nat) (s : State) : Out TWord :=
  if slowLoad s a then nativeRoutine c 0x004 s fun s => loadWord c (s.cellEpoch c) sock a s
  else loadWord c (s.cellEpoch c) sock a s

/-- A store that takes the write barrier's slow path runs WBAR (08 R419; 09 R453). -/
def slowStore (s : State) (a : Nat) (w : TWord) : Bool :=
  decide (s.heap.phase = .roots ∨ s.heap.phase = .mark)
    && (isPtrTag w.t || isPtrTag (s.memWord a).t || (s.memWord a).t == tFWD)

def storeField (c sock a : Nat) (w : TWord) (s : State) : Out Unit :=
  if slowStore s a w then nativeRoutine c 0x003 s fun s => storeWord c (s.cellEpoch c) sock a w s
  else storeWord c (s.cellEpoch c) sock a w s

/-- HEAPF with reason bounds; its address is that of the object's header (log entry 26). -/
def bounds {α : Type} (sock a : Nat) (s : State) : Out α := heapf 2 sock a s

/-- Deliver a result to a socket. -/
def deliver (m : Mv) (sock : Nat) (o : Out TWord) : Out Ctl :=
  o.andThen fun w s => okNext (s.result m.c sock w)

/-- Deliver NIL after a store. -/
def deliverNil (m : Mv) (sock : Nat) (o : Out Unit) : Out Ctl :=
  o.andThen fun _ s => okNext (s.result m.c sock nil)

/-- The code word in word 1 of a closure (R249; 09 R443). -/
def cloCode (c sock : Nat) (w : TWord) (s : State) : Out TWord :=
  (objAt c sock w false s).andThen fun o s =>
    if o.2 < 1 then bounds sock o.1 s
    else (loadField c sock (o.1 + 1) s).andThen fun k s =>
      if k.t = tCODE then .ok k s else heapf 6 sock o.1 s

/-- The heap word of element i of a vector or string, or of slot i of a closure (R236). -/
def elemAddr (c sock : Nat) (o i : TWord) (store : Bool) (s : State) : Out Nat :=
  (objAt c sock o store s).andThen fun a s =>
    let skip := if o.t = tCLO then 1 else 0
    match boundsIndex i (a.2 - skip) with
    | some k => .ok (a.1 + 1 + skip + k) s
    | none => bounds sock a.1 s

/-- ALLOC of an object of LEN len; the Spinner itself serves a large one (09 R450). -/
def allocRoutine (c len : Nat) (opa opb : TWord) (s : State) (f : State → Out TWord) : Out TWord :=
  if 1 + len ≤ 256 then routine c ⟨0x002, opa, opb, 0, false⟩ s f else nativeRoutine c 0x002 s f

/-- Allocate an object of a length that must not be negative or above a limit (R237; 09 R441). -/
def allocLen (m : Mv) (sock kind extra limit : Nat) (n opa opb : TWord) (first fill : TWord) (s : State) : Out Ctl :=
  if 0 ≤ n.i ∧ n.i ≤ (limit : Int) then
    deliver m 0x2F0 (allocRoutine m.c (n.i.toNat + extra) opa opb s fun s =>
      allocObj m.c (s.cellEpoch m.c) sock kind (n.i.toNat + extra) first fill s)
  else heapfAlloc 2 sock s

/-- The write of an LX trigger. -/
def lxTrigger (m : Mv) (t : Nat) (w : TWord) (s : State) : Out Ctl :=
  let c := m.c
  let field := fun (i : Nat) => deliver m 0x2F0 ((objAt c t w false s).andThen fun o s =>
    if i < o.2 then loadField c t (o.1 + 1 + i) s else bounds t o.1 s)
  let store := fun (opnd i : Nat) => needOperands m t [opnd] s fun s =>
    deliverNil m 0x2F0 ((objAt c t (s.opnd c opnd) true s).andThen fun o s =>
      if i < o.2 then storeField c t (o.1 + 1 + i) w s else bounds t o.1 s)
  if t = 0x281 ∨ t = 0x283 then
    if w.t = tNIL then okNext (s.result c 0x2F0 nil)
    else if w.t = tCONS then field ((t - 0x281) / 2)
    else tagmiss t w s
  else if t = 0x285 then
    if w.t ≠ tFIX then tagmiss t w s
    else needOperands m t [0x284] s fun s =>
      deliver m 0x2F0 ((elemAddr c t (s.opnd c 0x284) w false s).andThen fun a s => loadField c t a s)
  else if t = 0x287 then
    if w.t = tVEC ∨ w.t = tSTR ∨ w.t = tCLO then
      deliver m 0x2F0 ((objAt c t w false s).andThen fun o s =>
        .ok (fix ((o.2 : Int) - (if w.t = tCLO then 1 else 0))) s)
    else tagmiss t w s
  else if t = 0x289 then (if w.t = tBOX then field 0 else tagmiss t w s)
  else if t = 0x28B then (if w.t = tCLO then deliver m 0x2F0 (cloCode c t w s) else tagmiss t w s)
  else if t = 0x291 then store 0x290 0
  else if t = 0x293 then store 0x292 1
  else if t = 0x296 then
    needOperands m t [0x294, 0x295] s fun s =>
      let o := s.opnd c 0x294
      if o.t = tSTR ∧ w.t ≠ tCHR then tagmiss t w s
      else deliverNil m 0x2F0 ((elemAddr c t o (s.opnd c 0x295) true s).andThen fun a s => storeField c t a w s)
  else if t = 0x298 then store 0x297 0
  else if t = 0x2A1 then
    deliver m 0x2F0 (routine c ⟨0x001, s.opnd c 0x2A0, w, 0, false⟩ s fun s =>
      allocObj c (s.cellEpoch c) t kPair 2 (s.opnd c 0x2A0) w s)
  else if t = 0x2A3 then
    needOperands m t [0x2A2] s fun s => allocLen m t kVec 0 maxLen (s.opnd c 0x2A2) (s.opnd c 0x2A2) w w w s
  else if t = 0x2A5 then
    (if w.t ≠ tFIX then tagmiss t w s else allocLen m t kStr 0 maxLen w (unb 0) w (mkN tCHR 0) (mkN tCHR 0) s)
  else if t = 0x2A7 then
    deliver m 0x2F0 (allocRoutine c 1 (unb 0) w s fun s => allocObj c (s.cellEpoch c) t kBox 1 w w s)
  else
    if w.t ≠ tFIX then tagmiss t w s
    else needOperands m t [0x2A8] s fun s => allocLen m t kClo 1 (maxLen - 1) w (s.opnd c 0x2A8) w (s.opnd c 0x2A8) (unb 0) s

/-! ### Mask-driven save and restore (06 R301 to R311) -/

/-- The groups of a mask, ascending. -/
def maskGroups (mask : Nat) : List Nat := (List.range 36).filter fun g => mask.testBit g

def Cell.setMl (x : Cell) (m : Option (BitVec 36)) : Cell := { x with mlPend := m }

/-- Words of group g as MX.SAVE stores them (R306). -/
def groupWords (x : Cell) (g : Nat) : List TWord :=
  if g ≥ 4 ∧ x.owner ((g - 4) / 4) = none then List.replicate 4 (unb 0)
  else (List.range 4).map fun k => x.reg (4 * g + k)

/-- The link word that goes with a group, if one does. -/
def groupLink (x : Cell) (g : Nat) : Option TWord :=
  if g ≥ 4 ∧ g % 4 = 0 then
    some (if x.owner ((g - 4) / 4) = none then rawW 0 else mk tRAW (x.link ((g - 4) / 4)))
  else none

/-- A group is transferred: its bit leaves the pending mask and its dirty bit clears (R303, R308). -/
def groupDone (c g : Nat) (s : State) : State :=
  s.modCell c fun x =>
    (x.setMl (x.mlPend.map fun m => BitVec.ofNat 36 (setBits m.toNat g g 0))).markDirty g false

def saveGroups (c a : Nat) : List Nat → State → Out Unit
  | [], s => .ok () s
  | g :: gs, s =>
    let x := s.cell c
    let e := s.cellEpoch c
    (storeMany c e 0x319 (a + 1 + 4 * g) (groupWords x g) s).andThen fun _ s =>
      (storeMany c e 0x319 (a + 1 + 144 + (g - 4) / 4) (groupLink x g).toList s).andThen fun _ s =>
        saveGroups c a gs (groupDone c g s)

def restGroups (c a : Nat) : List Nat → State → Out Unit
  | [], s => .ok () s
  | g :: gs, s =>
    let e := s.cellEpoch c
    (loadMany c e 0x31B 4 (a + 1 + 4 * g) s).andThen fun ws s =>
      (loadMany c e 0x31B (if g ≥ 4 ∧ g % 4 = 0 then 1 else 0) (a + 1 + 144 + (g - 4) / 4) s).andThen fun ls s =>
        let s := s.modCell c fun x =>
          let x := (List.range 4).foldl (fun x k => x.setReg (4 * g + k) (ws.getD k (unb 0))) x
          match ls with
          | l :: _ => x.setLink ((g - 4) / 4) (if l.t = tRAW then l.payload else 0#64)
          | [] => x
        restGroups c a gs (groupDone c g s)

/-- End a transfer: nothing is pending unless the move waits and will issue again (R309). -/
def endTransfer (c : Nat) (o : Out Unit) : Out Unit :=
  match o with
  | .ok _ s => .ok () (s.modCell c fun x => x.setMl none)
  | .exc k i s => .exc k i (s.modCell c fun x => x.setMl none)
  | o => o

/-- MX.SAVE and MX.REST: the mask ANDed with what an interrupted run left (R304 to R310). -/
def transferMask (m : Mv) (t opnd entry : Nat) (w : TWord) (run : Nat → List Nat → State → Out Unit)
    (s : State) : Out Ctl :=
  let c := m.c
  if !(w.t == tFIX && decide (w.p < 2 ^ 36)) then tagmiss t w s
  else needOperands m t [opnd] s fun s =>
    let mask := match (s.cell c).mlPend with
      | some p => w.payload.setWidth 36 &&& p
      | none => w.payload.setWidth 36
    let body := fun (s : State) => (objAt c t (s.opnd c opnd) (t == 0x319) s).andThen fun o s =>
      if o.2 < 152 then bounds t o.1 s else run o.1 (maskGroups mask.toNat) s
    deliverNil m 0x370 (endTransfer c
      (routine c ⟨entry, s.opnd c opnd, w, 0, false⟩ (s.modCell c fun x => x.setMl (some mask)) body))

/-! ### MX (05 R241 to R246) -/

/-- The heap word at an offset of a pair, vector or box (R242). -/
def offsetAddr (c sock : Nat) (o i : TWord) (store : Bool) (s : State) : Out Nat :=
  (objAt c sock o store s).andThen fun a s =>
    match boundsIndex i a.2 with
    | some k => .ok (a.1 + 1 + k) s
    | none => bounds sock a.1 s

/-- A store into code space (04 R202, R206; 10 R545). -/
def codeStore (m : Mv) (a : Nat) (w : TWord) (s : State) : Out Unit :=
  if s.cellEpoch m.c ≠ 0 then .stall s
  else if m.c ≥ wardenCell ∨ !s.codeWindow a then .exc cCODEW (codewInfo 2 a false) s
  else if s.codeExec.contains (a / 16384) then .exc cCODEW (codewInfo 2 a true) s
  else if (s.cell m.c).sbufFull then .wait s
  else .ok () (s.pushStore m.c true a (rawW (w.p % 2 ^ 32)))

/-- The write of an MX trigger. -/
def mxTrigger (m : Mv) (t : Nat) (w : TWord) (s : State) : Out Ctl :=
  let c := m.c
  let pairVecBox := w.t == tCONS || w.t == tVEC || w.t == tBOX
  if t = 0x301 then
    if pairVecBox then
      deliver m 0x370 ((offsetAddr c t w (s.opnd c 0x300) false s).andThen fun a s => loadField c t a s)
    else tagmiss t w s
  else if t = 0x304 then
    needOperands m t [0x302] s fun s => deliverNil m 0x370
      ((offsetAddr c t (s.opnd c 0x302) (s.opnd c 0x303) true s).andThen fun a s => storeField c t a w s)
  else if t = 0x308 then
    needOperands m t [0x305] s fun s => deliver m 0x370
      ((offsetAddr c t (s.opnd c 0x305) (s.opnd c 0x306) true s).andThen fun a s =>
        (casWord c (s.cellEpoch c) t a (s.opnd c 0x307) w s).andThen fun b s => .ok (boolW b) s)
  else if t = 0x30A then
    if (s.cell c).sbuf.isEmpty then okNext (s.result c 0x370 nil) else .wait s
  else if t = 0x311 then
    if !isBitsWord w then tagmiss t w s
    else needOperands m t [0x310] s fun s => deliverNil m 0x370 (codeStore m (s.opnd c 0x310).p w s)
  else if t = 0x313 then
    if w.t ≠ tCODE then tagmiss t w s
    else deliver m 0x370 ((codeLoad c w.p s).andThen fun v s => .ok (rawW v.toNat) s)
  else if t = 0x319 then transferMask m t 0x318 0x007 w (saveGroups c) s
  else transferMask m t 0x31A 0x008 w (restGroups c) s

end Sys2Proof.Machine
end

