-- ==== Sys2Proof/Machine/UnitBr.lean ====
section
/-!
DEFINITION. The triggers of BR: jumps, calls, returns, gates, sprigs and epochs (05 R247 to R257; 06 R279 to R284; 07
R379 to R382; 10 R496 to R535).
-/
namespace Sys2Proof.Machine

/-- The code address in a CODE word: bits [31:2] (03 R105; log entry 28). -/
def codeTarget (w : TWord) : Nat := w.p % 2 ^ 32 / 4 * 4

/-- An ochre sprig or handler runs on the cell. -/
def State.ochre (s : State) (c : Nat) : Bool := decide (s.cellEpoch c ≠ 0)

/-- The sprig of a cell: the one it runs, or ran when it left level 0 (R261). -/
def State.cellHandle (s : State) (c : Nat) : TWord :=
  match (s.cell c).sprig with
  | some n => s.handle n
  | none => unb 0

/-! ### Jumps, calls and returns -/

/-- Call a code address (06 R279, R280; R249): w8 to w11 go to w0 to w3 of the new window, w15 as given. -/
def callTo (m : Mv) (target : Nat) (w15 : TWord) (s : State) : Out Ctl :=
  let x := s.cell m.c
  let args := (List.range 4).map fun k => (k, x.readReg (0x18 + k))
  (callWindow m (linkOf (m.pc + m.len) 0 false true) (args ++ [(15, w15)]) s).andThen fun _ s =>
    .ok (.goto target) s

def brCall (m : Mv) (w : TWord) (s : State) : Out Ctl :=
  if w.t = tCODE then
    let (junk, s) := s.freeWord
    callTo m (codeTarget w) junk s
  else if w.t = tCLO then
    (cloCode m.c 0x3C1 w s).andThen fun k s => callTo m (codeTarget k) w s
  else tagmiss 0x3C1 w s

/-- The link word that acts for the current level: one of a lent window reads zero (06 R295). -/
def Cell.actingLink (x : Cell) : Nat := if x.isLent x.win then 0 else (x.link x.win).toNat

/-- Retreat to the previous window, obtained first when the level does not own it (06 R281, R1021). -/
def retreat (m : Mv) (s : State) : Out Unit :=
  let x := s.cell m.c
  let l := x.level
  let prev := (x.win + 7) % 8
  let go := fun (s : State) => (Out.ok () (s.modCell m.c fun y => (y.freeWindow x.win).setSt l 2 0 prev) : Out Unit)
  if x.owner prev = some l then go s
  else (obtainWindow m.c prev l s).andThen fun _ s => go s

/-- Before TRET starts, the window that it returns to is obtained (08 R422). -/
def obtainPrev (m : Mv) (s : State) : Out Unit :=
  let x := s.cell m.c
  if s.loaded m.c 0x006 then obtainWindow m.c ((x.win + 7) % 8) x.level s else .ok () s

/-- BR.RET (06 R281; R250). A Warden cell at level 0 runs no sprig that could end (log entry 25). -/
def brRet (m : Mv) (w : TWord) (s : State) : Out Ctl :=
  let x := s.cell m.c
  let lw := x.actingLink
  if lw.testBit 49 = false then
    match x.level, x.sprig with
    | .l0, some n => .ok .gone (exitSprig m.c n w s)
    | .l0, none => okNext s
    | _, _ => badsock 1 0x3C2 s
  else if lw.testBit 48 then badsock 1 0x3C2 s
  else if s.epochPending m.c then .wait s
  else (retreat m s).andThen fun _ s => .ok (.goto (lw % 2 ^ 32)) (s.result m.c 0x3F0 w)

/-- BR.TRET (06 R283; R251): the word becomes the result of GA, in place of any operation still in flight. -/
def brTret (m : Mv) (w : TWord) (s : State) : Out Ctl :=
  let lw := (s.cell m.c).actingLink
  if lw.testBit 49 && lw.testBit 48 then
    (obtainPrev m s).andThen fun _ s => routine m.c ⟨0x006, unb 0, w, 0, false⟩ s fun s => (retreat m s).andThen fun _ s =>
      let s := s.modCell m.c fun x =>
        { x with ops := x.ops.map fun o => if o.fx = false ∧ o.level = x.level then { o with res := w.plain } else o }
      .ok (.goto (lw % 2 ^ 32)) (s.result m.c 0x1F0 w)
  else badsock 1 0x3C3 s

def sysgate (g reason : Nat) (s : State) : Out Ctl := .exc cSYSGATE (g + reason * 256) s

/-- BR.ENTER (07 R379 to R382). Its reasons come in the order in which R381 lists the cases (log entry 27). -/
def brEnter (m : Mv) (w : TWord) (s : State) : Out Ctl :=
  let c := m.c
  let x := s.cell c
  if !isFixIn w 0 255 then tagmiss 0x3C4 w s
  else
    let g := w.p
    let a := x.gatebase.p % 2 ^ 32 + 4 * g
    if x.gatebase.t ≠ tCODE then sysgate g 1 s
    else if !s.fetchable c a then sysgate g 4 s
    else if !s.execPage c a then .wait s
    else (codeLoad c a s).andThen fun e s =>
      let e := e.toNat
      if e / 4 = 0 then sysgate g 2 s
      else if e % 2 = 0 ∧ x.sup = false then sysgate g 3 s
      else if e / 2 % 2 = 1 then sysgate g 5 s
      else (callTo m (e / 4 * 4) (boolW x.sup) s).andThen fun k s =>
        .ok k (s.modCell c fun y => y.setSt y.level 3 3 1)

/-! ### Sprigs -/

/-- The youngest open epoch that a sprig has opened (R510). -/
def State.youngestEpoch (s : State) (n : Nat) : Option Nat :=
  let mine := s.shep.epochs.filter fun e => e.2.opener = n ∧ e.2.openerGen = (s.slot n).gen
  (mine.foldl (fun (b : Option (Nat × Epoch)) e => match b with
    | none => some e
    | some d => if d.2.order < e.2.order then some e else b) none).map (·.1)

/-- The epoch of a new sprig (R510). -/
def State.spawnEpochOf (s : State) (c cls : Nat) : Nat :=
  match cls, (s.cell c).sprig with
  | 3, some n => (s.youngestEpoch n).getD (s.cellEpoch c)
  | _, _ => s.cellEpoch c

/-- IRQ13 (R529). -/
def State.irq13 (s : State) (reason slot : Nat) : State := s.irq 13 (reason + slot * 256)

/-- A failed spawn (R502, R530). IRQ13 names the spawner's slot (log entry 29). -/
def spawnFails (m : Mv) (s : State) : Out Ctl :=
  let s := s.bump F.SHP_SPAWNFAIL_CNT_COUNT F.SHP_STATUS_SPAWNFAIL_SAT
  let s := if s.bit F.SHP_CTL_DLIRQ then s.irq13 2 ((s.cell m.c).sprig.getD 0) else s
  okNext (s.result m.c 0x3F0 (unb 0))

/-- Make granule g the context record of a slot: a pinned vector of 255 elements (R520). -/
def State.giveCtx (s : State) (n g : Nat) : State :=
  let s := s.setGran g ⟨.used, s.heap.parity, 0, false⟩
  let s := s.heapFill (256 * g) (mkHdr pinned 255 kVec s.heap.parity false :: List.replicate 255 (unb 0))
  ((s.reportMove 2 0 0 2 256).modSlot n fun x => { x with ctx := some (256 * g) }).gcTrigger

/-- Create the sprig in a slot that has its context record (R253, R508 to R511; 11 R574). -/
def createSprig (m : Mv) (n code : Nat) (w15 : TWord) (s : State) : State :=
  let c := m.c
  let x := s.cell c
  let p := (s.opnd c 0x3C8).p
  let arg := s.opnd c 0x3C9
  let cls := bits p 5 4
  let e := s.spawnEpochOf c cls
  let st := setBits (setBits (x.stw &&& 0x388) 18 16 (bits p 2 0)) 15 12 e
  let spawner := s.cellHandle c
  let s := s.modSlot n fun y => { y with
    pri := bits p 2 0, cls := cls, epoch := e, grove := groveOf c, spawner := spawner, spawnEpoch := s.cellEpoch c,
    deadline := if cls = clsDeadline then some arg.p else none, noCtx := false }
  let s := match (s.slot n).ctx with
    | some a => s.freshContext a n st arg w15 code
    | none => s
  let s := s.makeReady n
  let s := s.report 4 0 [(0, 1), (3, 1)]
  let s := if e = 0 then s else s.report 7 e [(0, 1)]
  s.result c 0x3F0 (s.handle n)

/-- The slot a spawn takes, reclaimed if need be (R502). -/
def takeSlot (s : State) : Option (Nat × State) :=
  match s.freeSlotNo with
  | some n => some (n, s)
  | none => match s.oldestEnded with
    | some n => some (n, s.reclaim n)
    | none => none

def spawnAt (m : Mv) (code : Nat) (w15 : TWord) (s : State) : Out Ctl :=
  match takeSlot s with
  | none => spawnFails m s
  | some (n, s) =>
    if (s.slot n).ctx.isSome then okNext (createSprig m n code w15 s)
    else if (s.slot n).noCtx then spawnFails m (s.modSlot n fun x => { x with noCtx := false })
    else if (s.spinReqOf (.slot n)).isSome then .wait s
    else match s.pickGran (groveOf m.c) with
      | some g => okNext (createSprig m n code w15 (s.giveCtx n g))
      | none => .wait ((s.spinWait ⟨.slot n, kVec, 0, nil, nil, 0, s.heap.cycle.toNat⟩).gcTrigger)

/-- BR.SPAWN (R253, R254, R502, R508; 04 R185). -/
def brSpawn (m : Mv) (w : TWord) (s : State) : Out Ctl :=
  let c := m.c
  if w.t ≠ tCODE ∧ w.t ≠ tCLO then tagmiss 0x3CA w s
  else needOperands m 0x3CA [0x3C8] s fun s =>
    if bits (s.opnd c 0x3C8).p 5 4 = clsDeadline ∧ (s.opnd c 0x3C9).t ≠ tSTAMP then tagmiss 0x3CA w s
    else if !(s.cell c).sbuf.isEmpty || s.epochPending c then .wait s
    else if w.t = tCODE then spawnAt m (codeTarget w) (unb 0) s
    else (cloCode c 0x3CA w s).andThen fun k s => spawnAt m (codeTarget k) w s

/-- Cancel the live sprig of slot n (R503). -/
def cancelSprig (n : Nat) (s : State) : State :=
  match (s.slot n).state, (s.slot n).cell with
  | .running, some k =>
    if (s.cell k).level = .l0 then (s.dropSprig k).endSprig n (unb 3)
    else s.modSlot n fun x => { x with dropReq := true }
  | _, _ => s.endSprig n (unb 3)

/-- BR.CANCEL (R255, R503, R545). -/
def brCancel (m : Mv) (w : TWord) (s : State) : Out Ctl :=
  let c := m.c
  let n := sprgSlot w
  let res := fun (r : TWord) (s : State) => okNext (s.result c 0x3F0 r)
  if w.t ≠ tSPRG then tagmiss 0x3CB w s
  else if s.ochre c then .stall s
  else if s.epochPending c then .wait s
  else if s.stale w then res (unb 1) s
  else if !s.liveHandle w then res (boolW false) s
  else if (s.cell c).sprig = some n ∧ s.lvl c = .l0 then .ok .gone (exitSprig c n (unb 3) s)
  else res (boolW true) (cancelSprig n s)

/-- A trigger that is valid at level 0 only (R256). On a Warden cell at level 0, which runs no sprig, `alone` happens
(log entry 25). -/
def levelZero (m : Mv) (sock : Nat) (alone : State → Out Ctl) (f : Nat → State → Out Ctl) (s : State) : Out Ctl :=
  match (s.cell m.c).level, (s.cell m.c).sprig with
  | .l0, some n => f n s
  | .l0, none => alone s
  | _, _ => badsock 3 sock s

/-- BR.YIELD (R516). -/
def brYield (m : Mv) (s : State) : Out Ctl :=
  levelZero m 0x3CC okNext (fun n s => .ok .gone (leaveCell m.c n (m.pc + m.len) (fun s => s.makeReady n) s)) s

/-- BR.EXIT (R501, R504). -/
def brExit (m : Mv) (w : TWord) (s : State) : Out Ctl :=
  levelZero m 0x3CD okNext (fun n s => .ok .gone (exitSprig m.c n w s)) s

/-! ### Epochs -/

/-- The lowest-numbered free epoch (R531). -/
def State.freeEpoch (s : State) : Option Nat := (range' 1 15).find? fun e => !s.epochOpen e

/-- BR.SPECULATE (R257, R531, R532; 13 R673). -/
def brSpeculate (m : Mv) (s : State) : Out Ctl :=
  let no := fun (s : State) => okNext (s.result m.c 0x3F0 (unb 0))
  levelZero m 0x3D0 no (fun n s =>
    if s.epochPending m.c then .wait s
    else if s.mode ≠ .ivory ∨ !s.bit F.SHP_CTL_SPEC_EN ∨ s.shep.leavingIvory then no s
    else match s.freeEpoch with
      | none => no s
      | some e =>
        let x : Epoch := ⟨s.cellEpoch m.c, n, (s.slot n).gen, s.shep.epochOrder⟩
        let s := { s with shep := { s.shep with
          epochs := AMap.insert s.shep.epochs e x, epochOrder := s.shep.epochOrder + 1 } }
        okNext ((s.portReset e).result m.c 0x3F0 (fix (e : Int)))) s

/-- BR.ECONFIRM and BR.ESQUASH (R549, R556, R561, R1025): the request is accepted; its result comes later. -/
def brResolve (m : Mv) (sock : Nat) (squash : Bool) (w : TWord) (s : State) : Out Ctl :=
  if !isFixIn w 1 15 then tagmiss sock w s
  else
    let no := fun (s : State) => okNext (s.result m.c 0x3F0 (boolW false))
    levelZero m sock no (fun n s =>
      if s.epochPending m.c then .wait s
      else match s.shep.epochs.find? w.p with
        | some x =>
          if x.opener = n ∧ x.openerGen = (s.slot n).gen then okNext (s.epochRequest ⟨squash, w.p, some (s.handle n)⟩) else no s
        | none => no s) s

/-- The write of a BR trigger. -/
def brTrigger (m : Mv) (t : Nat) (w : TWord) (s : State) : Out Ctl :=
  if t = 0x3C0 then (if w.t = tCODE then .ok (.goto (codeTarget w)) s else tagmiss t w s)
  else if t = 0x3C1 then brCall m w s
  else if t = 0x3C2 then brRet m w s
  else if t = 0x3C3 then brTret m w s
  else if t = 0x3C4 then brEnter m w s
  else if t = 0x3C5 then okNext (s.modCell m.c fun x => { x with fetch := [] })
  else if t = 0x3CA then brSpawn m w s
  else if t = 0x3CB then brCancel m w s
  else if t = 0x3CC then brYield m s
  else if t = 0x3CD then brExit m w s
  else if t = 0x3D0 then brSpeculate m s
  else if t = 0x3D1 then brResolve m t false w s
  else brResolve m t true w s

end Sys2Proof.Machine
end

