-- ==== Sys2Proof/Machine/UnitEv.lean ====
section
/-!
DEFINITION. The triggers of EV (05 R258 to R270) and the code page, hold and return triggers of SY (04 R208 to R212; 07
R346 to R350, R360 to R364).
-/
namespace Sys2Proof.Machine

/-- Bits [55:0] of a mask. -/
def evMask : W64 := 0x00FFFFFFFFFFFFFF#64

/-- Take the bits of the sprig's pending set that are in a mask (R261, R262). -/
def takeEvents' (n : Nat) (mask : W64) (s : State) : W64 × State :=
  let got := (s.slot n).pend &&& mask
  (got, s.modSlot n fun x => { x with pend := x.pend &&& ~~~got })

/-- EV.RES delivers a mask. -/
def evResult (c : Nat) (v : W64) (s : State) : Out Ctl := okNext (s.result c 0x43F (Sys2Proof.mk tEVT v))

/-- A wait that is not yet satisfied: at level 0 the sprig blocks, elsewhere the cell waits in place (R261, R265; 10
R525). -/
def evBlock (m : Mv) (sock : Nat) (mask : W64) (stamp : Option Nat) (s : State) : Out Ctl :=
  match (s.cell m.c).level, (s.cell m.c).sprig with
  | .l0, some n =>
    .ok .gone (leaveCell m.c n m.pc (fun s => s.modSlot n fun x =>
      { x with state := .blocked, waitMask := some mask, waitStamp := stamp })
      (s.modSlot n fun x => { x with waitMask := some mask, waitStamp := stamp }))
  | _, _ => .wait (s.waitInPlace m sock mask.toNat stamp)

/-- A wait that completes: the record of what the sprig waited for is cleared. -/
def waitOver (c : Nat) (s : State) : State :=
  match (s.cell c).sprig with
  | some n => s.modSlot n fun x => { x with waitMask := none, waitStamp := none }
  | none => s

/-- EV.WAIT and EV.UNTIL with the mask they take (R262 to R264). -/
def evWait (m : Mv) (sock : Nat) (mask : W64) (stamp : Option Nat) (s : State) : Out Ctl :=
  let c := m.c
  let mask := mask &&& evMask
  let (got, s) := match (s.cell c).sprig with
    | some n => takeEvents' n mask s
    | none => (0#64, s)
  let due := match stamp with
    | some t => decide (t ≤ s.now)
    | none => decide (mask = 0#64) || (s.cell c).sprig.isNone
  if got ≠ 0#64 ∨ due then evResult c got (waitOver c s) else evBlock m sock mask stamp s

/-- The cell waits under R204 for a code page to become EXEC. -/
def State.waitsPatch (s : State) (k : Nat) : Bool :=
  let x := s.cell k
  (x.fetch.find? x.pc).isNone && s.fetchable k x.pc && !s.execPage k x.pc

/-- A cell acknowledges RESYNC at once (04 R212): out of placement, held, or waiting for its code page. -/
def State.acksAtOnce (s : State) (k : Nat) : Bool :=
  !s.inPlacement k || (s.cellsHeld && decide ((s.cell k).level = .l0)) || s.waitsPatch k

/-- RESYNC goes to one cell: it discards its fetch buffer now, or when the event arrives (04 R211, R212; 11 R576). -/
def sendResync (c k : Nat) (s : State) : State :=
  if k = c ∨ s.acksAtOnce k then
    (s.modCell k fun x => { x with fetch := [] }).report 6 0
      [(0, 1), (if s.inPlacement k then 1 else 3, 1)]
  else ({ s with resyncs := s.resyncs ++ [(c, k)] }).report 6 0 [(0, 1), (4, 1)]

/-- The cell waits for the discards of a RESYNC it has sent. -/
def Cell.resyncWait (x : Cell) : Bool :=
  match x.wait with
  | some w => w.sock == 0x404 && w.mask == 2 ^ 56
  | none => false

/-- EV.SEND to a cell range (R268). -/
def evSendCells (m : Mv) (t : TWord) (s : State) : Out Ctl :=
  let c := m.c
  let done := fun (s : State) => okNext (s.result c 0x43F (boolW true))
  let busy := fun (s : State) => s.resyncs.any fun p => p.1 == c
  if (s.cell c).resyncWait then (if busy s then .wait s else done s)
  else
    let s := (cellRange (t.p % 256) (t.p / 256 % 256)).foldl (fun s k => sendResync c k s) s
    if busy s then .wait (s.waitInPlace m 0x404 (2 ^ 56) none) else done s

/-- EV.SEND to a sprig (R267; 10 R545). -/
def evSendSprig (m : Mv) (t : TWord) (mask : W64) (s : State) : Out Ctl :=
  let c := m.c
  let res := fun (r : TWord) (s : State) => okNext (s.result c 0x43F r)
  if s.stale t then res (unb 1) s
  else if !s.liveHandle t then res (boolW false) s
  else if s.ochre c && !s.within (s.slot (sprgSlot t)).epoch (s.cellEpoch c) then .stall s
  else res (boolW true) (s.sendSprig t mask)

/-- EV.SEND (R267 to R270; 04 R185). -/
def evSend (m : Mv) (w : TWord) (s : State) : Out Ctl :=
  let c := m.c
  let t := s.opnd c 0x403
  let user := (s.cell c).sup = false
  if user ∧ (t.t = tFIX ∨ (t.t = tSPRG ∧ w.t = tEVT ∧ bits w.p 55 48 ≠ 0)) then priv 2 0x404 s
  else if w.t ≠ tEVT then tagmiss 0x404 w s
  else needOperands m 0x404 [0x403] s fun s =>
    if t.t = tFIX then
      if w.p ≠ 2 ^ 56 then tagmiss 0x404 w s
      else if s.ochre c then .stall s
      else if !(s.cell c).sbuf.isEmpty then .wait s
      else evSendCells m t s
    else if w.p ≥ 2 ^ 56 then tagmiss 0x404 w s
    else if !(s.cell c).sbuf.isEmpty then .wait s
    else evSendSprig m t w.payload s

/-- The write of an EV trigger. -/
def evTrigger (m : Mv) (t : Nat) (w : TWord) (s : State) : Out Ctl :=
  let c := m.c
  if t = 0x400 then (if w.t = tEVT then evWait m t w.payload none s else tagmiss t w s)
  else if t = 0x402 then
    if w.t ≠ tSTAMP then tagmiss t w s
    else needOperands m t [0x401] s fun s => evWait m t (s.opnd c 0x401).payload (some w.p) s
  else if t = 0x404 then evSend m w s
  else
    if w.t ≠ tEVT then tagmiss t w s
    else match (s.cell c).sprig with
      | some n =>
        let (got, s) := takeEvents' n w.payload s
        evResult c got s
      | none => evResult c 0#64 s

/-! ### Code pages -/

/-- Insert a page in the ascending list of the pages that are in EXEC. -/
def insertPage (p : Nat) : List Nat → List Nat
  | [] => [p]
  | q :: qs => if p < q then p :: q :: qs else if p = q then q :: qs else q :: insertPage p qs

def State.setExec (s : State) (p : Nat) : State := { s with codeExec := insertPage p s.codeExec }

/-- A store to a code page waits in some cell's store buffer (04 R210). -/
def State.codeStoresTo (s : State) (p : Nat) : Bool :=
  s.cells.any fun e => e.2.sbuf.any fun b => b.code && b.addr / 16384 == p

/-- SY.CPSET (04 R208 to R210; 10 R545). PATCH waits until CPSET_PATCH_COMPLETE answers the request. The reason of
the BADSOCK is open between 0 and 1 (log entry 73). -/
def cpset (m : Mv) (w : TWord) (s : State) : Out Ctl :=
  let a := s.opnd m.c 0x610
  if !isFixIn w 0 1 then badsock (s.takeFree.1.toNat % 2) 0x611 s.takeFree.2
  else if a.t ≠ tCODE then tagmiss 0x611 w s
  else if s.ochre m.c then .stall s
  else if !s.codeWindow a.p then .exc cCODEW (codewInfo 3 (a.p / 16384 * 16384) false) s
  else
    let p := a.p / 16384
    if w.p = 0 then (if s.codeStoresTo p then .wait s else okNext (s.setExec p))
    else if !s.codeExec.contains p then okNext s
    else if s.patchReqs.contains p then .wait s
    else .wait { s with patchReqs := insertPage p s.patchReqs }

/-! ### Hold and return -/

/-- SY.HOLD (07 R360, R361, R364). The move that opens the hold does not count among its n moves. -/
def syHold (m : Mv) (w : TWord) (s : State) : Out Ctl :=
  let x := s.cell m.c
  if !isFixIn w 0 512 then tagmiss 0x618 w s
  else if x.level ≠ .l0 ∧ x.level ≠ .l1 then badsock 3 0x618 s
  else if w.p = 0 then okNext (s.modCell m.c fun x => ({ x with hold := none }).setSt x.level 11 11 0)
  else if x.hold.isSome then okNext s
  else okNext (s.modCell m.c fun x =>
    ({ x with hold := some ⟨x.level, w.p + 1, s.now + 2000⟩ }).setSt x.level 11 11 1)

/-- SY.RETI (07 R346, R347). -/
def syReti (m : Mv) (s : State) : Out Ctl :=
  let l := s.lvl m.c
  if l = .l0 then badsock 3 0x619 s
  else match drainOps m.c s with
    | (s, some o) => .ok .gone (opException m.c o m.pc s)
    | (s, none) => .ok .gone (applyHold m.c (holdCell m.c (afterReturn m.c (returnFrom m.c l s))))

end Sys2Proof.Machine
end

