-- ==== Sys2Proof/Machine/Gc.lean ====
section
/-!
DEFINITION. The Spinner's service, the Gleaners' cycles and the Ferrymen (09 R446 to R484).
-/
namespace Sys2Proof.Machine

/-! ### Phases (R461 to R464, R471) -/

/-- The Gleaners work: cells 0 to 255 are not held (R463). -/
def State.gleaning (s : State) (p : Phase) : Bool := decide (s.heap.phase = p) && !s.cellsHeld

def State.setHeap (s : State) (f : Heap → Heap) : State := { s with heap := f s.heap }

/-- The root vector's address (R464 item 3). -/
def State.rootVec (s : State) : Nat :=
  s.actFld F.SPN_ROOT_L_ADDR_L + 2 ^ 32 * s.actFld F.SPN_ROOT_H_ADDR_H

/-- Granules of an open epoch, without the Painter ports. -/
def State.ochreGrans (s : State) : List Nat := (s.heap.grans.filter fun e => e.2.epoch ≠ 0).map (·.1)

/-- The word's referent in the collected region is effectively white. -/
def State.whiteRef (s : State) (w : TWord) : Bool :=
  isPtrTag w.t && decide (s.region (pageOf (addrOf w)) = .collected)
    && (let h := s.heapRead (addrOf w); h.t == tHDR && effWhite s.heap.parity h)

/-- The roots of items 2 to 6 of R464 that are not scanned. An ochre object or a logged word counts as scanned once
nothing it roots is white. -/
def State.openRoots (s : State) : List Root :=
  let done := fun (r : Root) => s.heap.rootsDone.contains r
  let ctxs := (s.shep.slots.filter fun e => e.2.state ≠ .free ∧ e.2.ctx.isSome).map fun e => Root.ctx e.1
  let vec := if s.rootVec = 0 then [] else [Root.vec]
  let fixed := [s.heapReg F.EVR_INBOX_L_ADDR_L F.EVR_INBOX_H_ADDR_H, s.heapReg F.EVR_SIGTAB_L_ADDR_L F.EVR_SIGTAB_H_ADDR_H]
  let regs := ((fixed.filter fun a => a ≠ 0) ++ s.heap.registered).map Root.registered
  let objs := ((s.ochreGrans.flatMap s.objects).filter fun f => f.hdr.t == tHDR && effWhite s.heap.parity f.hdr).map
    fun f => Root.obj f.addr
  let logs := (s.shep.log.filter fun x => s.whiteRef x.old || s.whiteRef x.new).map fun x => Root.log x.epoch x.addr
  ((ctxs ++ vec ++ regs).filter fun r => !done r) ++ objs ++ logs

/-- Cells in placement whose pause has not run to its end (R465, R467). -/
def State.openCells (s : State) : List Nat :=
  (List.range 256).filter fun c => (s.cell c).placed && !s.heap.scanned.contains c

/-- A phase ends when its work is done (R461). -/
def State.gcAdvance (s : State) : State :=
  match s.heap.phase with
  | .roots => if s.openCells.isEmpty && s.openRoots.isEmpty then s.setHeap fun h => { h with phase := .mark } else s
  | .relocate => if s.heap.condemned.isEmpty then s.setHeap fun h => { h with phase := .sweep } else s
  | .sweep => if s.heap.swept.length ≥ s.fld F.SPN_HEAP_PAGES_COUNT then s.setHeap fun h => { h with phase := .select }
    else s
  | _ => s

/-! ### Triggers (R462) -/

/-- A write of 1 to SPN_GC_CMD.START; while a cycle runs it is ignored. -/
def gcStartCmd (s : State) : State := if s.gcMay then s.gcStart else s

/-- The period has elapsed (R462). -/
def gcPeriod (s : State) : State :=
  let ms := s.actFld F.SPN_GC_PERIOD_MS
  if s.gcMay && decide (ms ≠ 0) && decide (s.heap.lastStart + ms * 1000000 ≤ s.now) then s.gcStart else s

/-! ### Roots (R464 to R468) -/

/-- Every word a cell holds in registers, windows, socket banks and save sets (R464 item 1). -/
def cellWords (x : Cell) : List TWord :=
  let sv := fun (v : SaveSet) => [v.pc, v.st, v.cause, v.info, v.ml, v.win]
  x.regs.map (·.2) ++ x.socks.map (·.2) ++ sv x.save.l1 ++ sv x.save.l2 ++ sv x.save.l3 ++ sv x.save.ln
    ++ x.ops.map (·.res)

/-- Shade the referent of a pointer-class word, and excuse it in a condemned page (R465). -/
def rootWord (grove : Nat) (s : State) (w : TWord) : State :=
  if isPtrTag w.t then
    let s := s.shade grove (addrOf w)
    if s.condemned (pageOf (addrOf w)) then s.excuse (addrOf w) else s
  else s

/-- The Gleaner scans a cell's roots in a pause at a level-0 boundary (R465, R467). -/
def rootPause (c : Nat) (s : State) : State :=
  let x := s.cell c
  if s.gleaning .roots && x.placed && decide (x.level = .l0) && x.hold.isNone && x.takeable.isNone
      && !s.heap.scanned.contains c then
    match toBoundary c s with
    | (s, false) => s
    | (s, true) =>
      let s := (cellWords (s.cell c)).foldl (rootWord (groveOf c)) s
      let s := s.retireSlab c
      (s.setHeap fun h => { h with scanned := h.scanned ++ [c] }).gcAdvance
  else s

/-- A Gleaner treats one field of an object (R469). -/
def scanField (grove a : Nat) (s : State) : State :=
  let w := s.heapRead a
  if isPtrTag w.t then
    let t := addrOf w
    let s := s.shade grove t
    if s.condemned (pageOf t) && !excused (s.heapRead t) then s.heapPut a (mkN tFWD t) else s
  else if w.t = tFWD then
    match s.resolveFwd (addrOf w) with
    | .ok r s => (s.heapPut a r).shade grove (addrOf r)
    | _ => s
  else s

def scanFields (grove a : Nat) : Nat → State → State
  | 0, s => s
  | n + 1, s => scanFields grove a n (scanField grove (a + 1 + n) s)

/-- The grove whose Larder slice holds a page, else grove 0: whose Gleaner scans a root that no cell holds. -/
def State.sliceOf (s : State) (page : Nat) : Nat := match s.binOf page with
  | some (n, _) => n / 128
  | none => 0

/-- An object that is a root: it is shaded, or its fields are scanned when it is pinned (R468). -/
def rootObject (a : Nat) (s : State) : State :=
  let g := s.sliceOf (pageOf a)
  let h := s.heapRead a
  if h.t = tHDR ∧ h.colour = pinned then scanFields g a (hdrLen h) s
  else rootWord g s (ptrTo (hdrKind h) a)

/-- A Gleaner scans one root of items 2 to 6 (R468). -/
def rootScan (r : Root) (s : State) : State :=
  if s.gleaning .roots && s.openRoots.contains r then
    let s := match r with
      | .ctx n => match (s.slot n).ctx with
        | some a => rootObject a s
        | none => s
      | .vec => rootObject s.rootVec s
      | .obj a => rootObject a s
      | .registered a => rootObject a s
      | .log e a => match s.logEntry e a with
        | some x => rootWord 0 (rootWord 0 s x.old) x.new
        | none => s
    (s.setHeap fun h => { h with rootsDone := h.rootsDone ++ [r] }).gcAdvance
  else s

/-! ### Marking (R469 to R471, R475) -/

/-- The entry is discarded: its granule is free or belongs to a squashed epoch (R475). -/
def State.deadEntry (s : State) (a : Nat) : Bool :=
  let g := s.gran (granOf a)
  decide (g.st = .free) || (decide (g.epoch ≠ 0) && !s.epochOpen g.epoch)

/-- A Gleaner takes the oldest entry of its queue (R469). -/
def gleanerScan (grove : Nat) (s : State) : State :=
  if s.gleaning .roots || s.gleaning .mark then
    match s.greyQueue grove with
    | [] => s
    | a :: q =>
      let s := s.setGreyQueue grove q
      let h := s.heapRead a
      if s.deadEntry a ∨ h.t ≠ tHDR then s
      else
        let s := scanFields grove a (hdrLen h) s
        let h := s.heapRead a
        (if h.colour = grey then s.heapPut a { h with colour := black } else s).gcAdvance
  else s

/-- The fullest queue of another grove, the lowest grove among equals. -/
def State.fullest (s : State) (grove : Nat) : Nat :=
  ((List.range 16).filter (· ≠ grove)).foldl (fun b g =>
    if b = grove ∨ (s.greyQueue g).length > (s.greyQueue b).length then g else b) grove

/-- An idle Gleaner takes the oldest half of the fullest other queue, at most 512 entries (R470). -/
def greySteal (grove : Nat) (s : State) : State :=
  if (s.gleaning .roots || s.gleaning .mark) && (s.greyQueue grove).isEmpty then
    let v := s.fullest grove
    let q := s.greyQueue v
    let n := min 512 (q.length / 2)
    (s.setGreyQueue v (q.drop n)).setGreyQueue grove (q.take n)
  else s

/-- Grey objects of a page whose overflow flag is set are pushed again (R470). -/
def rescanPage (page : Nat) (s : State) : State :=
  ([4 * page, 4 * page + 1, 4 * page + 2, 4 * page + 3].flatMap s.objects).foldl (fun s f =>
    if f.hdr.t = tHDR ∧ f.hdr.colour = grey ∧ hdrM f.hdr = s.heap.parity then s.greyPush (s.sliceOf page) f.addr
    else s) s

/-- The Gleaners agree that marking is complete, once no page carries an overflow flag (R452, R470, R471). -/
def markEnd (s : State) : State :=
  if s.gleaning .mark then
    if !s.heap.overflow.isEmpty then
      let ps := s.heap.overflow
      ps.foldl (fun s p => rescanPage p s) (s.setHeap fun h => { h with overflow := [] })
    else if s.heap.grey.isEmpty && s.openRoots.isEmpty then
      let s := s.setHeap fun h => { h with
        phase := .relocate
        grans := (h.grans.map fun e => (e.1, { e.2 with held := false })).filter fun e => e.2 ≠ Gran.fresh }
      s.gcAdvance
    else s
  else s

/-! ### Relocation (R472) -/

/-- A Gleaner's slab with room for n words, a new one if need be; none when no granule is free. -/
def gleanerRoom (grove n : Nat) (s : State) : Option (Nat × State) :=
  let fresh := fun (s : State) => match s.pickGran grove with
    | none => none
    | some g =>
      let s := s.setGran g ⟨.gleanerSlab grove, s.heap.parity, 0, false⟩
      let s := s.setHeap fun h => { h with gslabs := AMap.insert h.gslabs grove (g, 256 * g + n) }
      some (256 * g, s.reportMove 2 0 0 1 256)
  match s.heap.gslabs.find? grove with
  | none => fresh s
  | some (g, p) =>
    if p + n ≤ 256 * g + 256 then
      some (p, s.setHeap fun h => { h with gslabs := AMap.insert h.gslabs grove (g, p + n) })
    else
      let s := fillRun 1 p (256 * g + 256) s
      let s := s.setGran g { s.gran g with st := .used }
      let s := s.setHeap fun h => { h with gslabs := AMap.erase h.gslabs grove }
      fresh (s.reportMove 2 0 1 0 (256 * g + 256 - p))

/-- An object that RELOCATE moves (R472). -/
def State.movable (s : State) (f : Found) : Bool :=
  f.hdr.t == tHDR && hdrKind f.hdr != kFill && !effWhite s.heap.parity f.hdr && !excused f.hdr
    && f.hdr.colour != pinned && !hdrLarge f.hdr

/-- The objects of a page's granules. -/
def State.pageObjects (s : State) (page : Nat) : List Found :=
  [4 * page, 4 * page + 1, 4 * page + 2, 4 * page + 3].flatMap s.objects

/-- Move one object (R472 items 1 to 4). -/
def moveObject (grove : Nat) (f : Found) (s : State) : State :=
  match gleanerRoom grove f.size s with
  | none => s
  | some (b, s) =>
    let body := (List.range (f.size - 1)).map fun k => s.heapRead (f.addr + 1 + k)
    let s := s.heapFill b (mkHdr black (f.size - 1) (hdrKind f.hdr) s.heap.parity false :: body)
    let s := s.heapPut (f.addr + 1) (mkHdr black (f.size - 2) kFill s.heap.parity false)
    let s := s.heapPut f.addr (mkN tFWD b)
    let s := s.reportMove 2 0 1 2 f.size
    s.setHeap fun h => { h with
      relocated := if h.relocated.contains (pageOf f.addr) then h.relocated else h.relocated ++ [pageOf f.addr] }

/-- A Gleaner takes the next object of a condemned page, or ends the page (R472). -/
def relocate (page : Nat) (s : State) : State :=
  if s.gleaning .relocate && s.condemned page then
    match (s.pageObjects page).find? s.movable with
    | some f => moveObject (page % 16) f s
    | none =>
      let s := (s.pageObjects page).foldl (fun s f =>
        if f.hdr.t = tHDR ∧ hdrExc f.hdr then s.heapPut f.addr (hdrSet f.hdr 21 false) else s) s
      (s.setHeap fun h => { h with condemned := h.condemned.filter (· ≠ page) }).gcAdvance
  else s

/-! ### Sweep and selection (R473, R474) -/

/-- Words of an object that SWEEP turns into filler: none for what stays. -/
def State.sweeps (s : State) (f : Found) : Bool :=
  if f.hdr.t = tFWD then hdrM (s.heapRead (f.addr + 1)) != s.heap.parity
  else hdrKind f.hdr != kFill && effWhite s.heap.parity f.hdr

/-- SWEEP of one granule (R473). -/
def sweepGran (g : Nat) (s : State) : State :=
  let x := s.gran g
  match x.st with
  | .used =>
    if x.epoch ≠ 0 then s
    else
      let dead := (s.objects g).filter s.sweeps
      let n := dead.foldl (fun n f => n + f.size) 0
      let s := dead.foldl (fun s f => s.heapPut f.addr (mkHdr black (f.size - 1) kFill s.heap.parity false)) s
      let s := s.reportMove 2 0 2 0 n
      if s.liveWords g = 0 then s.setGran g Gran.fresh else s
  | .largeHead =>
    let w := s.heapRead (256 * g)
    if x.epoch = 0 ∧ w.t = tHDR ∧ effWhite s.heap.parity w then
      (s.freeLarge (g / 4) (hdrLen w) false).reportMove 2 0 2 0 (1 + hdrLen w)
    else s
  | _ => s

/-- SWEEP of one page (R473). -/
def sweepPage (page : Nat) (s : State) : State :=
  if s.gleaning .sweep && decide (s.region page = .collected) && !s.heap.swept.contains page then
    let s := [4 * page, 4 * page + 1, 4 * page + 2, 4 * page + 3].foldl (fun s g => sweepGran g s) s
    (s.setHeap fun h => { h with swept := h.swept ++ [page] }).gcAdvance
  else s

/-- Marked words of a page; the word of an object of LEN 0 counts (R472, R474). -/
def State.markedWords (s : State) (page : Nat) : Nat :=
  ((s.pageObjects page).filter fun f => f.hdr.t == tHDR && hdrKind f.hdr != kFill
    && (!effWhite s.heap.parity f.hdr || hdrLen f.hdr == 0)).foldl (fun n f => n + f.size) 0

/-- A page that may be condemned (R474). -/
def State.condemnable (s : State) (page : Nat) : Bool :=
  let gs := [4 * page, 4 * page + 1, 4 * page + 2, 4 * page + 3]
  (gs.all fun g => let x := s.gran g; decide (x.epoch = 0) && (decide (x.st = .free) || decide (x.st = .used)))
    && (s.pageObjects page).all (fun f => !(f.hdr.t == tHDR && f.hdr.colour == pinned))
    && !s.heap.relocated.contains page

/-- Insert a page by live count, then by number. -/
def insertCount (x : Nat × Nat) : List (Nat × Nat) → List (Nat × Nat)
  | [] => [x]
  | y :: ys => if x.1 < y.1 ∨ (x.1 = y.1 ∧ x.2 < y.2) then x :: y :: ys else y :: insertCount x ys

/-- SELECT: the condemned set of the next cycle, then IDLE, then any trigger of R462 (R474, R1020). -/
def gcSelect (s : State) : State :=
  if s.gleaning .select then
    let s := transfer 4 .gcSelect s
    let pages := (range' (s.fld F.SPN_HEAP_BASE_PAGE) (s.fld F.SPN_HEAP_PAGES_COUNT)).filter s.condemnable
    let low := (pages.map fun p => (s.markedWords p, p)).filter fun x =>
      x.1 * 100 ≤ s.actFld F.SPN_GC_CTL_EVAC_PCT * 1024
    let order := low.foldl (fun l x => insertCount x l) []
    let set := (order.take (s.actFld F.SPN_GC_CTL_EVAC_MAX)).map (·.2)
    let s := s.setHeap fun h => { h with condemned := set, phase := .idle }
    (transfer 4 .gcEnd s).gcTrigger
  else s

/-! ### The Spinner's answers (R446, R447, R450, R451) -/

/-- Serve the oldest request for a slab or a context record (R447, R520). -/
def slabRefill (s : State) : State :=
  match s.heap.reqs.find? fun r => r.len = 0 with
  | none => s
  | some r =>
    let grove := match r.who with
      | .cell c => groveOf c
      | .slot n => (s.slot n).grove
      | .ring _ => 0
    match s.pickGran grove with
    | none => s.gcTrigger
    | some g =>
      let s := s.dropReq r.who
      match r.who with
      | .cell c => s.giveSlab c g r.epoch
      | .slot n => s.giveCtx n g
      | .ring _ => s

/-- Answer a request. -/
def State.answer (s : State) (who : SpinWho) (a : SpinAnswer) : State :=
  match who with
  | .cell c => s.modCell c fun x => { x with answer := some a }
  | .slot n => s.modSlot n fun x => { x with noCtx := true }
  | .ring n => s.setHeap fun h => { h with answers := AMap.insert h.answers n a }

/-- Give n pages from page p to a SCENE command: they count as a slab of the endpoint (12 R629, R630). -/
def State.givePages (s : State) (order p n : Nat) : State :=
  let s := (List.range (4 * n)).foldl (fun s k => s.setGran (4 * p + k) ⟨.ringSlab order, s.heap.parity, 0, false⟩) s
  (s.reportMove 2 0 0 1 (1024 * n)).gcTrigger

/-- Serve the oldest request for a large object (R450). -/
def largeAlloc (s : State) : State :=
  match s.heap.reqs.find? fun r => r.len ≠ 0 with
  | none => s
  | some r => match s.pickRun (largePages r.len) with
    | none => s.gcTrigger
    | some p =>
      let s := s.dropReq r.who
      let s := match r.who with
        | .ring n => s.givePages n p (largePages r.len)
        | _ => s.putLarge p r.kind r.len r.first r.fill r.epoch
      s.answer r.who (.large (1024 * p) r.len)

/-- A cycle that started after the request has completed its SWEEP (R451). -/
def State.sweptSince (s : State) (r : SpinReq) : Bool :=
  let c := s.heap.cycle.toNat
  decide (r.cycle + 1 < c) || (decide (r.cycle < c) && decide (s.heap.phase = .idle ∨ s.heap.phase = .select))

/-- No granule or run of pages serves the request now. -/
def State.unservable (s : State) (r : SpinReq) : Bool :=
  if r.len = 0 then (s.pickGran 0).isNone else (s.pickRun (largePages r.len)).isNone

/-- The oldest request that is to be answered as exhausted (R451). -/
def heapExhausted (s : State) : State :=
  match s.heap.reqs.find? fun r => s.unservable r && (s.exhaustNow r || s.sweptSince r) with
  | none => s
  | some r => ((s.dropReq r.who).answer r.who .exhausted).exhaust

/-- The heap word address in SPN_PIN_L and SPN_PIN_H. -/
def State.pinAddr (s : State) : Nat := s.heapReg F.SPN_PIN_L_ADDR_L F.SPN_PIN_H_ADDR_H

/-- Pin or unpin the object at SPN_PIN (R446). -/
def pinObject (pin : Bool) (s : State) : State :=
  let a := s.pinAddr
  let h := s.heapRead a
  if h.t = tHDR then
    s.heapPut a (if pin then { h with colour := pinned } else { hdrSet h 20 s.heap.parity with colour := black })
  else s

/-! ### The Ferrymen (R477 to R484) -/

/-- A page that has backing and is not poisoned. -/
def State.pageable (s : State) (page : Nat) : Bool :=
  decide (s.region page ≠ .unmapped) && !s.unbacked page && !s.heap.poison.contains page

/-- An access from a grove to a page that is not resident (R477). -/
def pageInRequest (grove page : Nat) (s : State) : State :=
  if s.pageable page then s.requestPage page grove else s

/-- The request at the head of a queue leaves it, and the next one starts. -/
def popFry (f : Nat) (s : State) : State := (s.setFryQueue f (s.fryQueue f).tail).fryStart f

/-- A Ferryman completes the page-in at the head of its queue (R480, R484). A page that the Stage-2 stream has still to
write waits (18 R898): `ready` says that it has been written. -/
def pageInComplete (ready : Nat → Bool) (f : Nat) (bad : Bool) (s : State) : State :=
  match s.fryQueue f with
  | [] => s
  | r :: _ =>
    if s.resident r.page then popFry f s
    else if !ready r.page then s
    else match s.binOf r.page with
      | some (_, b) => if b.transit && b.next.isNone then popFry f (s.finishPageIn r.page bad) else s
      | none => s.fryStart f

/-- The victim of the request at the head of a queue is written back (R479). -/
def pageWriteBack (f : Nat) (s : State) : State :=
  match s.fryQueue f with
  | [] => s
  | r :: _ => match List.find? (fun e => e.2.next == some r.page) s.heap.bins with
    | some e => s.finishWriteBack e.2.page
    | none => s

/-- A load has waited 20 µs while every bin is pinned or in transit (R482 reason 1). -/
def binTimeout (c : Nat) (s : State) : State :=
  match (s.cell c).pageWait with
  | some (a, t) =>
    if s.running c && s.binsBusy && !s.resident (pageOf a) && decide (t + 20000 ≤ s.now) then
      raiseSync c cBINX (binxInfo 1 a) (s.cell c).pc s
    else s
  | none => s

/-- Make a page resident in a pinned bin (R481). -/
def pinPage (page : Nat) (s : State) : State :=
  if s.pageable page then
    let s := if s.resident page then s
      else
        let s := s.startTransit page 0
        let s := match List.find? (fun e => e.2.next == some page) s.heap.bins with
          | some e => s.finishWriteBack e.2.page
          | none => s
        s.finishPageIn page false
    match s.binOf page with
    | some (n, b) => if b.transit then s else s.setBin n (some { b with pinned := true })
    | none => s
  else s

/-- A page is no longer held; the bin is resident and evictable. -/
def unpinPage (page : Nat) (s : State) : State :=
  match s.binOf page with
  | some (n, b) => s.setBin n (some { b with pinned := false })
  | none => s

/-- A write of FRY_PINn (R481). -/
def fryPin (n : Nat) (v : W32) (s : State) : State :=
  let was := s.bit (F.FRY_PIN_EN n)
  let old := s.fld (F.FRY_PIN_PAGE n)
  let s := s.setReg (F.FRY_PIN_PAGE n).off (v &&& 0xBFFFFFFF#32)
  let others := (List.range 32).any fun k => s.bit (F.FRY_PIN_EN k) && s.fld (F.FRY_PIN_PAGE k) == old
  let s := if was && !others then unpinPage old s else s
  if s.bit (F.FRY_PIN_EN n) then pinPage (s.fld (F.FRY_PIN_PAGE n)) s else s

end Sys2Proof.Machine
end

