-- ==== Sys2Proof/Machine/Paint.lean ====
section
/-!
DEFINITION. What a Painter paints: display lists, transform, coverage and blending of one tile (13 R657 to R665, R674,
R678).
-/
namespace Sys2Proof.Machine

/-! ### Exact arithmetic -/

/-- The nearest integer to n / d, ties to even; d is positive. -/
def roundEven (n d : Nat) : Nat :=
  let q := n / d
  let r := n % d
  if 2 * r < d then q else if d < 2 * r then q + 1 else if q % 2 = 0 then q else q + 1

/-- Fraction bits of the Painters' coordinates: a Q16.16 point times a Q32.32 scale times a Q64 cosine. -/
abbrev fracBits : Nat := 112

/-- 2π with 128 fraction bits. -/
def twoPi : Int := 2138057168129933495719360746323741566601

/-- Terms of the series of sine and cosine: x with 128 fraction bits, the term last added and its index. -/
def trigSeries (x : Int) : Nat → Nat → Int → Int → Int → Int × Int
  | 0, _, _, c, sn => (c, sn)
  | n + 1, k, term, c, sn =>
    let t := term * x / (2 ^ 128 * ((k : Int) + 1))
    let j := k + 1
    if j % 4 = 0 then trigSeries x n j t (c + t) sn
    else if j % 4 = 1 then trigSeries x n j t c (sn + t)
    else if j % 4 = 2 then trigSeries x n j t (c - t) sn
    else trigSeries x n j t c (sn - t)

/-- Cosine and sine, with 64 fraction bits, of an angle of f / 2^32 of a quarter turn. -/
def quarterTrig (f : Nat) : Int × Int :=
  let (c, sn) := trigSeries (twoPi * (f : Int) / 2 ^ 34) 60 0 (2 ^ 128) (2 ^ 128) 0
  ((c + 2 ^ 63) / 2 ^ 64, (sn + 2 ^ 63) / 2 ^ 64)

/-- Cosine and sine of an angle of q / 2^32 turns: exact at quarter turns, otherwise to 64 fraction bits (log entry
34). -/
def turnTrig (q : Int) : Int × Int :=
  let f := (q % 2 ^ 32).toNat
  let (c, sn) := if f % 2 ^ 30 = 0 then (((2 ^ 64 : Nat) : Int), (0 : Int)) else quarterTrig (4 * (f % 2 ^ 30))
  match f / 2 ^ 30 with
  | 0 => (c, sn) | 1 => (-sn, c) | 2 => (-c, -sn) | _ => (sn, -c)

/-- A point or vector with fracBits fraction bits. -/
structure Pt where
  x : Int
  y : Int
  deriving DecidableEq, Repr

def Pt.sub (a b : Pt) : Pt := ⟨a.x - b.x, a.y - b.y⟩
def Pt.dot (a b : Pt) : Int := a.x * b.x + a.y * b.y
def Pt.cross (a b : Pt) : Int := a.x * b.y - a.y * b.x

/-- A PT2 word's coordinates, Q16.16 (03 R105). -/
def pt2 (w : TWord) : Int × Int :=
  ((BitVec.ofNat 32 (w.p / 2 ^ 32)).toInt, (BitVec.ofNat 32 w.p).toInt)

/-- The current transform: translation Q16.16, scale and rotation Q32.32 (R662). -/
structure Xform where
  tx : Int
  ty : Int
  scale : Int
  turn : Int
  deriving DecidableEq, Repr

def Xform.ident : Xform := ⟨0, 0, 2 ^ 32, 0⟩

/-- Translation + scale × rotate (R662). -/
def Xform.apply (t : Xform) (p : Int × Int) : Pt :=
  let (c, sn) := turnTrig t.turn
  ⟨t.tx * 2 ^ 96 + t.scale * (p.1 * c - p.2 * sn), t.ty * 2 ^ 96 + t.scale * (p.1 * sn + p.2 * c)⟩

/-- A length Q32.32 under the transform's scale. -/
def Xform.len (t : Xform) (l : Int) : Int := (t.scale.natAbs : Int) * l * 2 ^ 48

/-! ### Shapes (R661, R663) -/

/-- The sign of a quantity at a sample moved by an infinitesimal step to the right and a smaller one down: the value,
then its change to the right, then its change downward. A sample on an edge is thereby inside when the shape lies to its
right, or below a horizontal edge (log entry 35). -/
def shifted (v dx dy : Int) : Bool :=
  if 0 < v then true else if v < 0 then false
  else if 0 < dx then true else if dx < 0 then false else decide (0 < dy)

/-- Winding number contribution of an edge at a sample. -/
def windEdge (q a b : Pt) : Int :=
  if a.y ≤ q.y ∧ q.y < b.y then
    (if 0 < (b.x - a.x) * (q.y - a.y) - (q.x - a.x) * (b.y - a.y) then 1 else 0)
  else if b.y ≤ q.y ∧ q.y < a.y then
    (if 0 < (a.x - b.x) * (q.y - b.y) - (q.x - b.x) * (a.y - b.y) then -1 else 0)
  else 0

def windFrom (q first : Pt) : List Pt → Int
  | [] => 0
  | [a] => windEdge q a first
  | a :: b :: l => windEdge q a b + windFrom q first (b :: l)

inductive Shape where
  | poly (ps : List Pt)
  | line (a b : Pt) (width : Int)
  | arc (centre : Pt) (inner outer : Int) (start finish : Int × Int) (wide full : Bool)
  deriving DecidableEq, Repr

/-- A sample lies in the rectangle of a width centred on a segment. -/
def inLine (a b : Pt) (width : Int) (q : Pt) : Bool :=
  let d := b.sub a
  let r := q.sub a
  let t := r.dot d
  let len2 := d.dot d
  let c := d.cross r
  let h := width * width * len2
  shifted t d.x d.y && shifted (len2 - t) (-d.x) (-d.y)
    && (if 4 * c * c < h then true else if h < 4 * c * c then false
        else decide (0 < len2) && (if 0 < c then shifted 0 d.y (-d.x) else shifted 0 (-d.y) d.x))

/-- A sample is clockwise of a direction by less than half a turn. -/
def clockwiseOf (u : Int × Int) (d : Pt) : Bool := shifted (u.1 * d.y - u.2 * d.x) (-u.2) u.1

/-- A sample lies in the annular sector. -/
def inArc (centre : Pt) (inner outer : Int) (u v : Int × Int) (wide full : Bool) (q : Pt) : Bool :=
  let d := q.sub centre
  let r2 := d.dot d
  let within := decide (0 < outer) && shifted (outer * outer - r2) (-d.x) (-d.y)
    && (decide (inner ≤ 0) || shifted (r2 - inner * inner) d.x d.y)
  let past := clockwiseOf u d
  let before := !clockwiseOf v d
  within && (full || (if wide then past || before else past && before))

def Shape.has (sh : Shape) (q : Pt) : Bool :=
  match sh with
  | .poly ps => match ps with
    | [] => false
    | p :: _ => decide (windFrom q p ps ≠ 0)
  | .line a b w => inLine a b w q
  | .arc c i o u v wide full => inArc c i o u v wide full q

/-- Sample points of a pixel inside a shape, of 16 (R663). -/
def Shape.coverage (sh : Shape) (px py : Nat) : Nat :=
  ((List.range 16).filter fun k =>
    sh.has ⟨((8 * px + 2 * (k % 4) + 1 : Nat) : Int) * 2 ^ (fracBits - 3),
            ((8 * py + 2 * (k / 4) + 1 : Nat) : Int) * 2 ^ (fracBits - 3)⟩).length

/-! ### Pixels (R657, R664) -/

structure Px where
  r : Nat
  g : Nat
  b : Nat
  a : Nat
  deriving DecidableEq, Repr

/-- The channels of an RGBA word. -/
def rgba (w : TWord) : Px := ⟨bits w.p 31 24, bits w.p 23 16, bits w.p 15 8, bits w.p 7 0⟩

/-- Premultiply, to nearest, ties to even. -/
def Px.premul (p : Px) : Px :=
  ⟨roundEven (p.r * p.a) 255, roundEven (p.g * p.a) 255, roundEven (p.b * p.a) 255, p.a⟩

/-- Paint a source colour with coverage k = kn / kd of 16 over a premultiplied pixel (R664). -/
def Px.over (src dst : Px) (kn kd : Nat) : Px :=
  let n := src.a * kn
  let d := 16 * 255 * kd
  let f := fun (s t : Nat) => roundEven (s * n + t * (d - n)) d
  ⟨f src.r dst.r, f src.g dst.g, f src.b dst.b, f 255 dst.a⟩

def Px.bytes (p : Px) : List Byte :=
  [BitVec.ofNat 8 p.r, BitVec.ofNat 8 p.g, BitVec.ofNat 8 p.b, BitVec.ofNat 8 p.a]

/-! ### Reading the heap (R665, R667, R678) -/

/-- A heap word as a Painter reads it, with a FWD resolved; none for what would be HEAPF or BINX for a cell. -/
def State.paintRead (s : State) (a : Nat) : Option TWord :=
  if s.region (pageOf a) = .unmapped ∨ s.heap.poison.contains (pageOf a)
      ∨ (!s.resident (pageOf a) ∧ s.unbacked (pageOf a)) then none
  else
    let w := s.memWord a
    if w.t = tFWD then
      match s.resolveFwd (addrOf w) with
      | .ok r _ => some r
      | _ => none
    else some w

/-- Address and length of the object a pointer word names. -/
def State.paintObj (s : State) (w : TWord) : Option (Nat × Nat) :=
  if !w.canonical then none
  else match s.paintRead (addrOf w) with
    | none => none
    | some _ =>
      let h := s.heapRead (addrOf w)
      let a := if h.t = tFWD then addrOf h else addrOf w
      let h := s.heapRead a
      if h.t = tHDR ∧ hdrKind h + 0x08 = w.t then some (a, hdrLen h) else none

/-- The elements of an object, or status 5. -/
def State.paintElems (s : State) (w : TWord) : Except Nat (List TWord) :=
  match s.paintObj w with
  | none => .error 5
  | some (a, n) => match (List.range n).mapM fun i => s.paintRead (a + 1 + i) with
    | some ws => .ok ws
    | none => .error 5

/-! ### Commands (R661, R662, R664, R665) -/

/-- The state of a display list's execution for one tile: transform, clip (corner and far corner, Q16.16), pixels in
raster order. -/
structure Canvas where
  xf : Xform
  clip : Option ((Int × Int) × (Int × Int))
  px : List Px
  deriving DecidableEq, Repr

/-- The pixel lies inside the clip: its centre does (log entry 36). -/
def inClip (clip : Option ((Int × Int) × (Int × Int))) (x y : Nat) : Bool :=
  match clip with
  | none => true
  | some (lo, hi) =>
    let cx : Int := (x : Int) * 65536 + 32768
    let cy : Int := (y : Int) * 65536 + 32768
    decide (lo.1 ≤ cx) && decide (cx < hi.1) && decide (lo.2 ≤ cy) && decide (cy < hi.2)

/-- Apply a function of a pixel's place to every pixel of the tile at (col, row). -/
def mapPixels (col row : Nat) (f : Nat → Nat → Px → Px) (l : List Px) : List Px :=
  l.mapIdx fun i p => f (32 * col + i % 32) (32 * row + i / 32) p

def Canvas.shape (c : Canvas) (col row : Nat) (sh : Shape) (src : Px) : Canvas :=
  { c with px := mapPixels col row (fun x y p => if inClip c.clip x y then src.over p (sh.coverage x y) 1 else p) c.px }

/-- IMAGE and GLYPH: sources laid out w to a row from the integer part of the transformed corner. -/
def Canvas.sprite (c : Canvas) (col row w : Nat) (corner : Int × Int) (src : List (Px × Nat × Nat)) : Canvas :=
  let o := c.xf.apply corner
  let x0 := o.x / 2 ^ fracBits
  let y0 := o.y / 2 ^ fracBits
  { c with px := mapPixels col row (fun x y p =>
      let i := (x : Int) - x0
      let j := (y : Int) - y0
      if inClip c.clip x y ∧ 0 ≤ i ∧ i < (w : Int) ∧ 0 ≤ j then
        match src[j.toNat * w + i.toNat]? with
        | some (q, kn, kd) => q.over p kn kd
        | none => p
      else p) c.px }

/-- The arc of a command: mid-radius, width, start and sweep (R661). A negative scale turns it by half a turn. -/
def arcShape (t : Xform) (centre : TWord) (radius width start sweep : Int) : Shape :=
  let half : Int := if t.scale < 0 then 2 ^ 31 else 0
  let s0 := start + t.turn + half
  let (lo, n) := if 0 ≤ sweep then (s0, sweep) else (s0 + sweep, -sweep)
  let r2 := 2 * t.len radius
  let w := t.len width
  .arc (t.apply (pt2 centre)) ((r2 - w) / 2) ((r2 + w) / 2) (turnTrig lo) (turnTrig (lo + n))
    (decide (2 ^ 31 < n)) (decide (2 ^ 32 ≤ n))

/-- A FIX word from 1 to 4096: the width of an image. -/
def imageWidth (w : TWord) : Option Nat := if isFix w 1 4096 then some w.p else none
where
  /-- A FIX word in a range. -/
  isFix (w : TWord) (lo hi : Nat) : Bool := w.t == tFIX && decide (lo ≤ w.p) && decide (w.p ≤ hi)

/-- Execute the commands of a display list on a tile; depth counts the nested lists that may still be entered, fuel the
elements read. -/
def runList (s : State) (col row : Nat) : Nat → Nat → List TWord → Canvas → Except Nat Canvas
  | 0, _, _, _ => .error 1
  | _ + 1, _, [], c => .ok c
  | fuel + 1, depth, cmd :: rest, c => do
    if cmd.t ≠ tVEC then throw 1
    let es ← s.paintElems cmd
    let tags := es.map TWord.t
    let c ← (match es with
      | op :: args =>
        if op.t ≠ tFIX then .error 1
        else match op.p, args with
          | 0, [p, z, col'] =>
            if tags = [tFIX, tPT2, tPT2, tRGBA] then
              let (x, y) := pt2 p
              let (w, h) := pt2 z
              .ok (c.shape col row
                (.poly [c.xf.apply (x, y), c.xf.apply (x + w, y), c.xf.apply (x + w, y + h), c.xf.apply (x, y + h)])
                (rgba col'))
            else .error 1
          | 1, [p, q, w, col'] =>
            if tags = [tFIX, tPT2, tPT2, tFIXQ, tRGBA] then
              .ok (c.shape col row (.line (c.xf.apply (pt2 p)) (c.xf.apply (pt2 q)) (c.xf.len w.i)) (rgba col'))
            else .error 1
          | 2, [v, col'] =>
            if tags = [tFIX, tVEC, tRGBA] then do
              let ps ← s.paintElems v
              if ps.length < 3 ∨ 1024 < ps.length ∨ ps.any (fun p => p.t != tPT2) then throw 1
              .ok (c.shape col row (.poly (ps.map fun p => c.xf.apply (pt2 p))) (rgba col'))
            else .error 1
          | 3, [p, r, w, st, sw, col'] =>
            if tags = [tFIX, tPT2, tFIXQ, tFIXQ, tFIXQ, tFIXQ, tRGBA] then
              .ok (c.shape col row (arcShape c.xf p r.i w.i st.i sw.i) (rgba col'))
            else .error 1
          | 4, [p, w, v] =>
            if tags = [tFIX, tPT2, tFIX, tVEC] then do
              let px ← s.paintElems v
              match imageWidth w with
              | none => .error 1
              | some n =>
                if px.length % n ≠ 0 ∨ px.any (fun x => x.t != tRGBA) then throw 1
                .ok (c.sprite col row n (pt2 p) (px.map fun x => (rgba x, 16, 1)))
            else .error 1
          | 5, [p, w, v, col'] =>
            if tags = [tFIX, tPT2, tFIX, tSTR, tRGBA] then do
              let ks ← s.paintElems v
              match imageWidth w with
              | none => .error 1
              | some n =>
                if ks.length % n ≠ 0 ∨ ks.any (fun x => x.t != tCHR || decide (255 < x.p)) then throw 1
                .ok (c.sprite col row n (pt2 p) (ks.map fun x => (rgba col', 16 * x.p, 255)))
            else .error 1
          | 6, [p, z] =>
            if tags = [tFIX, tPT2, tPT2] then
              let (x, y) := pt2 p
              let (w, h) := pt2 z
              .ok { c with clip := some ((x, y), (x + w, y + h)) }
            else .error 1
          | 6, [p] => if p.t = tNIL then .ok { c with clip := none } else .error 1
          | 7, [p, sc, r] =>
            if tags = [tFIX, tPT2, tFIXQ, tFIXQ] then
              let (x, y) := pt2 p
              .ok { c with xf := ⟨x, y, sc.i, r.i⟩ }
            else .error 1
          | 8, [v] =>
            if v.t ≠ tVEC then .error 1
            else match depth with
              | 0 => .error 1
              | d + 1 => do
                let sub ← s.paintElems v
                let c' ← runList s col row fuel d sub c
                .ok { c with px := c'.px }
          | _, _ => .error 1
      | [] => .error 1)
    runList s col row fuel depth rest c

/-- Elements a Painter reads of one list at most: the words of the heap bound them. -/
def listFuel : Nat := 600000

/-- The 4 KiB of a tile: filled with the job's colour, then painted by its list; or the status the job fails with
(R665, R667, R674). -/
def paintTile (s : State) (list fill : TWord) (col row : Nat) : Except Nat (List Byte) := do
  let es ← s.paintElems list
  let c ← runList s col row listFuel 8 es ⟨.ident, none, List.replicate 1024 (rgba fill).premul⟩
  .ok (c.px.flatMap Px.bytes)

end Sys2Proof.Machine
end

