-- ==== Sys2Proof/Machine/Picture.lean ====
section
/-!
DEFINITION. Jobs, Painter ports, the tile pool, latching and the plane stack (13 R657 to R700).
-/
namespace Sys2Proof.Machine

def State.setPic (s : State) (f : Pic → Pic) : State := { s with pic := f s.pic }

/-! ### The pool (R658, R675) -/

/-- DRAM offset of a pool tile. -/
def State.tileAt (s : State) (t : Nat) : Nat := s.fld F.PNT_POOL_BASE_BASE * 2 ^ 20 + t * 4096

/-- The pool tiles that are FREE, in number. -/
def State.freeTiles (s : State) : Nat :=
  s.fld F.PNT_POOL_TILES_COUNT - s.fld F.PNT_POOL_RSV_COUNT - s.pic.used.length

/-- The lowest-numbered FREE tile; reserved tiles are never used. -/
def State.freeTile (s : State) : Option Nat :=
  (range' (s.fld F.PNT_POOL_RSV_COUNT) (s.fld F.PNT_POOL_TILES_COUNT - s.fld F.PNT_POOL_RSV_COUNT)).find? fun t =>
    (s.pic.used.find? t).isNone

/-- A tile is taken for an epoch, or freed, with the ochre ledger's report (11 R577). -/
def State.useTile (s : State) (t epoch : Nat) : State :=
  let s := s.setPic fun p => { p with used := AMap.insert p.used t epoch }
  if epoch = 0 then s else s.report 7 epoch [(3, 1)]

def State.freeTileNo (s : State) (t : Nat) : State :=
  match s.pic.used.find? t with
  | none => s
  | some e =>
    let s := s.setPic fun p => { p with used := AMap.erase p.used t }
    if e = 0 then s else s.report 7 e [(3, -1)]

/-! ### Outputs (R659) -/

def State.columns (s : State) (out : Nat) : Nat := (s.fld (F.MIR_HTIMA_HACT out) + 31) / 32
def State.rows (s : State) (out : Nat) : Nat := (s.fld (F.MIR_VTIMA_VACT out) + 31) / 32

/-! ### Jobs -/

def Job.width (j : Job) : Nat := j.col1 + 1 - j.col0
def Job.positions (j : Job) : Nat := j.width * (j.row1 + 1 - j.row0)
/-- Column and row of a position. -/
def Job.place (j : Job) (k : Nat) : Nat × Nat := (j.col0 + k % j.width, j.row0 + k / j.width)

/-- A job is latchable (R681). -/
def Job.latchable (j : Job) : Bool := decide (j.epoch = 0) && decide (j.done.length = j.positions)

def State.job (s : State) (order : Nat) : Option Job := s.pic.jobs.find? fun j => j.order = order

def State.setJob (s : State) (j : Job) : State :=
  s.setPic fun p => { p with jobs := p.jobs.map fun k => if k.order = j.order then j else k }

/-- A job leaves the Painters: completed or vanished. Its object is no longer registered with the Gleaners (R671). -/
def State.dropJob (s : State) (j : Job) : State :=
  let s := s.setPic fun p => { p with
    jobs := p.jobs.filter fun k => k.order ≠ j.order
    work := p.work.filter fun w => w.2.job ≠ j.order }
  { s with heap := { s.heap with registered := s.heap.registered.erase j.addr } }

/-- Free the tiles that a job holds. -/
def State.freeJobTiles (s : State) (j : Job) : State := j.tiles.foldl (fun s t => s.freeTileNo t.2) s

/-- PAINT_DONE, held for an ochre job whose notified sprig does not run in its epoch (R679). -/
def State.paintDone (s : State) (epoch : Nat) (h : TWord) : State :=
  if h.t ≠ tSPRG then s
  else if epoch ≠ 0 ∧ s.liveHandle h ∧ !s.within (s.slot (sprgSlot h)).epoch epoch then
    s.setPic fun p => { p with held := p.held ++ [(epoch, h)] }
  else s.sendSprig h (BitVec.ofNat 64 (2 ^ 50))

/-- Write element 5 of a job object. -/
def State.jobStatus (s : State) (addr st : Nat) : State := s.setElem addr 5 (fix (st : Int))

/-- Count a failed job (R679). -/
def State.jobError (s : State) (port st : Nat) : State :=
  ((s.bump F.PNT_JOBERR_CNT_COUNT F.PNT_STATUS_JOBERR_SAT).setFld F.PNT_LASTERR_STATUS st).setFld F.PNT_LASTERR_PORT port

/-- A taken job fails. -/
def failJob (j : Job) (st : Nat) (s : State) : State :=
  let s := (s.freeJobTiles j).dropJob j
  ((s.jobStatus j.addr st).paintDone j.epoch j.notify).jobError j.port st

/-! ### Painting (R674 to R676) -/

/-- Jobs with a position still to start, ivory or ochre, of an output. -/
def State.openJobs (s : State) (ivory : Bool) (out : Nat) : List Job :=
  s.pic.jobs.filter fun j => decide (j.started < j.positions) && (decide (j.epoch = 0) == ivory) && j.out == out

/-- The job whose tile a free Painter starts next, and the state of the round robin after it (R676). -/
def State.nextJob (s : State) : Option (Job × Nat) :=
  let pick := fun (ivory : Bool) =>
    match (s.openJobs ivory 0).head?, (s.openJobs ivory 1).head? with
    | some a, some b =>
      let wa := s.fld F.PNT_SHARE_WA
      let wb := s.fld F.PNT_SHARE_WB
      some (if s.pic.turn < wa then a else b, (s.pic.turn + 1) % (wa + wb))
    | some a, none => some (a, 0)
    | none, some b => some (b, 0)
    | none, none => none
  match pick true with
  | some r => some r
  | none => pick false

/-- The number of Painters that the shed level lets paint (17 R838). -/
def State.painters (s : State) : Nat :=
  if s.fld F.PWR_STATUS_SHED < 2 then 8
  else if s.fld F.PWR_STATUS_SHED = 2 then s.fld F.PWR_SLATE_PAINT
  else 1

/-- One free Painter starts its next tile. -/
def startPainter (s : State) (painter : Nat) : State :=
  if (s.pic.work.find? painter).isSome ∨ s.painters ≤ s.pic.work.length then s
  else match s.nextJob with
    | none => s
    | some (j, turn) => match s.freeTile with
      | none => s.setFld F.PNT_STATUS_POOLWAIT 1
      | some t =>
        let k := j.started
        let s := (s.useTile t j.epoch).setJob { j with started := k + 1, tiles := AMap.insert j.tiles k t }
        s.setPic fun p => { p with work := AMap.insert p.work painter ⟨j.order, k⟩, turn := turn }

/-- Every free Painter starts a tile if there is one (R676). -/
def State.startPainters (s : State) : State := (List.range 8).foldl startPainter s

/-- A Painter finishes its tile (R674, R679). -/
def tileComplete (painter : Nat) (s : State) : State :=
  match s.pic.work.find? painter with
  | none => s
  | some w =>
    let s := s.setPic fun p => { p with work := AMap.erase p.work painter }
    match s.job w.job with
    | none => s.startPainters
    | some j =>
      let (c, r) := j.place w.pos
      match paintTile s j.list j.fill c r with
      | .error st => (failJob j st s).startPainters
      | .ok bs =>
        let s := match j.tiles.find? w.pos with
          | some t => s.dramWrite (s.tileAt t) bs
          | none => s
        let j := { j with done := j.done ++ [w.pos] }
        let s := if j.done.length = j.positions then
            ((s.setJob { j with told := true }).jobStatus j.addr 0).paintDone j.epoch j.notify
          else s.setJob j
        s.startPainters

/-! ### Ports (R668 to R673) -/

/-- The Spinner creates the 16 ports (R668). -/
def makePorts (s : State) : State :=
  let s := (List.range 16).foldl (fun (s : State) e =>
    let s := s.setGran (granOf (s.port e)) ⟨.used, s.heap.parity, 0, false⟩
    s.heapFill (s.port e) (mkHdr pinned 255 kVec s.heap.parity false :: portElems)) s
  s.reportMove 2 0 0 2 4096

/-- What a job object comes to when it is taken: a job, or the status it fails with. The causes are tried in the order
5, 2, 3, 4, 6, 7 (R666, R667; log entry 37). -/
def readJob (s : State) (port : Nat) (w : TWord) : Except Nat Job := do
  let (a, n) ← (match s.paintObj w with
    | some x => .ok x
    | none => .error 5)
  let es ← s.paintElems w
  let e := fun (i : Nat) => es.getD i (unb 0)
  let tags := [(e 0).t, (e 1).t, (e 2).t, (e 3).t]
  if n ≠ 6 ∨ tags ≠ [tFIX, tFIX, tVEC, tRGBA] ∨ ((e 4).t ≠ tSPRG ∧ (e 4).t ≠ tNIL) ∨ 8 ≤ (e 0).p ∨ 2 ^ 32 ≤ (e 1).p then
    throw 2
  let out := (e 0).p % 2
  let plane := (e 0).p / 2
  let r := (e 1).p
  let j : Job := ⟨s.pic.order, port, port, a, out, plane, bits r 7 0, bits r 15 8, bits r 23 16, bits r 31 24,
    e 2, e 3, e 4, 0, [], [], [], false⟩
  if plane = 3 then throw 3
  if j.col1 < j.col0 ∨ j.row1 < j.row0 ∨ s.columns out ≤ j.col1 ∨ s.rows out ≤ j.row1 ∨ 1024 < j.positions then throw 4
  if !s.bit (F.MIR_CTL_EN out) then throw 6
  if port ≠ 0 ∧ (s.gran (granOf a)).epoch ≠ port then throw 7
  return j

/-- The Painters take the next job of a port, if its slot holds a word (R671). -/
def takeJob (e : Nat) (s : State) : State :=
  let a := s.port e
  let c := s.elem a 1
  let i := if c.t = tFIX then c.p else 0
  let w := s.elem a (2 + i % 128)
  if !s.bit F.PNT_CTL_EN || !s.heap.built || w.t == tNIL then s
  else
    let s := (s.setElem a (2 + i % 128) nil).setElem a 1 (fix ((i + 1 : Nat) : Int))
    if w.t ≠ tVEC then s.jobError e 2
    else match readJob s e w with
      | .ok j =>
        let s := s.setPic fun p => { p with jobs := p.jobs ++ [j], order := p.order + 1 }
        ({ s with heap := { s.heap with registered := s.heap.registered ++ [j.addr] } }).startPainters
      | .error st =>
        let s := s.jobError e st
        match s.paintObj w with
        | some (b, n) =>
          let s := if 5 < n then s.jobStatus b st else s
          if 4 < n then s.paintDone e (s.elem b 4) else s
        | none => s

/-- The Painters take every job whose slot store has been performed (R673); n bounds their number. -/
def takeJobs (e : Nat) : Nat → State → State
  | 0, s => s
  | n + 1, s => takeJobs e n (takeJob e s)

/-- A slot of the port still holds a job: confirm and squash of its epoch wait (R673). -/
def State.portBusy (s : State) (e : Nat) : Bool :=
  s.heap.built && (List.range 128).any fun i => (s.elem (s.port e) (2 + i)).t != tNIL

/-- A job vanishes (R559, R673). -/
def vanishJob (s : State) (j : Job) : State := (s.freeJobTiles j).dropJob j

/-! ### Latching (R687, R688, R690, R691) -/

/-- Key of a position of a plane. -/
def posKey (plane : Nat) (p : Nat × Nat) : Nat := plane * 65536 + p.2 * 256 + p.1

/-- Settle position k of a job at a lock point: latch it when the job is latchable and nothing later is latched there,
or free its DONE tile when something later is. -/
def settlePos (order : Nat) (s : State) (k : Nat) : State :=
  match s.job order with
  | none => s
  | some j => match j.tiles.find? k with
    | none => s
    | some t =>
      if j.settled.contains k || !j.done.contains k then s
      else
        let o := s.pic.out j.out
        let key := posKey j.plane (j.place k)
        let old := o.scene.find? key
        let mark := { j with settled := j.settled ++ [k], tiles := AMap.erase j.tiles k }
        if old.any fun l => decide (j.order < l.order) then (s.freeTileNo t).setJob mark
        else if j.latchable then
          let s := match old with
            | some l => s.freeTileNo l.tile
            | none => s
          (s.setPic fun p => p.setOut j.out
            { p.out j.out with scene := AMap.insert (p.out j.out).scene key ⟨t, j.order⟩ }).setJob mark
        else s

/-- Settle a job, which completes when every tile has been freed or latched (R688). -/
def settleJob (s : State) (order : Nat) : State :=
  match s.job order with
  | none => s
  | some j =>
    let s := (List.range j.positions).foldl (settlePos order) s
    match s.job order with
    | some j => if j.settled.length = j.positions then s.dropJob j else s
    | none => s

/-- The first lock point after an entry into Vermilion mode frees every latched tile (19 R964). -/
def purgeOutput (out : Nat) (s : State) : State :=
  let o := s.pic.out out
  if o.purge then
    let s := o.scene.foldl (fun s l => s.freeTileNo l.2.tile) s
    let s := o.guest.foldl (fun s t => s.freeTileNo t.2) s
    s.setPic fun p => p.setOut out { p.out out with scene := [], guest := [], purge := false }
  else s

/-- The latch of an output: jobs in the order they were taken, the latchable ones first so that what they supersede is
freed, then the guest plane (R687, R688, R693). In Vermilion mode only scene plane 0 is latched (19 R964). -/
def latchOutput (out : Nat) (s : State) : State :=
  let safe := decide (s.mode = .vermilion)
  let mine := s.pic.jobs.filter fun j => decide (j.out = out) && (!safe || decide (j.plane = 0))
  let s := ((mine.filter Job.latchable) ++ (mine.filter fun j => !j.latchable)).foldl (fun s j => settleJob s j.order) s
  let o := s.pic.out out
  match o.guestNext with
  | none => s
  | some g =>
    if safe then s else
    let s := o.guest.foldl (fun s t => s.freeTileNo t.2) s
    s.setPic fun p => p.setOut out { p.out out with guest := g, guestNext := none }

/-- A lock point counts a repeat when an ivory job of the output is not latchable (R691). -/
def countRepeat (out : Nat) (s : State) : State :=
  if s.pic.jobs.any fun j => decide (j.out = out ∧ j.epoch = 0) && !j.latchable then
    s.bump (F.MIR_REPEAT_CNT_COUNT out) (F.MIR_STATUS_REPEAT_SAT out)
  else s

/-- The tiles of a position cannot be fetched in time (R692). -/
def underrun (out col row : Nat) (s : State) : State :=
  if s.bit (F.MIR_CTL_EN out) then
    ((s.setPic fun p => p.setOut out { p.out out with underrun := (col, row) :: (p.out out).underrun }).setFld
      (F.MIR_STATUS_UNDERRUN out) 1).raise aMirUnderrun out
  else s

/-! ### The plane stack (R682, R683, R695) -/

/-- Pixel (x, y) of a tile in DRAM. -/
def tilePixel (s : State) (t x y : Nat) : Px :=
  let b := fun (k : Nat) => (dramByte s (s.tileAt t + 128 * (y % 32) + 4 * (x % 32) + k)).toNat
  ⟨b 0, b 1, b 2, b 3⟩

/-- Composite one premultiplied pixel of a plane of alpha g over an opaque one (R683). -/
def compositeOver (g : Nat) (p o : Px) : Px :=
  let f := fun (c d : Nat) => roundEven (g * c * 255 + d * (65025 - g * p.a)) 65025
  ⟨f p.r o.r, f p.g o.g, f p.b o.b, 255⟩

/-- The output shows the content of Vermilion mode (19 R964). -/
def State.safeShown (s : State) (out : Nat) : Bool := decide (s.mode = .vermilion) && !(s.pic.out out).purge

/-- The tiles of the background plane: the safe tiles in Vermilion mode (19 R964, R965), the splash tiles otherwise. -/
def State.backTiles (s : State) (out : Nat) : Option Nat :=
  if s.safeShown out then (if s.bit (F.ALM_VERM_TILES out) then some (s.fld (F.ALM_VERM_FIRST out)) else none)
  else if s.actBit (F.MIR_CTL_SPLASH out) then some (s.fld (F.MIR_SPLASH_FIRST out))
  else none

/-- The background colour of an output. -/
def backColour (s : State) (out : Nat) : Px :=
  { rgba (mkN tRGBA (s.actReg (F.MIR_BG_COLOUR out).off).toNat) with a := 255 }

/-- The background plane of an output at a pixel. -/
def backPixel (s : State) (out x y : Nat) : Px :=
  match s.backTiles out with
  | some t => { tilePixel s (t + y / 32 * s.columns out + x / 32) x y with a := 255 }
  | none => backColour s out

/-- Planes 1 to 5 of an output at a pixel: the colour under the Lantern plane. -/
def scenePixel (s : State) (out x y : Nat) : Px :=
  let o := s.pic.out out
  let al := (s.actReg (F.MIR_ALPHA_S0 out).off).toNat
  let en := s.actFld (F.MIR_CTL_PLANES out)
  if o.underrun.contains (x / 32, y / 32) then backColour s out
  else
    let scene := fun (k : Nat) (b : Px) =>
      if en.testBit k then match o.scene.find? (posKey k (x / 32, y / 32)) with
        | some l => compositeOver (bits al (31 - 8 * k) (24 - 8 * k)) (tilePixel s l.tile x y) b
        | none => b
      else b
    let b := scene 0 (backPixel s out x y)
    if s.safeShown out then b
    else
      let b := scene 2 (scene 1 b)
      if en.testBit 3 then match o.guest.find? (posKey 0 (x / 32, y / 32)) with
        | some t => compositeOver (bits al 7 0) (tilePixel s t x y) b
        | none => b
      else b

end Sys2Proof.Machine
end

