-- ==== Sys2Proof/Machine/Shepherd.lean ====
section
/-!
DEFINITION. What the Shepherd does of its own accord (10 R512 to R526), and the events of cells: waits, time-outs,
interrupts, holds, buffered stores (04 R181, R211; 05 R265, R266; 07 R341 to R375).
-/
namespace Sys2Proof.Machine

/-! ### Placement (R512 to R519) -/

/-- The grove from which a free cell steals: the most ready non-IDLE sprigs, the lowest number among equals (R517). -/
def State.stealFrom (s : State) (g : Nat) : Option Nat :=
  ((List.range 16).filter fun v => v ≠ g ∧ !(s.readyBusy v).isEmpty).foldl (fun b v => match b with
    | none => some v
    | some u => if (s.readyBusy u).length < (s.readyBusy v).length then some v else b) none

/-- Place the highest-ranked ready sprig of a grove on a free cell (R512, R518). An IDLE one is placed only when
stealing finds nothing. -/
def sprigPlace (g : Nat) (s : State) : State :=
  if s.cellsHeld then s
  else match s.topRanked (s.readyIn g) with
    | none => s
    | some n =>
      if (s.slot n).cls = clsIdle ∧ s.bit F.SHP_CTL_STEAL ∧ s.shed = 0 ∧ (s.stealFrom g).isSome then s
      else match s.preferCell n (s.freeCells g) with
        | some c => s.placeOn c n
        | none => s

/-- A free cell takes a ready sprig of another grove (R517). -/
def sprigSteal (g : Nat) (s : State) : State :=
  if s.cellsHeld || !s.bit F.SHP_CTL_STEAL || s.shed ≠ 0 || !(s.readyBusy g).isEmpty then s
  else match s.stealFrom g with
    | none => s
    | some v => match s.topRanked (s.readyBusy v) with
      | none => s
      | some n => match s.preferCell n (s.freeCells g) with
        | none => s
        | some c => (s.modSlot n fun x => { x with grove := g }).placeOn c n

/-- Slots whose sprig runs on a cell of a grove. -/
def State.runningIn (s : State) (g : Nat) : List Nat :=
  (s.slotsIn .running).filter fun n => match (s.slot n).cell with
    | some c => c < wardenCell ∧ c / 16 = g
    | none => false

/-- A running sprig leaves its cell for preemption when it stands at a level-0 boundary with no hold open. -/
def preemptAt (c : Nat) (s : State) : State :=
  if (s.cell c).level = .l0 ∧ (s.cell c).hold.isNone then leaveAtBoundary c (fun n s => s.makeReady n) s else s

/-- A running sprig of a grove that the shed level excludes and that stands at a level-0 boundary with no hold open
(17 R839). -/
def State.shedOut (s : State) (g : Nat) : Option Nat :=
  ((List.range 16).map (· + 16 * g)).find? fun c => match (s.cell c).sprig with
    | some n => (!s.shedAllows n || !s.shedCell c) && decide ((s.cell c).level = .l0) && (s.cell c).hold.isNone
    | none => false

/-- A more urgent ready sprig preempts the lowest-ranked running one of its grove (R514). An IDLE sprig preempts none
(log entry 33). -/
def preemptLow (g : Nat) (s : State) : State :=
  match s.topRanked (s.readyBusy g), s.lowRanked (s.runningIn g) with
  | some r, some v =>
    let x := s.slot v
    if s.cellsHeld ∨ !(s.freeCells g).isEmpty then s
    else if x.cls = clsIdle ∨ x.pri < (s.slot r).pri then
      match x.cell with
      | some c => preemptAt c s
      | none => s
    else s
  | _, _ => s

/-- A preemption in a grove: of a sprig that the shed level excludes (17 R839), else of the lowest-ranked one. -/
def sprigPreempt (g : Nat) (s : State) : State :=
  match s.shedOut g with
  | some c => preemptAt c s
  | none => preemptLow g s

/-- The time slice of a running sprig has ended (R515). -/
def sliceExpire (c : Nat) (s : State) : State :=
  match (s.cell c).sprig with
  | none => s
  | some n =>
    let x := s.slot n
    let due := decide (x.placedAt + x.slice * 1000 ≤ s.now) && decide (x.cls ≠ clsDeadline)
    let rival := (s.readyIn x.grove).any fun m => !lexLt (rankClass x) (rankClass (s.slot m))
    if due && rival then preemptAt c s else s

/-- The timebase has reached the deadline of a live DEADLINE sprig (R526). -/
def deadlineMiss (n : Nat) (s : State) : State :=
  let x := s.slot n
  match x.deadline with
  | some d =>
    if x.state.live ∧ x.missed = false ∧ d ≤ s.now then
      let s := s.modSlot n fun x => { x with missed := true }
      let s := s.sendSprig (s.handle n) (BitVec.ofNat 64 (2 ^ 55))
      let s := s.bump F.SHP_DLMISS_CNT_COUNT F.SHP_STATUS_DLMISS_SAT
      if s.bit F.SHP_CTL_DLIRQ then s.irq13 1 n else s
    else s
  | none => s

/-! ### Waits (05 R262 to R266; 10 R525) -/

/-- The condition of a blocked sprig's wait. -/
def Slot.due (x : Slot) (now : Nat) (byStamp : Bool) : Bool :=
  if byStamp then x.waitStamp.any fun t => decide (t ≤ now)
  else match x.waitMask with
    | some m => decide (x.pend &&& m ≠ 0#64)
    | none => false

/-- The wait a cell is in is one of EV.WAIT and EV.UNTIL. -/
def WaitInPlace.isEvent (w : WaitInPlace) : Bool := w.sock == 0x400 || w.sock == 0x402

/-- A wait whose condition holds ends: a blocked sprig becomes ready, a cell's waiting move completes. -/
def endWait (byStamp : Bool) (w : Waiter) (s : State) : State :=
  match w with
  | .sprig n =>
    if (s.slot n).state = .blocked ∧ (s.slot n).due s.now byStamp then s.makeReady n else s
  | .cell c =>
    match (s.cell c).wait with
    | some v =>
      let mask := BitVec.ofNat 64 v.mask
      let pend := match (s.cell c).sprig with
        | some n => (s.slot n).pend
        | none => 0#64
      let due := if byStamp then v.until'.any fun t => decide (t ≤ s.now) else decide (pend &&& mask ≠ 0#64)
      if v.isEvent ∧ due then
        let m : Mv := ⟨c, (s.cell c).pc, v.len⟩
        finish m v.sock (evWait m v.sock mask v.until' s)
      else s
    | none => s

/-- A wait or a stall above level 0 has lasted 20 µs (05 R266; 10 R547). A Warden cell at level 0 is not subject to it. -/
def evto (c : Nat) (s : State) : State :=
  match (s.cell c).wait with
  | some v =>
    let stall := v.mask == 0 && v.until'.isNone
    if s.running c ∧ s.lvl c ≠ .l0 ∧ (v.isEvent ∨ stall) ∧ v.since + 20000 ≤ s.now then
      raiseSync c cEVTO v.sock (s.cell c).pc s
    else s
  | none => s

/-! ### Events and interrupts that reach a cell (04 R211, R212; 07 R341, R363 to R365, R371) -/

/-- The oldest RESYNC event on its way to a cell arrives. -/
def resyncEvent (c : Nat) (s : State) : State :=
  match s.resyncs.find? fun p => p.2 == c with
  | none => s
  | some p =>
    let s := { s with resyncs := s.resyncs.erase p }
    (s.modCell c fun x => { x with fetch := [] }).reportMove 6 0 4 1 1

/-- A pending interrupt, LATEBUS or NMI is entered (R341). -/
def interruptEntry (c : Nat) (s : State) : State := takeEvents c s

/-- A hold ends at a bound (R363, R365): bit 0 its moves, bit 1 its time. -/
def holdBound (bit c : Nat) (s : State) : State :=
  if (holdReached s c).testBit bit then holdEnds c (holdReached s c) s else s

/-- PATCH takes effect on a page whose change a cell waits for (04 R209). -/
def patchComplete (page : Nat) (s : State) : State :=
  if s.patchReqs.contains page then
    { s with patchReqs := s.patchReqs.erase page, codeExec := s.codeExec.erase page }
  else s

/-- The Warden raises IRQ 24 + NUM (07 R374). -/
def irqRaise (req : Req) (num payload : Nat) (s : State) : State :=
  match req with
  | .host => if num = 0 ∧ payload = 0 then s else s.hostRejected
  | .warden => s.irq (24 + num) payload

/-! ### Buffered stores (04 R181 to R187; 07 R352) -/

/-- The entry in a slot of a cell's store buffer, when no earlier store to its word stands before it (R182). -/
def Cell.performable (x : Cell) (k : Nat) : Option StoreEntry :=
  match x.sbuf.find? fun e => e.slot == k with
  | none => none
  | some e =>
    if (x.sbuf.takeWhile (fun d => d != e)).any fun d => d.code == e.code && d.addr == e.addr then none else some e

/-- A buffered store is performed when its target can take it. -/
def storePerform (c k : Nat) (s : State) : State :=
  match (s.cell c).performable k with
  | none => s
  | some e => match performEntry c e s with
    | .done s => s.dropStore c e
    | .absent s => s
    | .fail _ => s

/-- The request for a store's page has waited 20 µs while every bin is pinned or in transit (09 R482). -/
def State.storeTimedOut (s : State) (a : Nat) : Bool :=
  s.binsBusy && (s.fryQueue (pageOf a % 4)).any fun r => r.page == pageOf a && decide (r.since + 20000 ≤ s.now)

/-- A buffered store fails (R352). -/
def latebusFail (c k : Nat) (s : State) : State :=
  match (s.cell c).performable k with
  | none => s
  | some e => match performEntry c e s with
    | .fail err => s.lateBus c e err
    | .absent _ => if s.storeTimedOut e.addr then s.lateBus c e 2 else s
    | .done _ => s

end Sys2Proof.Machine
end

