-- ==== Sys2Proof/Machine/Weave.lean ====
section
/-!
DEFINITION. The Weave, the delay trims and the sources of the timebase (02 R63 to R99).
-/
namespace Sys2Proof.Machine

/-! ### Paths (R63, R65) -/

/-- Link inputs are numbered node + 32 × port; ports 0 to 3 of a router are north, east, south and west, port 4 of a
grove its grove-side input, port 4 of an edge node its own input (11 R591). Port 5 stands for a router's local input, for
which TAL_SEL has no number of its own (log entry 31). -/
def linkInput (node port : Nat) : Nat := node + 32 * port

/-- The router and port an edge node is attached to (R63). -/
def edgeAt (e : Nat) : Nat × Nat :=
  match e with
  | 0 => (0, 3) | 1 => (4, 3) | 2 => (7, 1) | 3 => (15, 1) | 4 => (14, 2) | 5 => (13, 2) | 6 => (12, 3) | _ => (3, 0)

def routerOf (node : Nat) : Nat := if node < 16 then node else (edgeAt (node - 16)).1

/-- Inputs met on the way from router r to router d: along the row, then along the column. -/
def meshPath : Nat → Nat → Nat → List Nat
  | 0, _, _ => []
  | n + 1, r, d =>
    if r % 4 < d % 4 then linkInput (r + 1) 3 :: meshPath n (r + 1) d
    else if d % 4 < r % 4 then linkInput (r - 1) 1 :: meshPath n (r - 1) d
    else if r / 4 < d / 4 then linkInput (r + 4) 0 :: meshPath n (r + 4) d
    else if d / 4 < r / 4 then linkInput (r - 4) 2 :: meshPath n (r - 4) d
    else []

/-- The link inputs on the path from a node to a node (R65). -/
def pathOf (src dst : Nat) : List Nat :=
  let first := if src < 16 then linkInput src 5 else linkInput (edgeAt (src - 16)).1 (edgeAt (src - 16)).2
  first :: meshPath 6 (routerOf src) (routerOf dst) ++ [linkInput dst 4]

/-- Flits a link input holds for one channel (R67). -/
def bufferSize (vc : VC) : Nat :=
  match vc with
  | .req => 8 | .rsp => 8 | .evt => 4 | .safe => 4

/-- Flits of a channel that stand in an input. -/
def occupied (ps : List Packet) (vc : VC) (input : Nat) : Nat :=
  (ps.filter fun p => p.vc = vc).foldl (fun n p => n + AMap.get 0 p.at' input) 0

/-- The inputs of a path as far as each holds a free slot. -/
def reach (ps : List Packet) (vc : VC) : List Nat → List Nat
  | [] => []
  | i :: is => if occupied ps vc i < bufferSize vc then i :: reach ps vc is else []

/-- Lay flits into inputs, the farthest first, each within its free slots. -/
def layFlits (ps : List Packet) (vc : VC) : Nat → List Nat → AMap Nat
  | _, [] => []
  | n, i :: is =>
    let k := min n (bufferSize vc - occupied ps vc i)
    AMap.put 0 (layFlits ps vc (n - k) is) i k

/-- Advance one packet as far as credits allow, given the others; none when it is wholly delivered. `open'` says whether
the destination takes flits of this packet. -/
def advance (others : List Packet) (open' : Bool) (p : Packet) : Option Packet :=
  let path := pathOf p.src p.dst
  let far := reach others p.vc path
  if far.length = path.length ∧ open' then none
  else some { p with at' := layFlits others p.vc p.flits far.reverse }

/-- Advance every packet, the oldest first (R66). A packet does not pass an older one of its channel, source and
destination: that one is advanced first and still occupies its inputs. -/
def advanceAll (dst : Nat) (vc : VC) (taken : Bool) : List Packet → List Packet → List Packet
  | done, [] => done
  | done, p :: ps =>
    match advance (done ++ ps) (taken && p.dst == dst && p.vc == vc) p with
    | some p => advanceAll dst vc taken (done ++ [p]) ps
    | none => advanceAll dst vc taken done ps

/-- Inputs whose occupancy for a channel differs between two lists of packets, with a report for each (11 R571). -/
def reportCredits (old new : List Packet) (s : State) : State :=
  let keys := ((old ++ new).flatMap fun p => p.at'.map fun e => e.1 + 256 * p.vc.num).eraseDups
  keys.foldl (fun s k =>
    let vc : VC := match k / 256 with
      | 0 => .req | 1 => .rsp | 2 => .evt | _ => .safe
    let d := (occupied new vc (k % 256) : Int) - (occupied old vc (k % 256) : Int)
    s.report 1 k [(0, -d), (2, d)]) s

/-- A node from which the sources of R70 send on the SAFE channel: E4 or E5. -/
def safeNode (n : Nat) : Bool := n == 20 || n == 21

/-- A packet may be sent now (R64, R69, R70, R72). Each of E4 and E5 serves two SAFE sources, so it injects at most two
packets in any 40 ns (log entry 32). -/
def mayInject (s : State) (src dst : Nat) (vc : VC) (words : Nat) : Bool :=
  match vc with
  | .safe => safeNode src && decide (words ≤ 2)
      && decide (((AMap.get [] s.weave.safeLast src).filter fun t => s.now < t + 40).length < 2)
  | .req => decide (words ≤ 16)
      && ((pathOf dst src).all fun i => decide (occupied s.weave.packets .rsp i < bufferSize .rsp))
  | _ => decide (words ≤ 16)

/-- A packet is sent; packets of the Weave advance, and with `taken` the destination takes what reaches it (R64 to
R72). -/
def weavePacket (src dst : Nat) (vc : VC) (words : Nat) (taken : Bool) (s : State) : State :=
  if mayInject s src dst vc words then
    let ps := advanceAll dst vc taken [] (s.weave.packets ++ [⟨src, dst, vc, words + 1, []⟩])
    let gone := s.weave.packets.length + 1 - ps.length
    let last := if vc = .safe then
        AMap.put [] s.weave.safeLast src
          (((AMap.get [] s.weave.safeLast src).filter fun t => s.now < t + 40) ++ [s.now])
      else s.weave.safeLast
    let old := s.weave.packets
    reportCredits old ps { s with weave := ⟨ps, last, s.weave.delivered + gone⟩ }
  else s

/-- A link request unacknowledged for more than 1 µs (R74, R75). -/
def weaveStall (node port : Nat) (vc : VC) (s : State) : State :=
  let s := if s.bit F.TBD_WV_STATUS_STALL then s
    else ((s.setFld F.TBD_WV_STALL_ID_NODE node).setFld F.TBD_WV_STALL_ID_PORT port).setFld
      F.TBD_WV_STALL_ID_VC vc.num
  (s.setFld F.TBD_WV_STATUS_STALL 1).raise aWeaveStall (node + 32 * port + 256 * vc.num)

/-! ### Delay trims (R81 to R89) -/

/-- The element a TBD_TRIM_SEL value names exists (R85, R99). -/
def trimSite (sel : Nat) : Bool :=
  let e := sel % 16
  let i := sel / 16 % 256
  match sel / 4096 with
  | 0 => decide (e < 12)
  | 1 => decide (i < 16) && decide (e < 8)
  | 2 => decide (i < 10) && decide (e < 2)
  | 3 => decide (i < 2) && decide (e < 12)
  | _ => false

/-- The next element in trim order (R85). -/
def trimNext (sel : Nat) : Nat :=
  let e := sel % 16
  let i := sel / 16 % 256
  let k := sel / 4096
  let (n, m) : Nat × Nat := match k with
    | 0 => (12, 256) | 1 => (8, 16) | 2 => (2, 10) | _ => (12, 2)
  if e + 1 < n then sel + 1
  else if i + 1 < m then 4096 * k + 16 * (i + 1)
  else if k < 3 then 4096 * (k + 1)
  else 0

def State.trim (s : State) (sel : Nat) : Trim := AMap.get Trim.reset s.trims sel

def State.setTrim (s : State) (sel : Nat) (t : Trim) : State := { s with trims := AMap.put Trim.reset s.trims sel t }

/-- The bitwise majority of the copies, which the element applies (R81). -/
def Trim.majority (t : Trim) : BitVec 6 := (t.a &&& t.b) ||| (t.a &&& t.c) ||| (t.b &&& t.c)

/-- The element TBD_TRIM_SEL names. -/
def State.trimSel (s : State) : Nat := (s.reg 0xF030).toNat % 65536

/-- A write of TBD_TRIM_DATA by the Warden (R84, R85). A host write changes nothing and is counted (01 R55). -/
def trimDataWrite (req : Req) (code : BitVec 6) (s : State) : State :=
  match req with
  | .host => if code = (s.trim s.trimSel).majority then s else s.hostRejected
  | .warden =>
    if s.bit F.TBD_TRIM_CTL_TRIM_LOCK then s.reject 0xF034
    else
      let sel := s.trimSel
      (s.setTrim sel ⟨code, code, code⟩).setReg 0xF030 (BitVec.ofNat 32 (trimNext sel))

/-- The scrubber visits one element (R87, R88). -/
def scrubTrim (sel : Nat) (t : Trim) (s : State) : State :=
  if t.a = t.b ∧ t.b = t.c then s
  else if t.a = t.b ∨ t.b = t.c ∨ t.a = t.c then
    let m := t.majority
    (((s.setTrim sel ⟨m, m, m⟩).setFld F.TBD_TRIM_STATUS_FIX 1).bump F.TBD_TRIMFIX_CNT_COUNT
      F.TBD_TRIM_STATUS_TRIMFIX_SAT).raise aTrimVote sel
  else
    let s := s.setTrim sel Trim.reset
    let s := if s.bit F.TBD_TRIM_STATUS_LOST then s else s.setReg 0xF02C (BitVec.ofNat 32 sel)
    (s.setFld F.TBD_TRIM_STATUS_LOST 1).raise aTrimLost sel

/-- Each 1 ms the scrubber visits every element (R86). `upsets` are copies that upsets have changed since the last
visit: for each element, the bits flipped in each copy. -/
def trimScrub (upsets : List (Nat × Trim)) (s : State) : State :=
  let s := upsets.foldl (fun s u =>
    if trimSite u.1 then
      let t := s.trim u.1
      s.setTrim u.1 ⟨t.a ^^^ u.2.a, t.b ^^^ u.2.b, t.c ^^^ u.2.c⟩
    else s) s
  s.trims.foldl (fun s e => scrubTrim e.1 e.2 s) s

/-! ### Sources of the timebase (R78, R90 to R95) -/

/-- One edge of the 32.768 kHz source or of the RC oscillator adds 1953125/64 ns (R92). -/
def Timebase.slowEdge (t : Timebase) : Timebase :=
  let x := t.ns.toNat * 64 + t.frac.toNat + 1953125
  { t with ns := BitVec.ofNat 64 (x / 64), frac := BitVec.ofNat 6 (x % 64) }

/-- One edge of the 100 MHz clock (R91). -/
def Timebase.fastEdge (t : Timebase) : Timebase := { t with ns := t.ns + 10#64 }

/-- An edge of the clock that drives the timebase (R91, R92). Before SYSPLL locks, the 100 MHz clock gives no edge. -/
def Timebase.edge (t : Timebase) : Timebase :=
  if t.slow then t.slowEdge else if t.pllLock then t.fastEdge else t

/-- SYSPLL reports lock (R78); a timebase on the 32.768 kHz source is to change over (R93). -/
def pllLocks (s : State) : State :=
  if s.time.pllEn && !s.time.pllLock then
    { s with time := { s.time with pllLock := true, toFast := s.time.slow } }
  else s

/-- The first 32.768 kHz edge after the lock (R93). The edge itself is counted (log entry 30). -/
def tbToFast (s : State) : State :=
  if s.time.toFast && s.time.slow && s.time.pllLock then
    { s with time := { s.time.slowEdge with slow := false, frac := 0#6, toFast := false } }.setFld F.TBD_TB_STATUS_SRC 0
  else s

/-- The first 32.768 kHz edge after the mode controller's request (R94). SYSPLL stops with the switched rails. -/
def tbToSlow (s : State) : State :=
  if s.time.toSlow && !s.time.slow then
    { s with time := { s.time with
      slow := true
      frac := 0#6
      toSlow := false
      pllEn := s.power.powered
      pllLock := s.time.pllLock && s.power.powered } }.setFld F.TBD_TB_STATUS_SRC 1
  else s

/-- No edge for 120 µs: the RC oscillator starts (R95). -/
def tbFallback (s : State) : State :=
  if s.time.rc then s else { s with time := { s.time with rc := true } }.setFld F.TBD_TB_STATUS_RCFB 1

/-- The first external edge ends the fallback and is counted (R95). -/
def tbResume (s : State) : State :=
  if s.time.rc then
    { s with time := { (if s.time.slow then s.time.slowEdge else s.time) with rc := false } }
  else s

end Sys2Proof.Machine
end

