-- ==== Sys2Proof/Machine/Tally.lean ====
section
/-!
DEFINITION. The Tally: reports, audits, breaches, building (11 R564 to R593).
-/
namespace Sys2Proof.Machine

def State.setTally (s : State) (f : Tally → Tally) : State := { s with tally := f s.tally }

/-! ### Breaches (R585 to R587) -/

/-- A Rail Watch out-of-range flag is set (R567): VLOW, the one flag of a rail that does not end the state it would be
read in (log entry 38). -/
def State.railOut (s : State) : Bool := s.bit F.PWR_STATUS_VLOW

def State.frozen (s : State) (ledger : Nat) : Bool := (s.fld F.TAL_STATUS_FROZEN).testBit (ledger - 1)

/-- A breach (R585). A frozen ledger raises none (R586). -/
def breach (ledger term index kind : Nat) (s : State) : State :=
  if s.frozen ledger then s
  else
    let s := if s.bit F.TAL_STATUS_BREACH then s
      else
        let id := ledger + term * 2 ^ 3 + kind * 2 ^ 7 + index * 2 ^ 11 + b2n s.railOut * 2 ^ 23
        (s.setReg F.TAL_BREACH_ID_LEDGER.off (BitVec.ofNat 32 id)).setPair F.TAL_BREACH_TIME_LO_TIME_LO.off s.now
    let s := s.setFld F.TAL_STATUS_BREACH 1
    let s := s.setFld F.TAL_STATUS_FROZEN (setBits (s.fld F.TAL_STATUS_FROZEN) (ledger - 1) (ledger - 1) 1)
    s.raise aTalBreach ledger

/-- An uncorrectable ECC error in state that bears the ledgers of a list (R587). -/
def tallyEcc (ledgers : List Nat) (s : State) : State := ledgers.foldl (fun s l => breach l 0 0 5 s) s

/-- Terms of a ledger (R569). -/
def ledgerTerms (ledger : Nat) : Nat :=
  match ledger with
  | 1 => 3 | 2 => 5 | 3 => 4 | 4 => 4 | 5 => 3 | 6 => 5 | 7 => 5 | _ => 0

/-- A value of TAL_SEL that holds no reserved encoding (R591). -/
def talSelOk (v : Nat) : Bool := decide (bits v 6 3 < ledgerTerms (bits v 2 0))

/-! ### Reports (R569, R581) -/

/-- An instance of a ledger that has been built. -/
def State.ledgerBuilt (s : State) (ledger index : Nat) : Bool :=
  if ledger = 5 then s.tally.rings.contains index else s.tally.built.contains ledger

/-- One change of a term. A term that would fall below zero is a breach; what the Tally then keeps of it is a free
value. -/
def applyChange (ledger index : Nat) (s : State) (c : Nat × Int) : State :=
  let v := (s.tally.term ledger index c.1 : Int) + c.2
  if 0 ≤ v then s.setTally fun t => t.setTerm ledger index c.1 v.toNat
  else
    let (x, s) := s.takeFree
    breach ledger c.1 index 1 (s.setTally fun t => t.setTerm ledger index c.1 x.toNat)

/-- The bounds of R575 and R576. -/
def checkBounds (ledger index : Nat) (s : State) : State :=
  if ledger = 5 ∧ s.fld (F.EVR_CREDIT_CREDIT index) < s.tally.term 5 index 2 then breach 5 2 index 6 s
  else if ledger = 6 ∧ 384 < s.tally.term 6 0 4 then breach 6 4 0 6 s
  else s

/-- The Tally takes one report (R581). A report to a ledger that is not built changes nothing (R579, R592). -/
def takeReport (s : State) (r : Report) : State :=
  if !s.ledgerBuilt r.ledger r.index then s
  else if r.ledger = 7 ∧ !s.epochOpen r.index then
    breach 7 ((r.changes.head?.map (·.1)).getD 0) r.index 3 s
  else checkBounds r.ledger r.index (r.changes.foldl (applyChange r.ledger r.index) s)

/-- The Tally takes the oldest report. -/
def tallyReport (s : State) : State :=
  match s.tally.reports with
  | [] => s
  | r :: rs => takeReport (s.setTally fun t => { t with reports := rs }) r

/-- The Tally takes every report on its way. -/
def State.tallyDrain (s : State) : State :=
  s.tally.reports.foldl takeReport (s.setTally fun t => { t with reports := [] })

/-! ### Keepers' counts (R583, R577) -/

def sumOf (l : List Nat) : Nat := l.foldl (· + ·) 0

/-- Words of a slab that are unused. -/
def slabRoom : Option Slab → Nat
  | some b => b.lim - b.ptr
  | none => 0

/-- Granules in use. -/
def State.usedGrans (s : State) : List (Nat × Gran) := s.heap.grans.filter fun e => e.2.st ≠ .free

def State.isRingSlab (s : State) (g : Nat) : Bool := match (s.gran g).st with
  | .ringSlab _ => true
  | _ => false

/-- The Spinner's count of each term of ledger 2 (09 R492). -/
def spinnerCounts (s : State) : List Nat :=
  let slabs := sumOf (s.cells.map fun c => slabRoom c.2.slab) + sumOf (s.heap.gslabs.map fun g => 256 * g.2.1 + 256 - g.2.2)
    + 256 * (s.usedGrans.filter fun g => s.isRingSlab g.1).length
  let ivory := sumOf ((s.usedGrans.filter fun g => g.2.epoch = 0).map fun g => s.liveWords g.1)
  let quar := sumOf (s.cells.map fun c => slabRoom c.2.quar)
  let ochre := sumOf ((s.usedGrans.filter fun g => g.2.epoch ≠ 0).map fun g => s.liveWords g.1)
  [s.fld F.SPN_HEAP_PAGES_COUNT * 1024 - slabs - ivory - quar - ochre, slabs, ivory, quar, ochre]

/-- The Ferrymen's count of each term of ledger 3. -/
def ferrymenCounts (s : State) : List Nat :=
  let n := fun (k : Nat) => (s.heap.bins.filter fun b => binTerm (some b.2) = k).length
  [2048 - s.heap.bins.length, n 1, n 2, n 3]

/-- Slots that count as live in ledger 4: not FREE, an ended one only while its epoch is open. -/
def liveSlots (s : State) : Nat :=
  (s.shep.slots.filter fun e => e.2.state ≠ .free ∧ (e.2.state ≠ .ended ∨ e.2.epoch ≠ 0)).length + s.shep.ghosts.length

/-- Slots whose sprig is of epoch e and not FREE. -/
def State.slotsOf (s : State) (e : Nat) : List Nat :=
  (s.shep.slots.filter fun x => x.2.state ≠ .free ∧ x.2.epoch = e).map (·.1)

/-- Words of objects in the ochre granules of e. -/
def State.ochreWords (s : State) (e : Nat) : Nat :=
  sumOf ((s.usedGrans.filter fun g => g.2.epoch = e).map fun g => s.liveWords g.1)

/-- The keepers' count of each term of epoch e in ledger 7. -/
def ochreCounts (s : State) (e : Nat) : List Nat :=
  [(s.slotsOf e).length, s.ochreWords e, s.logCount e, (s.pic.used.filter fun t => t.2 = e).length,
   ((s.slotsOf e).filter fun n => (s.slot n).state = .stalled).length]

/-! ### Audits (R583, R584, R593) -/

/-- The first term, from number k on, that differs from its keeper's count. -/
def firstDiff (s : State) (ledger index : Nat) : Nat → List Nat → Option Nat
  | _, [] => none
  | k, c :: cs => if s.tally.term ledger index k = c then firstDiff s ledger index (k + 1) cs else some k

/-- The first term of a ledger whose audit fails, with its index (R569, R577, R583). The terms that only count what has
happened are held by the Tally alone, and their equation is checked (log entry 39). -/
def auditLedger (s : State) (ledger : Nat) : Option (Nat × Nat) :=
  let t := s.tally.term ledger
  match ledger with
  | 1 => (linkInstances.find? fun i =>
      let vc : VC := match i / 256 with
        | 0 => .req | 1 => .rsp | 2 => .evt | _ => .safe
      let n := occupied s.weave.packets vc (i % 256)
      decide (t i 0 + t i 1 + t i 2 ≠ linkCredits i) || decide (t i 2 ≠ n)).map fun i => (0, i)
  | 2 => (firstDiff s 2 0 0 (spinnerCounts s)).map fun k => (k, 0)
  | 3 => (firstDiff s 3 0 0 (ferrymenCounts s)).map fun k => (k, 0)
  | 4 => if t 0 3 ≠ liveSlots s then some (3, 0) else if t 0 0 ≠ t 0 1 + t 0 2 + t 0 3 then some (0, 0) else none
  | 5 => (s.tally.rings.find? fun r => decide (t r 0 ≠ t r 1 + t r 2)).map fun r => (0, r)
  | 6 => if 384 < t 0 4 then some (4, 0) else if t 0 0 ≠ t 0 1 + t 0 2 + t 0 3 + t 0 4 then some (0, 0) else none
  | _ => ((range' 1 15).find? fun e => (firstDiff s 7 e 0
      (if s.epochOpen e then ochreCounts s e else [0, 0, 0, 0, 0])).isSome).map fun e =>
        ((firstDiff s 7 e 0 (if s.epochOpen e then ochreCounts s e else [0, 0, 0, 0, 0])).getD 0, e)

/-- Ledgers that an audit checks: built, and not frozen. -/
def State.auditable (s : State) : List Nat :=
  (range' 1 7).filter fun l => !s.frozen l && (if l = 5 then !s.tally.rings.isEmpty else s.tally.built.contains l)

/-- An audit (R583): due each TAL_AUDIT.MS; every report on its way arrives before the keepers' counts. -/
def tallyAudit (s : State) : State :=
  if s.now < s.tally.lastAudit + s.actFld F.TAL_AUDIT_MS * 1000000 then s
  else
    let s := s.tallyDrain
    let ls := s.auditable
    let s := ls.foldl (fun s l => match auditLedger s l with
      | some (term, index) => breach l term index 2 s
      | none => s) s
    let s := (transfer 0xD .audit (s.setTally fun t => { t with lastAudit := s.now })).count F.TAL_AUDIT_CNT_COUNT
    let mask := ls.foldl (fun m l => m + 2 ^ l) 0
    if s.bit F.TAL_CTL_AUDIRQ then s.irq 16 (b2n (s.bit F.TAL_STATUS_BREACH) + mask) else s

/-! ### Building (R579, R580) -/

/-- Ledger 2 is built when Stage-1 sets SPN_CTL.LOCK: every word free. -/
def buildHeapLedger (s : State) : State :=
  s.setTally fun t => { t.setTerm 2 0 0 (s.fld F.SPN_HEAP_PAGES_COUNT * 1024) with built := 2 :: t.built }

/-- An instance of ledger 5 starts from zero when its ring is enabled (R575). -/
def buildRing (ring : Nat) (s : State) : State :=
  s.setTally fun t =>
    { ((t.setTerm 5 ring 0 0).setTerm 5 ring 1 0).setTerm 5 ring 2 0 with
      rings := if t.rings.contains ring then t.rings else t.rings ++ [ring] }

/-- A ring that is no longer enabled: its terms read zero (R592). -/
def closeRing (ring : Nat) (s : State) : State :=
  s.setTally fun t => { t with rings := t.rings.erase ring }

end Sys2Proof.Machine
end

