-- ==== Sys2Proof/Machine/Epochs.lean ====
section
/-!
DEFINITION. Confirm, squash and the write-back of the epoch log (10 R549 to R562; 11 R574, R578, R1026; 13 R673).
-/
namespace Sys2Proof.Machine

/-- BR.RES of a confirm or squash: to the cell while the sprig runs there, else to its context record (R1025). -/
def deliverResult (h : Option TWord) (b : Bool) (s : State) : State :=
  match h with
  | none => s
  | some h =>
    if !s.liveHandle h then s
    else
      let n := sprgSlot h
      match (s.slot n).cell, (s.slot n).ctx with
      | some c, _ => s.modCell c fun x => x.setSock .l0 0x3F0 (boolW b)
      | none, some a => s.ctxPut a (ctxSockElem 0x3F0) (boolW b)
      | none, none => s

/-- Bits [15:12] of an ST word. -/
def moveEpoch (e p : Nat) (st : W32) : W32 :=
  if bits st.toNat 15 12 = e then BitVec.ofNat 32 (setBits st.toNat 15 12 p) else st

/-- A slab of epoch e becomes one of p. -/
def Slab.moved (e p : Nat) (b : Slab) : Slab := if b.epoch = e then { b with epoch := p } else b

/-- Every level and slab of a cell that is of epoch e becomes of p. -/
def Cell.moved (e p : Nat) (x : Cell) : Cell :=
  let f := moveEpoch e p
  let g := fun (v : SaveSet) => { v with fromSt := f v.fromSt }
  { x with
    st := ⟨f x.st.l0, f x.st.l1, f x.st.l2, f x.st.l3, f x.st.ln⟩
    save := ⟨g x.save.l0, g x.save.l1, g x.save.l2, g x.save.l3, g x.save.ln⟩
    slab := x.slab.map (Slab.moved e p)
    quar := x.quar.map (Slab.moved e p) }

/-- A sprig of e becomes a sprig of p, in its slot and in its context record (R521, R550, R551). -/
def moveSlot (p : Nat) (s : State) (n : Nat) : State :=
  let s := s.modSlot n fun x => { x with epoch := p }
  match (s.slot n).ctx, (s.slot n).cell with
  | some a, none =>
    let s := s.ctxPut a 153 (rawW (setBits (s.ctxGet a 153).p 15 12 p))
    s.ctxPut a 243 (slotWord (s.slot n))
  | _, _ => s

/-- An ended sprig of an epoch that confirms into ivory: SPRIG_END is sent and it counts as ended (R550; 11 R574). -/
def endHeldSprig (s : State) (n : Nat) : State :=
  let x := s.slot n
  ((s.modSlot n fun x => { x with endHeld := false }).reportEnd (isCancelExit x.exit)).sendSprig x.spawner
    (BitVec.ofNat 64 (2 ^ 54))

/-- Merge the log entries of e into the log of p (R551): the number of p's entries that are new. -/
def mergeLog (e p : Nat) (log : List LogEntry) : List LogEntry × Nat :=
  let mine := log.filter fun x => x.epoch = e
  let rest := log.filter fun x => x.epoch ≠ e
  mine.foldl (fun (r : List LogEntry × Nat) x =>
    if r.1.any fun y => y.epoch == p && y.addr == x.addr then
      (r.1.map fun y => if y.epoch = p ∧ y.addr = x.addr then { y with new := x.new } else y, r.2)
    else (r.1 ++ [{ x with epoch := p }], r.2 + 1)) (rest, 0)

/-- The counts of e in ledger 7 move to p, and to the ivory terms when p is 0 (11 R578). -/
def moveCounts (e p : Nat) (logKept : Nat) (counts : List Nat) (s : State) : State :=
  let n := fun (k : Nat) => (counts.getD k 0 : Int)
  let s := s.report 7 e ((List.range 5).map fun k => (k, - n k))
  if p = 0 then s.report 2 0 [(4, - n 1), (2, n 1)]
  else s.report 7 p [(0, n 0), (1, n 1), (2, (logKept : Int)), (3, n 3), (4, n 4)]

/-- The log entries of e for words that its parent p acts on directly (R536; log entry 149). -/
def ownEntries (e p : Nat) (s : State) : List LogEntry :=
  if p = 0 then [] else s.shep.log.filter fun x => decide (x.epoch = e) && s.ownGran p x.addr

/-- Such an entry is written to memory when e confirms into p. -/
def writeOwn (s : State) (x : LogEntry) : State :=
  ((s.writeBarrier 0 (s.heapRead x.addr) x.new).dropWriteback x.addr).heapPut x.addr x.new

/-- Everything of epoch e becomes p's at the confirm instant (R550 to R552). -/
def confirmInto (e p : Nat) (s : State) : State :=
  let own := ownEntries e p s
  let counts := ochreCounts s e
  let slots := s.slotsOf e
  let stalled := slots.filter fun n => (s.slot n).state = .stalled
  let ended := slots.filter fun n => (s.slot n).state = .ended
  let ghosts := s.shep.ghosts.filter fun g => g.epoch = e
  let s := slots.foldl (moveSlot p) s
  let s : State := { s with
    cells := s.cells.map fun (c : Nat × Cell) => (c.1, c.2.moved e p)
    heap := { s.heap with
      grans := s.heap.grans.map fun (g : Nat × Gran) => if g.2.epoch = e then (g.1, { g.2 with epoch := p }) else g
      reqs := s.heap.reqs.map fun (r : SpinReq) => if r.epoch = e then { r with epoch := p } else r } }
  let log := s.shep.log.filter fun x => !own.contains x
  let (merged, kept) := if p = 0 then (log.filter fun x => x.epoch ≠ e, 0) else mergeLog e p log
  let mine := log.filter fun x => x.epoch = e
  let back : List LogEntry := if p = 0 then mine.map fun x => { x with epoch := 0 } else []
  let s : State := { s with shep := { s.shep with
    log := merged
    writeback := s.shep.writeback ++ back
    ghosts := (s.shep.ghosts.map fun (g : Ghost) => if g.epoch = e then { g with epoch := p } else g).filter
      fun (g : Ghost) => decide (g.epoch ≠ 0)
    epochs := s.shep.epochs.map fun (x : Nat × Epoch) =>
      if x.2.parent = e then (x.1, { x.2 with parent := p }) else x } }
  let held := s.pic.held.filter fun h => h.1 = e
  let s := s.setPic fun q => { q with
    used := q.used.map fun (t : Nat × Nat) => if t.2 = e then (t.1, p) else t
    jobs := q.jobs.map fun (j : Job) => if j.epoch = e then { j with epoch := p } else j
    held := (q.held.map fun (h : Nat × TWord) => if h.1 = e then (p, h.2) else h).filter
      fun (h : Nat × TWord) => decide (h.1 ≠ 0) }
  let s := own.foldl writeOwn (moveCounts e p kept counts s)
  if p = 0 then
    let s := stalled.foldl (fun s n => s.makeReady n) s
    let s := ended.foldl endHeldSprig s
    let s := ghosts.foldl (fun s g => (s.reportEnd g.cancelled).sendSprig g.spawner (BitVec.ofNat 64 (2 ^ 54))) s
    held.foldl (fun s h => s.sendSprig h.2 (BitVec.ofNat 64 (2 ^ 50))) s
  else s

/-- An epoch number becomes free. The Tally, which has taken every report, checks the terms of the epoch (11 R582). -/
def closeEpoch (e : Nat) (s : State) : State :=
  let s := s.tallyDrain
  let s := { s with shep := { s.shep with epochs := AMap.erase s.shep.epochs e } }
  match (List.range 5).find? fun k => decide (s.tally.term 7 e k ≠ 0) with
  | some k => breach 7 k e 4 s
  | none => s

/-- The confirm instant of the request at the head of the Shepherd's list (R549 to R555, R561, R562). -/
def epochConfirm (s : State) : State :=
  match s.shep.reqs with
  | [] => s
  | r :: rest =>
    if r.squash then s
    else
      let next := fun (s : State) => { s with shep := { s.shep with reqs := rest } }
      if !s.epochOpen r.epoch || s.shep.leavingIvory then deliverResult r.by' false (next s)
      else
        let s := takeJobs r.epoch 128 s
        if s.portBusy r.epoch then s
        else
          let p := s.parentOf r.epoch
          let s := closeEpoch r.epoch (confirmInto r.epoch p s.tallyDrain)
          let s := s.setPair F.SHP_CONF_TIME_LO_TIME_LO.off s.now
          deliverResult r.by' true (next (s.portReset r.epoch))

/-- After a confirm into ivory, the oldest entry is written back through the write barrier (R554). -/
def logWriteBack (s : State) : State :=
  match s.shep.writeback with
  | [] => s
  | x :: rest =>
    if !s.resident (pageOf x.addr) && s.pageable (pageOf x.addr) then s.requestPage (pageOf x.addr) 0
    else
      let old := s.heapRead x.addr
      let s := { s with shep := { s.shep with writeback := rest } }
      ((s.writeBarrier 0 old x.new).heapPut x.addr x.new).kernelPort x.addr

/-- A vanishing sprig (R557, R558). -/
def vanishSprig (e : Nat) (s : State) (n : Nat) : State :=
  let x := s.slot n
  let s := match x.cell with
    | some c =>
      let s := s.dropReq (.cell c)
      let s := s.modCell c fun y => { y with answer := none }
      let s := dropLevels c e 5 s
      s.modCell c fun y => { y with sprig := none, lastSprig := unb 0 }
    | none => s
  let s := s.reportMove 4 0 3 2 1
  let s := s.report 7 e ((0, -1) :: (if x.state = .stalled then [(4, -1)] else []))
  s.freeSlot n

/-- Free the granules of a squashed epoch, and discard its slabs (R557; 09 R452; 11 R1026). -/
def freeOchre (e : Nat) (s : State) : State :=
  let words := s.ochreWords e
  let mine := fun (b : Option Slab) => match b with
    | some b => if b.epoch = e then b.lim - b.ptr else 0
    | none => 0
  let slabs := sumOf (s.cells.map fun c => mine c.2.slab)
  let quar := sumOf (s.cells.map fun c => mine c.2.quar)
  let held := decide (s.heap.phase = .roots ∨ s.heap.phase = .mark)
  let keep := fun (b : Option Slab) => match b with
    | some b => if b.epoch = e then none else some b
    | none => none
  let gone := (s.heap.grans.filter fun g => g.2.epoch = e).map (·.1)
  let s := { s with cells := s.cells.map fun (c : Nat × Cell) => (c.1, { c.2 with
    slab := keep c.2.slab, quar := keep c.2.quar
    sbuf := c.2.sbuf.filter fun x => x.code || !gone.contains (granOf x.addr) }) }
  let s := gone.foldl (fun s g => s.setGran g ⟨.free, false, 0, held⟩) s
  let s := { s with heap := { s.heap with reqs := s.heap.reqs.filter fun r => r.epoch ≠ e } }
  let s := s.report 2 0 [(4, -(words : Int)), (1, -(slabs : Int)), (3, -(quar : Int)),
    (0, ((words + slabs + quar : Nat) : Int))]
  s.report 7 e [(1, -(words : Int))]

/-- Squash one epoch whose open descendants have been squashed (R557 to R560). -/
def squashOne (s : State) (e : Nat) : State :=
  let s := s.tallyDrain
  let s := (s.slotsOf e).foldl (vanishSprig e) s
  let ghosts := s.shep.ghosts.filter fun g => g.epoch = e
  let s := ghosts.foldl (fun s _ => s.reportMove 4 0 3 2 1) s
  let n := s.logCount e
  let s := { s with shep := { s.shep with
    ghosts := s.shep.ghosts.filter fun g => g.epoch ≠ e
    log := s.shep.log.filter fun x => x.epoch ≠ e } }
  let s := s.report 7 e [(2, -(n : Int))]
  let s := (s.pic.jobs.filter fun j => j.epoch = e).foldl vanishJob s
  let s := s.setPic fun p => { p with held := p.held.filter fun h => h.1 ≠ e }
  closeEpoch e (freeOchre e (s.portReset e))

/-- The open epochs that a squash of e takes, the youngest first (R556). -/
def State.squashList (s : State) (e : Nat) : List Nat :=
  let mine := s.shep.epochs.filter fun x => s.within x.1 e
  (mine.foldl (fun (l : List (Nat × Epoch)) x =>
    (l.filter fun y => x.2.order < y.2.order) ++ [x] ++ (l.filter fun y => y.2.order ≤ x.2.order)) []).map (·.1)

/-- Squash an epoch and its descendants. -/
def squashTree (e : Nat) (s : State) : State :=
  let es := s.squashList e
  let s := es.foldl (fun s d => takeJobs d 128 s) s
  es.foldl squashOne s

/-- A squash of the request at the head of the Shepherd's list completes (R556 to R561). -/
def epochSquash (s : State) : State :=
  match s.shep.reqs with
  | [] => s
  | r :: rest =>
    if !r.squash then s
    else
      let next := fun (s : State) => { s with shep := { s.shep with reqs := rest } }
      if !s.epochOpen r.epoch then deliverResult r.by' false (next s)
      else
        let es := s.squashList r.epoch
        let s := es.foldl (fun s d => takeJobs d 128 s) s
        if es.any s.portBusy then s
        else deliverResult r.by' true (next (es.foldl squashOne s))

/-- Every open epoch is squashed when the chip leaves Ivory mode (00 R49; R562). Requests that wait are answered false
by their own events. -/
def squashAll (s : State) : State :=
  let s := (s.squashList 0).foldl (fun s e => if s.epochOpen e then squashTree e s else s) s
  { s with shep := { s.shep with leavingIvory := false } }

end Sys2Proof.Machine
end

