-- ==== Sys2Proof/Machine/Evr.lean ====
section
/-!
DEFINITION. The Evoser endpoint: rings, doorbells, mailbox, answers, event and log entries, protocol violations, enabling
and draining (12 R594 to R619, R648 to R656).
-/
namespace Sys2Proof.Machine

def State.setEvr (s : State) (f : Evr → Evr) : State := { s with evr := f s.evr }

/-- The output gates are closed (18 R895). -/
def State.gated (s : State) : Bool := s.bit F.GKP_STATUS_GATED

/-- A byte of host memory; one that nothing has written reads 0 (log entry 7). -/
def State.hostRead (s : State) (a n : Nat) : List Byte := Memory.readN 0#8 s.host a n

/-- Carry out a write that the endpoint originates. -/
def State.doPost (s : State) (p : Post) : State :=
  match p with
  | .mem a bs => { s with host := Memory.writeN 0#8 s.host a bs }
  | .msix v => { s with out := s.out ++ [Emission.msix v] }

/-- The endpoint originates a write: held while the gates are closed, lost while the link is down (R599, R653;
01 R46). -/
def State.post (s : State) (p : Post) : State :=
  if !s.bit F.PLT_PCIE_CTL_LINKUP then s
  else if s.gated then s.setEvr fun e => { e with posts := e.posts ++ [p] }
  else s.doPost p

/-- The gates open: what they hold of the endpoint leaves. -/
def State.releasePosts (s : State) : State :=
  s.evr.posts.foldl State.doPost (s.setEvr fun e => { e with posts := [] })

/-! ### Rings (R600 to R602) -/

def State.ring (s : State) (n : Nat) : CmdRing := AMap.get CmdRing.reset s.evr.rings n

def State.setRing (s : State) (n : Nat) (r : CmdRing) : State :=
  s.setEvr fun e => { e with rings := AMap.put CmdRing.reset e.rings n r }

def State.modRing (s : State) (n : Nat) (f : CmdRing → CmdRing) : State := s.setRing n (f (s.ring n))

/-- Enabled: neither inactive nor draining. -/
def State.ringOn (s : State) (n : Nat) : Bool := (s.ring n).active && !(s.ring n).draining

def State.ringK (s : State) (n : Nat) : Nat := s.fld (F.EVR_RCTL_K n)

/-- Credit granted to a ring (R609); 0 while it is inactive. -/
def State.credit (s : State) (n : Nat) : Nat := s.fld (F.EVR_CREDIT_CREDIT n)

/-- The difference of two indices (R601). -/
def idxSub (x y : Nat) : Nat := (x + 65536 - y % 65536) % 65536

def idxNext (x : Nat) : Nat := (x + 1) % 65536

/-- Address bits of a register pair whose low register holds an aligned address. -/
def State.base64 (s : State) (lo : Nat) : Nat := s.pair lo

/-! ### The mailbox (R606, R607) -/

def State.mailbox (s : State) (entry : Nat) : State :=
  let a := s.base64 0x2000 + 8 * entry
  if entry < 16 then
    let r := s.ring entry
    s.post (.mem a (leBytes 2 r.ci ++ leBytes 2 r.aw ++ leBytes 4 (s.credit entry)))
  else s.post (.mem a (leBytes 8 (if entry = 16 then s.evr.evt.pi else s.evr.log.pi)))

/-! ### Event and log rings (R616, R648, R649) -/

/-- One entry of the event ring or the log ring: 31 bytes and the phase. An entry that finds no room is counted lost.
DEDUCED: each entry is followed by its ring's vector (log entry 40). -/
def State.ringEntry (s : State) (log : Bool) (bytes : List Byte) : State :=
  let ctl := if log then F.EVR_LCTL_EN else F.EVR_ECTL_EN
  let k := s.fld (if log then F.EVR_LCTL_K else F.EVR_ECTL_K)
  let r := if log then s.evr.log else s.evr.evt
  if !s.bit ctl then s
  else if idxSub r.pi r.lastCi < 2 ^ k then
    let a := s.base64 (if log then 0x2320 else 0x2300) + 32 * (r.pi % 2 ^ k)
    let s := s.post (.mem a ((bytes ++ List.replicate 31 0#8).take 31 ++ [BitVec.ofNat 8 (b2n r.phase)]))
    let pi := idxNext r.pi
    let r := { r with pi := pi, phase := if pi % 2 ^ k = 0 then !r.phase else r.phase }
    let s := s.setEvr fun e => if log then { e with log := r } else { e with evt := r }
    (s.mailbox (if log then 17 else 16)).post (.msix (if log then 17 else 16))
  else if log then s.bump F.EVR_LLOST_CNT_COUNT F.EVR_STATUS_LLOST_SAT
  else s.bump F.EVR_ELOST_CNT_COUNT F.EVR_STATUS_ELOST_SAT

/-- The head of an entry: source, type, bytes 4 to 7, stamp (R649). -/
def entryHead (source type' info stamp : Nat) : List Byte :=
  leBytes 2 source ++ leBytes 2 type' ++ leBytes 4 info ++ leBytes 8 stamp

/-- An entry of the event ring. The source of a type other than 2 is a free value (log entry 41). -/
def State.event (s : State) (type' info : Nat) : State :=
  let (f, s) := s.takeFree
  s.ringEntry false (entryHead (f.toNat % 65536) type' info s.now)

/-- A report of the Alarm board (type 2). -/
def State.alarmEvent (s : State) (source cls : Nat) : State :=
  s.ringEntry false (entryHead source 2 (source + cls * 256) s.now)

/-! ### Protocol violations (R654; 11 R590) -/

def State.violation (s : State) (kind ring value : Nat) : State :=
  let info := ring % 16 + kind * 16 + value % 65536 * 65536
  let s := s.bump F.TAL_HOSTVIOL_CNT_COUNT F.TAL_STATUS_HOSTVIOL_SAT
  let s := if s.bit F.EVR_STATUS_VIOL then s else s.setReg 0x200C (BitVec.ofNat 32 info)
  (((s.setFld F.EVR_STATUS_VIOL 1).irq 1 info).event 3 info).post (.msix 18)

/-! ### Doorbells (R603, R604, R610) -/

def cmdPi (n v : Nat) (s : State) : State :=
  let r := s.ring n
  let s := s.modRing n fun r => { r with lastPi := v }
  if !r.active then s.violation 4 n v
  else if !s.ringOn n then s
  else if idxSub v r.aci > s.credit n then s.violation 1 n v
  else if idxSub v r.pi ≥ 2 ^ 15 then s.violation 2 n v
  else s.modRing n fun r => { r with pi := v }

def ansCi (n v : Nat) (s : State) : State :=
  let r := s.ring n
  let s := s.modRing n fun r => { r with lastAci := v }
  if !r.active then s.violation 4 n v
  else if !s.ringOn n then s
  else if idxSub v r.aci > idxSub r.aw r.aci then s.violation 3 n v
  else s.modRing n fun r => { r with aci := v }

/-- EVT_CI or LOG_CI. The RING that a write to a ring that is not enabled records is a free value (log entry 42). -/
def entryCi (log : Bool) (v : Nat) (s : State) : State :=
  let r := if log then s.evr.log else s.evr.evt
  if !s.bit (if log then F.EVR_LCTL_EN else F.EVR_ECTL_EN) then
    let (f, s) := s.takeFree
    s.violation 4 (f.toNat % 16) v
  else if idxSub v r.lastCi > idxSub r.pi r.lastCi then s.violation 6 0 v
  else s.setEvr fun e => if log then { e with log := { r with lastCi := v } } else { e with evt := { r with lastCi := v } }

/-! ### Answers (R608, R614 to R618) -/

/-- Status codes (R619). -/
abbrev stOk : Nat := 0
abbrev stAborted : Nat := 1
abbrev stBadcmd : Nat := 2
abbrev stDenied : Nat := 3
abbrev stMode : Nat := 4
abbrev stHosterr : Nat := 5
abbrev stBadgraph : Nat := 6
abbrev stExhausted : Nat := 7
abbrev stFull : Nat := 8
abbrev stTimeout : Nat := 9
abbrev stNotrial : Nat := 10
abbrev stBadimage : Nat := 11
abbrev stBusy : Nat := 12
abbrev stNosvc : Nat := 13

/-- Answer a command: the answer, the mailbox entry and the vector, in this order; the command leaves the flights
(R608, R615; 11 R575). A drain of R652 drops the writes. -/
def State.answerCmd (s : State) (f : Flight) (status detail v0 v1 v2 : Nat) : State :=
  let n := f.ring
  let r := s.ring n
  let k := s.ringK n
  let bytes := leBytes 2 f.tag ++ leBytes 2 f.cidx ++ leBytes 1 f.op ++ leBytes 1 status ++ leBytes 2 detail
    ++ leBytes 8 v0 ++ leBytes 8 v1 ++ leBytes 4 v2 ++ leBytes 4 (b2n r.phase * 2 ^ 24)
  let s := if r.drop then s else s.post (.mem (s.base64 (0x2108 + 32 * n) + 32 * (r.aw % 2 ^ k)) bytes)
  let aw := idxNext r.aw
  let s := s.modRing n fun r => { r with aw := aw, phase := if aw % 2 ^ k = 0 then !r.phase else r.phase }
  let s := if r.drop then s else s.mailbox n
  let s := if f.irq && !r.drop then s.post (.msix n) else s
  let s := s.setEvr fun e => { e with flights := e.flights.filter fun g => g.order ≠ f.order }
  s.reportMove 5 n 2 1 1

def State.answerOk (s : State) (f : Flight) (v0 v1 v2 : Nat) : State := s.answerCmd f stOk 0 v0 v1 v2
def State.answerBad (s : State) (f : Flight) (status : Nat) : State := s.answerCmd f status 0 0 0 0

/-- Record how far a command has come. -/
def State.setFlight (s : State) (f : Flight) (w : FlightWait) : State :=
  s.setEvr fun e => { e with flights := e.flights.map fun g => if g.order = f.order then { g with wait := w } else g }

/-- Commands of an opcode that wait as p says, oldest first. -/
def State.flightsOf (s : State) (op : Nat) (p : Flight → Bool) : List Flight :=
  s.evr.flights.filter fun f => f.op == op && p f

/-- The oldest command of an opcode on a ring that has not begun. -/
def State.todo (s : State) (ring op : Nat) : Option Flight :=
  s.evr.flights.find? fun f => f.ring == ring && f.op == op && f.wait == .todo

/-! ### Descriptors (R611 to R613, R620, R621) -/

/-- n bytes of a descriptor from byte o, little-endian. -/
def field (b : List Byte) (o n : Nat) : Nat := leNat ((b.drop o).take n)

def Flight.field (f : Flight) (o n : Nat) : Nat := Machine.field f.body o n

/-- Reserved bytes from a to z - 1. -/
def reserved (b : List Byte) (a z : Nat) : List (Nat × Bool) :=
  (range' a (z - a)).map fun o => (o, decide (field b o 1 ≠ 0))

/-- The checks of a body: offset of a field, and whether its value is wrong. -/
def bodyChecks (s : State) (b : List Byte) (op : Nat) : List (Nat × Bool) :=
  let g := field b
  match op with
  | 0x01 => [(8, decide (g 8 1 < 1 ∨ 6 < g 8 1))] ++ reserved b 9 16 ++
      ((List.range 6).flatMap fun j => reserved b (18 + 8 * j) (20 + 8 * j))
  | 0x02 => [(8, decide (g 8 8 % 16 ≠ 0)), (16, decide (g 16 4 < 1 ∨ 262144 < g 16 4))] ++ reserved b 56 64
  | 0x03 =>
    let o := g 8 1 % 2
    [(8, decide (1 < g 8 1))] ++ reserved b 9 16 ++
      [(16, decide (g 16 8 % 16 ≠ 0)), (24, decide (g 24 2 < 1 ∨ s.fld (F.MIR_HTIMA_HACT o) < g 24 2)),
       (26, decide (g 26 2 < 1 ∨ s.fld (F.MIR_VTIMA_VACT o) < g 26 2)),
       (28, decide (g 28 4 % 16 ≠ 0 ∨ g 28 4 < 4 * g 24 2)),
       (32, decide (s.fld (F.MIR_HTIMA_HACT o) < g 32 2 + g 24 2)),
       (34, decide (s.fld (F.MIR_VTIMA_VACT o) < g 34 2 + g 26 2))] ++ reserved b 36 64
  | 0x04 => reserved b 16 64
  | 0x05 => [(8, decide (g 8 1 < 1 ∨ 6 < g 8 1))] ++ reserved b 9 16 ++
      ((List.range (min 6 (g 8 1))).map fun j => (16 + 8 * j, decide (g (16 + 8 * j) 4 % 4 ≠ 0)))
  | 0x06 => [(8, decide (1 < g 8 1)), (9, decide (g 9 1 = 0)), (10, decide (6 < g 10 1)), (11, decide (1 < g 11 1))] ++
      reserved b 12 16 ++ ((List.range 6).flatMap fun j => reserved b (19 + 8 * j) (24 + 8 * j))
  | 0x07 => [(8, decide (1 < g 8 1))] ++ reserved b 9 16 ++ [(16, decide (g 16 8 % 4096 ≠ 0))] ++ reserved b 28 64
  | 0x09 =>
    let sel := g 8 1
    [(8, decide (4 < sel))] ++ reserved b 9 12 ++
      [(12, if sel = 1 then decide (15 < g 12 4) else if sel = 2 then !talSelOk (g 12 4) else decide (g 12 4 ≠ 0))]
      ++ reserved b 16 64
  | 0x0C => [(8, decide (1 < g 8 1))] ++ reserved b 9 64
  | _ => reserved b 8 64

/-- The offset of the first wrong field of a descriptor (R613). DEDUCED: a reserved byte is a field of its own (log
entry 43). -/
def wrongField (s : State) (b : List Byte) : Option Nat :=
  let op := field b 0 1
  if 0x0C < op then some 0
  else
    let head := [(1, decide (1 < field b 1 1)), (4, decide (field b 4 4 ≠ 0))]
    ((head ++ bodyChecks s b op).find? fun c => c.2).map (·.1)

/-- The mode lets an opcode run (R620, R644). -/
def modeAllows (s : State) (b : List Byte) : Bool :=
  let op := field b 0 1
  let target := field b 8 1
  match s.mode with
  | .ivory | .slate => !(op == 0x07 && target == 1)
  | .vermilion => !(op == 0x02 || op == 0x03 || op == 0x07 || op == 0x08)
  | .cobalt => !(op == 0x02 || op == 0x03 || op == 0x08)
  | _ => false

/-- The next descriptor of a ring is read and consumed (R611, R613, R618, R653). err: the read completed with an
error. -/
def descriptorConsume (n : Nat) (err : Bool) (s : State) : State :=
  let r := s.ring n
  if !s.ringOn n || r.pi == r.ci || s.gated || !s.bit F.PLT_PCIE_CTL_LINKUP
      || (s.evr.flights.any fun f => f.ring == n && f.op == 0x0C) then s
  else
    let b := s.hostRead (s.base64 (0x2100 + 32 * n) + 64 * (r.ci % 2 ^ s.ringK n)) 64
    let f : Flight := ⟨n, r.ci, field b 0 1, field b 1 1 % 2 == 1, field b 2 2, b, s.evr.order, .todo⟩
    let s := (s.modRing n fun r => { r with ci := idxNext r.ci }).mailbox n
    let s := (s.setEvr fun e => { e with order := e.order + 1 }).report 5 n [(0, 1), (2, 1)]
    if err then
      (s.violation 5 n r.ci).answerBad { f with op := 0, tag := 0, irq := false } stHosterr
    else match wrongField s b with
      | some o => s.answerCmd f stBadcmd o 0 0 0
      | none =>
        if modeAllows s b then s.setEvr fun e => { e with flights := e.flights ++ [f] }
        else s.answerBad f stMode

/-! ### Sprigs held for an APPLY (10 R527, R528) -/

/-- Hold a sprig for the APPLY of an order number; one that runs stops at its safe point. -/
def holdFor (order : Nat) (h : TWord) (s : State) : State :=
  if !s.liveHandle h then s
  else
    let n := sprgSlot h
    let s := s.modSlot n fun x => { x with heldFor := some order }
    match (s.slot n).state with
    | .running => match (s.slot n).cell with
      | some c => applyHold c s
      | none => s
    | .held => s
    | st => s.modSlot n fun x => { x with state := .held, prior := st }

/-- Let go of a sprig that an APPLY held. -/
def unhold (order : Nat) (h : TWord) (s : State) : State :=
  let n := sprgSlot h
  if (s.slot n).heldFor = some order then
    let st := (s.slot n).state
    let s := s.modSlot n fun x => { x with heldFor := none }
    if st ≠ .held then s
    else match (s.slot n).prior with
      | .blocked => s.modSlot n fun x => { x with state := .blocked }
      | .stalled => s.modSlot n fun x => { x with state := .stalled }
      | _ => if s.cellsHeld then s else s.makeReady n
  else s

/-- Every sprig that an APPLY names is HELD; a stale handle counts as absent (R639). -/
def allHeld (s : State) (hs : List TWord) : Bool :=
  hs.all fun h => !s.liveHandle h || decide ((s.slot (sprgSlot h)).state = .held)

/-- An APPLY ends without success: its sprigs are released and its set returns to the front of the staged set (R639,
R643). -/
def applyGiveUp (f : Flight) (status : Nat) (s : State) : State :=
  match f.wait with
  | .apply set hs _ _ _ =>
    let s := hs.foldl (fun s h => unhold f.order h s) s
    (s.modRing f.ring fun r => { r with staged := set ++ r.staged }).answerBad f status
  | _ => s.answerBad f status

/-! ### Draining (R651, R652) -/

/-- Free the pages that a SCENE command has been given (R629, R630). -/
def freeScene (order : Nat) (s : State) : State :=
  let gs := (s.heap.grans.filter fun e => e.2.st = .ringSlab order).map (·.1)
  let s := gs.foldl (fun s g => s.setGran g Gran.fresh) s
  (s.reportMove 2 0 1 0 (256 * gs.length)).setHeap fun h => { h with answers := AMap.erase h.answers order }

/-- The inbox's vector (R631). -/
def State.inbox (s : State) : Nat := s.heapReg F.EVR_INBOX_L_ADDR_L F.EVR_INBOX_H_ADDR_H

/-- An engine's store into the heap, under the write barrier. -/
def State.engineStore (s : State) (a i : Nat) (w : TWord) : State :=
  (s.writeBarrier 0 (s.elem a i) w).setElem a i w

/-- Answer a command before its abort point with ABORTED (R620, R635, R651). -/
def abortFlight (f : Flight) (s : State) : State :=
  match f.wait with
  | .todo =>
    if [0x02, 0x03, 0x06, 0x07, 0x0A, 0x0B, 0x0C].contains f.op then s.answerBad f stAborted else s
  | .spin => (freeScene f.order (s.dropReq (.ring f.order))).answerBad f stAborted
  | .copied _ _ => (freeScene f.order s).answerBad f stAborted
  | .inbox r => (s.setElem s.inbox (16 * r + 10) nil).answerBad f stAborted
  | .picture tiles => (tiles.foldl (fun s t => s.freeTileNo t.2) s).answerBad f stAborted
  | .commit => s
  | .apply _ _ _ _ _ => applyGiveUp f stAborted s
  | .image => s.answerBad f stAborted
  | .proof => s.answerBad f stAborted

/-- A drain starts: every command before its abort point is aborted. -/
def drainRing (n : Nat) (s : State) : State :=
  (s.evr.flights.filter fun f => f.ring == n).foldl (fun s f => abortFlight f s) s

/-- A write that clears EVR_RCTLn.EN (R651). -/
def ringDrain (n : Nat) (s : State) : State :=
  let s := s.setFld (F.EVR_RCTL_EN n) 0
  if s.ringOn n then drainRing n (s.modRing n fun r => { r with draining := true }) else s

/-- Every consumed descriptor has been answered: ACTIVE clears (R651; 11 R575). -/
def ringDrained (n : Nat) (s : State) : State :=
  if (s.ring n).draining && !(s.evr.flights.any fun f => f.ring == n) then
    closeRing n ((s.modRing n fun r => { r with active := false, draining := false, drop := false }).setFld
      (F.EVR_CREDIT_CREDIT n) 0)
  else s

/-- EN and K stand in EVR_RCTLn and the ring is inactive: it is enabled (R609, R616, R650). -/
def ringStart (n : Nat) (s : State) : State :=
  let s := s.setFld (F.EVR_CREDIT_CREDIT n) (min (2 ^ s.fld (F.EVR_RCTL_K n)) 256)
  let s := s.modRing n fun r =>
    { r with pi := 0, ci := 0, aw := 0, aci := 0, active := true, draining := false, drop := false, phase := true }
  (buildRing n s).mailbox n

/-- A write of EVR_RCTLn with EN set and a value of K. While the ring is active K cannot change, and EN enables nothing
(00 R16, R22; R650). -/
def ringEnable (n k : Nat) (s : State) : State :=
  let was := (s.ring n).active
  let s := if k = s.fld (F.EVR_RCTL_K n) then s
    else if was ∨ k < 4 ∨ 16 < k then s.reject 0x2110
    else s.setFld (F.EVR_RCTL_K n) k
  let s := s.setFld (F.EVR_RCTL_EN n) 1
  if was then s else ringStart n s

/-- The event ring or the log ring is enabled (R650). -/
def entryEnable (log : Bool) (s : State) : State :=
  s.setEvr fun e => if log then { e with log := EntryRing.reset } else { e with evt := EntryRing.reset }

/-- Registers of a window take their reset values, but for those that keep holds. -/
def State.resetWindow (s : State) (w : Nat) (keep : Nat → Bool) : State :=
  { s with regs := s.regs.filter fun e => decide (e.1 / 4096 ≠ w) || keep e.1,
           act := s.act.filter fun e => decide (e.1 / 4096 ≠ w) || keep e.1 }

/-- EVR_CREDITn of a ring that drains. -/
def drainCredit (s : State) (off : Nat) : Bool :=
  decide (0x2100 ≤ off ∧ off < 0x2300 ∧ off % 32 = 24) && (s.ring ((off - 0x2100) / 32)).active

/-- A function level reset, a hot reset or a link-down (R652). EVR_STATUS.GATED goes on saying whether the gates are
closed, and the credit of a ring that drains stands until it is inactive. -/
def pcieReset (s : State) : State :=
  let s := (List.range 16).foldl (fun (s : State) n => s.modRing n fun r => { r with drop := true }) s
  let s := (List.range 16).foldl (fun (s : State) n => ringDrain n s) s
  let s := (s.setEvr fun e => { e with evt := EntryRing.reset, log := EntryRing.reset, posts := [] }).resetWindow 2 (drainCredit s)
  let s := s.setFld F.EVR_STATUS_GATED (b2n s.gated)
  (List.range 16).foldl (fun (s : State) n =>
    if (s.ring n).active then s.modRing n fun r => { r with staged := [] } else s.setRing n CmdRing.reset) s

/-- The link trains and enters L0 (R599). -/
def pcieLinkUp (s : State) : State :=
  if s.bit F.PLT_PCIE_CTL_LINKEN && decide (s.mode ≠ .sable ∧ s.mode ≠ .umber) then s.setFld F.PLT_PCIE_CTL_LINKUP 1 else s

/-- The link leaves L0 outside a park (R652; 19 R947). -/
def pcieLinkDown (s : State) : State :=
  if s.bit F.PLT_PCIE_CTL_LINKUP then ((pcieReset s).setFld F.PLT_PCIE_CTL_LINKUP 0).raise aPcieDown 0 else s

end Sys2Proof.Machine
end

