-- ==== Sys2Proof/Machine/EvrCmd.lean ====
section
/-!
DEFINITION. The commands that the rings carry (12 R620 to R647), but for CONFIRM, IMAGE and QUERY.
-/
namespace Sys2Proof.Machine

/-- Run a command of an opcode: the oldest one of the ring that has not begun. -/
def withTodo (ring op : Nat) (s : State) (f : Flight → State → State) : State :=
  match s.todo ring op with
  | some x => f x s
  | none => s

def cmdNop (ring : Nat) (s : State) : State := withTodo ring 0x00 s fun f s => s.answerOk f 0 0 0

/-- FENCE is answered once the commands consumed before it are (R623). -/
def cmdFence (ring : Nat) (s : State) : State :=
  withTodo ring 0x0C s fun f s =>
    let all := f.field 8 1 == 1
    if s.evr.flights.any fun g => (all || g.ring == ring) && decide (g.order < f.order) then s else s.answerOk f 0 0 0

/-- DRAINLOG is answered once no log entry waits (R624). The proof records that the gates or a running box hold back are
those that wait. -/
def cmdDrainlog (ring : Nat) (s : State) : State :=
  withTodo ring 0x0B s fun f s => if s.lamps.records.isEmpty then s.answerOk f s.evr.log.pi 0 0 else s

/-- PROOF waits for the next proof frame (R647). -/
def cmdProof (ring : Nat) (s : State) : State := withTodo ring 0x0A s fun f s => s.setFlight f .proof

/-- The Witness has emitted a proof frame: every PROOF that waits is answered (R647). -/
def answerProofs (bitmap stamp counter detail : Nat) (s : State) : State :=
  (s.flightsOf 0x0A fun f => f.wait == .proof).foldl (fun s f => s.answerCmd f stOk detail bitmap stamp counter) s

/-! ### SIGNALS (R625, R626) -/

def State.sigtab (s : State) : Nat := s.heapReg F.EVR_SIGTAB_L_ADDR_L F.EVR_SIGTAB_H_ADDR_H

/-- Length of the vector at an address that the Warden has set; no vector is set at 0. -/
def State.vecLen (s : State) (a : Nat) : Nat := if a = 0 then 0 else hdrLen (s.heapRead a)

/-- The handle of the service sprig. -/
def State.svc (s : State) : TWord := mkN tSPRG (s.fld F.EVR_SVC_HANDLE)

def cmdSignals (ring : Nat) (s : State) : State :=
  withTodo ring 0x01 s fun f s =>
    let n := f.field 8 1
    let js := List.range n
    match js.find? fun j => decide (s.vecLen s.sigtab ≤ f.field (16 + 8 * j) 2) with
    | some j => s.answerCmd f stBadcmd (16 + 8 * j) 0 0 0
    | none =>
      let s := js.foldl (fun (s : State) j =>
        s.engineStore s.sigtab (f.field (16 + 8 * j) 2) (fix (BitVec.ofNat 32 (f.field (20 + 8 * j) 4)).toInt)) s
      (s.sendSprig s.svc (BitVec.ofNat 64 (2 ^ 49))).answerOk f 0 0 0

/-! ### LAMPREQ (R627) -/

/-- The flags change at once; the answer waits for the commit. -/
def cmdLampreq (ring : Nat) (s : State) : State :=
  withTodo ring 0x04 s fun f s =>
    let hf := ((s.reg 0x801C) ||| BitVec.ofNat 32 (f.field 8 4)) &&& ~~~(BitVec.ofNat 32 (f.field 12 4))
    let s := s.setReg 0x801C hf
    { (s.setFlight f .commit) with lamps := { s.lamps with changed := true } }

/-- The Lamp engine has committed: every LAMPREQ that waits is answered. -/
def answerLampreqs (s : State) : State :=
  (s.flightsOf 0x04 fun f => f.wait == .commit).foldl (fun s f => s.answerOk f (s.pair 0x8008) (s.pair 0x8010) 0) s

/-! ### SCENE (R628 to R635) -/

/-- Word w of a graph in host memory: payload and tag. -/
def graphWord (s : State) (a w : Nat) : TWord :=
  let b := s.hostRead (a + 16 * w) 9
  mkN (field b 8 1 % 64) (field b 0 8)

/-- Tags a graph may hold (check 1). -/
def graphTag (t : Nat) : Bool :=
  decide (t ≤ 0x0C) || [0x0E, 0x0F, 0x10, 0x11, 0x13, 0x14].contains t || decide (0x30 ≤ t)

/-- A LEN that R440 and R441 allow for a kind (check 3). -/
def graphLen (kind len : Nat) : Bool :=
  if kind = kPair then len == 2
  else if kind = kBox then len == 1
  else if kind = kClo then decide (1 ≤ len ∧ len ≤ 65534)
  else decide (len ≤ 65534)

/-- The check that a word fails, given the offset at which the next header is due (R628). DEDUCED: an object that ends
beyond the graph fails check 2 at its header (log entry 44). -/
def wordCheck (s : State) (a len root w next : Nat) : Option Nat :=
  let x := graphWord s a w
  let hdr := x.t == tHDR
  let n := hdrLen x
  if !graphTag x.t then some 1
  else if hdr != (w == next) then some 2
  else if hdr && (5 < hdrKind x || !graphLen (hdrKind x) n) then some 3
  else if hdr && decide (len < w + 1 + n) then some 2
  else if hdr && (if n + 1 ≤ 256 then decide (w / 256 ≠ (w + n) / 256) else decide (w % 1024 ≠ 0) || !hdrLarge x) then some 4
  else if isPtrTag x.t && (decide (len ≤ addrOf x) || (let y := graphWord s a (addrOf x);
      y.t != tHDR || hdrKind y != x.t - 8)) then some 5
  else if (if hdr then hdrM x || hdrExc x || hdrMov x
      else if isPtrTag x.t then !x.canonical
      else decide (x.payload &&& ~~~(BitVec.ofNat 64 (payloadMask x.t)) ≠ 0#64)) then some 6
  else if w = root && (!hdr || 4 < hdrKind x) then some 7
  else none

/-- The first failing word of a graph and its check. -/
def graphCheck (s : State) (a len root : Nat) : Nat → Nat → Nat → Option (Nat × Nat)
  | 0, _, _ => if len ≤ root then some (root, 7) else none
  | n + 1, w, next =>
    match wordCheck s a len root w next with
    | some k => some (w, k)
    | none => graphCheck s a len root n (w + 1) (if w = next then w + 1 + hdrLen (graphWord s a w) else next)

/-- A word as it is copied: pointers made absolute, headers black with the current parity (R629). -/
def copyWord (s : State) (base : Nat) (x : TWord) : TWord :=
  if x.t = tHDR then { hdrSet x 20 s.heap.parity with colour := black }
  else if isPtrTag x.t then mkN x.t (addrOf x + base)
  else x

/-- Set the kinds of the granules of a copied graph. The whole pages of a large object are its own (09 R442). -/
def markGraph (base pages : Nat) (s : State) : State :=
  (List.range (4 * pages)).foldl (fun (s : State) k =>
    let a := base + 256 * k
    let large := (List.range (k / 4 + 1)).find? fun p =>
      let h := s.heapRead (base + 1024 * (k / 4 - p))
      h.t == tHDR && hdrLarge h
    let st : GranState := match large with
      | some p =>
        let b := base + 1024 * (k / 4 - p)
        if a = b then .largeHead else if a < b + 1024 * largePages (hdrLen (s.heapRead b)) then .largeTail else .used
      | none => .used
    s.setGran (granOf a) ⟨st, s.heap.parity, 0, false⟩) s

/-- Words of the objects of the pages that are not fillers. -/
def graphWords (base pages : Nat) (s : State) : Nat :=
  let gs := (List.range (4 * pages)).map fun k => granOf base + k
  ((gs.flatMap s.objects).filter fun f => hdrKind f.hdr ≠ kFill).foldl (fun n f => n + f.size) 0

/-- SCENE obtains its pages, then reads, checks and copies its graph (R629). err: a read of host memory failed. -/
def cmdScene (ring : Nat) (err : Bool) (s : State) : State :=
  match s.evr.flights.find? fun f => f.ring == ring && f.op == 0x02 && (f.wait == .todo || f.wait == .spin) with
  | none => s
  | some f =>
    let len := f.field 16 4
    let pages := (len + 1023) / 1024
    let root := f.field 20 4
    match f.wait with
    | .todo =>
      let r : SpinReq := ⟨.ring f.order, kVec, 1024 * pages - 1, unb 0, unb 0, 0, s.heap.cycle.toNat⟩
      (s.spinWait r).setFlight f .spin
    | _ =>
      match s.heap.answers.find? f.order with
      | none => s
      | some .exhausted => (freeScene f.order s).answerBad f stExhausted
      | some (.large base _) =>
        let a := f.field 8 8
        if err then (freeScene f.order s).answerBad f stHosterr
        else match graphCheck s a len root len 0 0 with
          | some (w, k) => (freeScene f.order s).answerCmd f stBadgraph k w 0 0
          | none =>
            let s := (List.range len).foldl (fun (s : State) w => s.heapPut (base + w) (copyWord s base (graphWord s a w))) s
            let s := fillRun (4 * pages + 1) (base + len) (base + 1024 * pages) s
            (s.setHeap fun h => { h with answers := AMap.erase h.answers f.order }).setFlight f (.copied base (base + root))

/-- The pages of a copied graph become allocated objects (R630). -/
def handPages (f : Flight) (base : Nat) (s : State) : State :=
  let pages := (f.field 16 4 + 1023) / 1024
  let s := markGraph base pages s
  let n := graphWords base pages s
  (s.report 2 0 [(1, -((1024 * pages : Nat) : Int)), (2, (n : Int)), (0, ((1024 * pages - n : Nat) : Int))]).gcTrigger

/-- A copied graph is stored in the lowest free inbox record (R631, R632). -/
def sceneHandoff (ring : Nat) (s : State) : State :=
  match s.evr.flights.find? fun f => f.ring == ring && (match f.wait with | .copied _ _ => true | _ => false) with
  | none => s
  | some f => match f.wait with
    | .copied base root =>
      if !s.liveHandle s.svc then (freeScene f.order s).answerBad f stNosvc
      else
        let v := s.inbox
        match (List.range (s.vecLen v / 16)).find? fun r => (s.elem v (16 * r + 10)).t == tNIL with
        | none => s
        | some r =>
          let s := handPages f base s
          let put := fun (s : State) (i : Nat) (w : TWord) => s.engineStore v (16 * r + i) w
          let s := (List.range 8).foldl (fun s i => put s i (rawW (f.field (8 * i) 8))) s
          let s := put s 8 (fix ((ring * 65536 + f.cidx : Nat) : Int))
          let s := put s 9 (ptrTo (hdrKind (s.heapRead root)) root)
          let s := [11, 12, 13, 14, 15].foldl (fun s i => put s i (unb 0)) s
          let s := (put s 10 (unb 0)).setFlight f (.inbox r)
          (s.sendSprig s.svc (BitVec.ofNat 64 (2 ^ 48))).irq 0 (ring + f.cidx * 65536)
    | _ => s

/-- Firmware's answer in an inbox record (R633, R635). -/
def inboxAnswer (r : Nat) (s : State) : State :=
  match s.evr.flights.find? fun f => f.wait == .inbox r with
  | none => s
  | some f =>
    let v := s.inbox
    let e := fun (i : Nat) => s.elem v (16 * r + i)
    if (e 10).t ≠ tFIX then s
    else
      let st := (e 10).p % 256
      let s' := s.setElem v (16 * r + 10) nil
      if 13 < st then s'.answerBad f stBadcmd
      else s'.answerCmd f st (bits (e 10).p 23 8) (e 11).p (e 12).p (e 13).p

/-! ### PICTURE (R636; 13 R693, R694) -/

/-- Positions of the guest plane that a picture touches. -/
def picturePlaces (f : Flight) : List (Nat × Nat) :=
  let x := f.field 32 2
  let y := f.field 34 2
  let x1 := x + f.field 24 2 - 1
  let y1 := y + f.field 26 2 - 1
  (range' (y / 32) (y1 / 32 + 1 - y / 32)).flatMap fun r => (range' (x / 32) (x1 / 32 + 1 - x / 32)).map fun c => (c, r)

/-- A host pixel, straight alpha, as a premultiplied one (13 R693). -/
def premultiply (b : List Byte) : List Byte :=
  let a := field b 3 1
  (List.range 3).map (fun k => BitVec.ofNat 8 (roundEven (field b k 1 * a) 255)) ++ [BitVec.ofNat 8 a]

/-- The bytes of the guest tile at a position. -/
def guestTile (s : State) (f : Flight) (p : Nat × Nat) : List Byte :=
  let x0 := f.field 32 2
  let y0 := f.field 34 2
  (List.range 32).flatMap fun j => (List.range 32).flatMap fun i =>
    let x := 32 * p.1 + i
    let y := 32 * p.2 + j
    if x0 ≤ x ∧ x < x0 + f.field 24 2 ∧ y0 ≤ y ∧ y < y0 + f.field 26 2 then
      premultiply (s.hostRead (f.field 16 8 + (y - y0) * f.field 28 4 + 4 * (x - x0)) 4)
    else List.replicate 4 0#8

/-- Take a pool tile for each position while one is FREE (13 R675, R694). -/
def takeTiles : List (Nat × Nat) → AMap Nat → State → AMap Nat × State
  | [], m, s => (m, s)
  | p :: ps, m, s =>
    if (AMap.find? m (posKey 0 p)).isSome then takeTiles ps m s
    else match s.freeTile with
      | some t => takeTiles ps (AMap.insert m (posKey 0 p) t) (s.useTile t 0)
      | none => (m, s)

/-- PICTURE takes tiles and copies; while a tile is wanting it waits. err: a read of host memory failed. -/
def cmdPicture (ring : Nat) (err : Bool) (s : State) : State :=
  match s.evr.flights.find? fun f => f.ring == ring && f.op == 0x03 with
  | none => s
  | some f =>
    let have' : AMap Nat := match f.wait with | .picture m => m | _ => []
    if err then (have'.foldl (fun s t => s.freeTileNo t.2) s).answerBad f stHosterr
    else
      let ps := picturePlaces f
      let (m, s) := takeTiles ps have' s
      let s := ps.foldl (fun (s : State) p => match AMap.find? m (posKey 0 p), AMap.find? have' (posKey 0 p) with
        | some t, none => s.dramWrite (s.tileAt t) (guestTile s f p)
        | _, _ => s) s
      s.setFlight f (.picture m)

/-- Every tile of the picture is written: they are ivory for the next lock point, whose number is the answer. -/
def pictureComplete (ring : Nat) (s : State) : State :=
  match s.evr.flights.find? fun f => f.ring == ring && (match f.wait with | .picture _ => true | _ => false) with
  | none => s
  | some f => match f.wait with
    | .picture m =>
      if m.length ≠ (picturePlaces f).length then s
      else
        let out := f.field 8 1
        let o := s.pic.out out
        let s := match o.guestNext with
          | some g => g.foldl (fun (s : State) (t : Nat × Nat) => s.freeTileNo t.2) s
          | none => s
        let s := s.setPic fun p => p.setOut out { p.out out with guestNext := some m }
        s.answerOk f (s.pair (F.MIR_FRAME_LO_FRAME out).off + 1) 0 0
    | _ => s

/-! ### STAGE and APPLY (R637 to R643) -/

/-- A register the host may write (01 R53, R54). -/
def hostMayWrite (off : Nat) : Bool :=
  [0x0, 0x2, 0x3, 0x4, 0x5, 0x6, 0x7, 0xA, 0xB, 0xF].contains (off / 4096) &&
    match regRow off with
    | some (r, _) => r.fields.all fun f => f.who ≠ .warden
    | none => true

def cmdStage (ring : Nat) (s : State) : State :=
  withTodo ring 0x05 s fun f s =>
    let n := f.field 8 1
    let ws := (List.range n).map fun j =>
      (⟨f.field (16 + 8 * j) 4, BitVec.ofNat 32 (f.field (20 + 8 * j) 4)⟩ : StagedWrite)
    let have' := (s.ring ring).staged
    match ws.find? fun w => !hostMayWrite w.off with
    | some _ => s.answerBad f stDenied
    | none =>
      if 256 < have'.length + n then s.answerBad f stFull
      else (s.modRing ring fun r => { r with staged := r.staged ++ ws }).answerOk f (have'.length + n) 0 0

/-- The sprigs an APPLY names. -/
def applySprigs (f : Flight) : List TWord := (List.range (f.field 10 1)).map fun j => mkN tSPRG (f.field (16 + 8 * j) 3)

def cmdApply (ring : Nat) (s : State) : State :=
  withTodo ring 0x06 s fun f s =>
    let set := (s.ring ring).staged
    let s := s.modRing ring fun r => { r with staged := [] }
    if f.field 11 1 = 1 ∨ set.isEmpty then s.answerOk f 0 0 0
    else
      let hs := applySprigs f
      (hs.foldl (fun s h => holdFor f.order h s) s).setFlight f (.apply set hs 0 true false)

/-- SHP_APPLY.MARGIN_US before a lock point of an output: the APPLYs of a ring that target it are made ready or deferred
(R639; 10 R528). -/
def marginExpire (ring out : Nat) (s : State) : State :=
  (s.flightsOf 0x06 fun f => f.ring == ring && f.field 8 1 == out).foldl (fun (s : State) f =>
    match f.wait with
    | .apply set hs k true false =>
      if allHeld s hs then s.setFlight f (.apply set hs k true true)
      else
        let s := hs.foldl (fun s h => unhold f.order h s) s
        let s := (s.irq13 3 0).event 4 (ring + (k + 1) * 256)
        if f.field 9 1 ≤ k + 1 then applyGiveUp { f with wait := .apply set [] k false false } stTimeout s
        else s.setFlight f (.apply set hs (k + 1) false false)
    | _ => s) s

/-- At a lock point the APPLYs that were deferred hold their sprigs again. -/
def applyRetarget (out : Nat) (s : State) : State :=
  (s.flightsOf 0x06 fun f => f.field 8 1 == out).foldl (fun (s : State) f =>
    match f.wait with
    | .apply set hs k false _ => (hs.foldl (fun s h => holdFor f.order h s) s).setFlight f (.apply set hs k true false)
    | _ => s) s

/-- A mode change ends every APPLY that waits (R643). -/
def abortApplies (s : State) : State :=
  (s.flightsOf 0x06 fun f => match f.wait with | .apply _ _ _ _ _ => true | _ => false).foldl
    (fun s f => applyGiveUp f stAborted s) s

/-- Cells 0 to 255 become held: every record handed to firmware is answered ABORTED (R635). -/
def abortInbox (s : State) : State :=
  (s.evr.flights.filter fun f => match f.wait with | .inbox _ => true | _ => false).foldl (fun s f => abortFlight f s) s

end Sys2Proof.Machine
end

