-- ==== Sys2Proof/Machine/Crypto.lean ====
section
/-!
DEFINITION. The checksum and the cryptographic functions the spec names: CRC-32 (14 R727), SHA-256 (FIPS 180-4), HMAC
(FIPS 198-1), the counter-mode KDF (18 R883), AES (FIPS 197), CMAC (14 R739), AES key wrap (18 R884), ECDSA P-256 (18
R870).
-/
namespace Sys2Proof.Machine

/-! ### CRC-32 -/

/-- One byte into the reflected CRC register. -/
def crcByte (c : W32) (b : Byte) : W32 :=
  (List.range 8).foldl (fun c _ => if c.getLsbD 0 then (c >>> 1) ^^^ 0xEDB88320#32 else c >>> 1) (c ^^^ b.setWidth 32)

def crc32 (bs : List Byte) : W32 := bs.foldl crcByte 0xFFFFFFFF#32 ^^^ 0xFFFFFFFF#32

/-! ### SHA-256 -/

def shaK : List Nat :=
  [0x428a2f98, 0x71374491, 0xb5c0fbcf, 0xe9b5dba5, 0x3956c25b, 0x59f111f1, 0x923f82a4, 0xab1c5ed5] ++
  [0xd807aa98, 0x12835b01, 0x243185be, 0x550c7dc3, 0x72be5d74, 0x80deb1fe, 0x9bdc06a7, 0xc19bf174] ++
  [0xe49b69c1, 0xefbe4786, 0x0fc19dc6, 0x240ca1cc, 0x2de92c6f, 0x4a7484aa, 0x5cb0a9dc, 0x76f988da] ++
  [0x983e5152, 0xa831c66d, 0xb00327c8, 0xbf597fc7, 0xc6e00bf3, 0xd5a79147, 0x06ca6351, 0x14292967] ++
  [0x27b70a85, 0x2e1b2138, 0x4d2c6dfc, 0x53380d13, 0x650a7354, 0x766a0abb, 0x81c2c92e, 0x92722c85] ++
  [0xa2bfe8a1, 0xa81a664b, 0xc24b8b70, 0xc76c51a3, 0xd192e819, 0xd6990624, 0xf40e3585, 0x106aa070] ++
  [0x19a4c116, 0x1e376c08, 0x2748774c, 0x34b0bcb5, 0x391c0cb3, 0x4ed8aa4a, 0x5b9cca4f, 0x682e6ff3] ++
  [0x748f82ee, 0x78a5636f, 0x84c87814, 0x8cc70208, 0x90befffa, 0xa4506ceb, 0xbef9a3f7, 0xc67178f2]

def shaInit : List Nat :=
  [0x6a09e667, 0xbb67ae85, 0x3c6ef372, 0xa54ff53a, 0x510e527f, 0x9b05688c, 0x1f83d9ab, 0x5be0cd19]

def ror (x : W32) (n : Nat) : W32 := x.rotateRight n

/-- The message schedule: w holds the words so far, the latest first. -/
def shaExtend : Nat → List W32 → List W32
  | 0, w => w
  | n + 1, w =>
    let a := w.getD 1 0#32
    let b := w.getD 14 0#32
    let s0 := ror b 7 ^^^ ror b 18 ^^^ (b >>> 3)
    let s1 := ror a 17 ^^^ ror a 19 ^^^ (a >>> 10)
    shaExtend n ((w.getD 15 0#32 + s0 + w.getD 6 0#32 + s1) :: w)

/-- One round on the working variables a to h. -/
def shaRound (v : List W32) (kw : W32) : List W32 :=
  match v with
  | [a, b, c, d, e, f, g, h] =>
    let s1 := ror e 6 ^^^ ror e 11 ^^^ ror e 25
    let t1 := h + s1 + ((e &&& f) ^^^ (~~~e &&& g)) + kw
    let s0 := ror a 2 ^^^ ror a 13 ^^^ ror a 22
    let t2 := s0 + ((a &&& b) ^^^ (a &&& c) ^^^ (b &&& c))
    [t1 + t2, a, b, c, d + t1, e, f, g]
  | _ => v

def word32 (bs : List Byte) (i : Nat) : W32 := BitVec.ofNat 32 (beNat ((bs.drop (4 * i)).take 4))

def shaBlock (h : List W32) (block : List Byte) : List W32 :=
  let w := (shaExtend 48 ((List.range 16).map (word32 block)).reverse).reverse
  let kws := List.zipWith (fun k x => BitVec.ofNat 32 k + x) shaK w
  List.zipWith (· + ·) h (kws.foldl shaRound h)

/-- Blocks of n bytes; fuel bounds their number. -/
def blocks (n : Nat) : Nat → List Byte → List (List Byte)
  | 0, _ => []
  | k + 1, bs => if bs.isEmpty then [] else bs.take n :: blocks n k (bs.drop n)

def sha256 (m : List Byte) : List Byte :=
  let pad := (119 - m.length % 64) % 64
  let p := m ++ [0x80#8] ++ List.replicate pad 0#8 ++ beBytes 8 (8 * m.length)
  ((blocks 64 (p.length / 64) p).foldl shaBlock (shaInit.map (BitVec.ofNat 32))).flatMap fun x => beBytes 4 x.toNat

def hmac (key m : List Byte) : List Byte :=
  let k := if 64 < key.length then sha256 key else key
  let k := k ++ List.replicate (64 - k.length) 0#8
  sha256 (k.map (· ^^^ 0x5C#8) ++ sha256 (k.map (· ^^^ 0x36#8) ++ m))

/-- The first 256 bits of the KDF in counter mode: counter 1, label, a zero byte, empty context, length 256 (18 R883). -/
def kdf (key label : List Byte) : List Byte := hmac key (beBytes 4 1 ++ label ++ [0#8] ++ beBytes 4 256)

/-! ### AES -/

/-- Multiplication by x in GF(2^8). -/
def xtime (b : Byte) : Byte := if b.getLsbD 7 then (b <<< 1) ^^^ 0x1B#8 else b <<< 1

def gmul (a b : Byte) : Byte :=
  ((List.range 8).foldl (fun (p : Byte × Byte) i => (if b.getLsbD i then p.1 ^^^ p.2 else p.1, xtime p.2)) (0#8, a)).1

/-- The inverse in GF(2^8): the 254th power. -/
def ginv (a : Byte) : Byte :=
  let a2 := gmul a a
  let a4 := gmul a2 a2
  let a8 := gmul a4 a4
  let a16 := gmul a8 a8
  let a32 := gmul a16 a16
  let a64 := gmul a32 a32
  let a128 := gmul a64 a64
  gmul a128 (gmul a64 (gmul a32 (gmul a16 (gmul a8 (gmul a4 a2)))))

def sbox (a : Byte) : Byte :=
  let b := ginv a
  b ^^^ b.rotateLeft 1 ^^^ b.rotateLeft 2 ^^^ b.rotateLeft 3 ^^^ b.rotateLeft 4 ^^^ 0x63#8

def invSbox (a : Byte) : Byte :=
  ginv (a.rotateLeft 1 ^^^ a.rotateLeft 3 ^^^ a.rotateLeft 6 ^^^ 0x05#8)

def xorB (a b : List Byte) : List Byte := List.zipWith (· ^^^ ·) a b

/-- Expand a key of nk words to n further words; w holds the words so far, the latest first. -/
def keyExpand (nk : Nat) : Nat → Byte → List (List Byte) → List (List Byte)
  | 0, _, w => w
  | n + 1, rc, w =>
    let i := w.length
    let t := w.headD []
    let t' := if i % nk = 0 then
        xorB ((t.drop 1 ++ t.take 1).map sbox) [rc, 0#8, 0#8, 0#8]
      else if 6 < nk ∧ i % nk = 4 then t.map sbox
      else t
    keyExpand nk n (if i % nk = 0 then xtime rc else rc) (xorB (w.getD (nk - 1) []) t' :: w)

/-- The round keys of a key of 16 or 32 bytes. -/
def roundKeys (key : List Byte) : List (List Byte) :=
  let nk := key.length / 4
  let w := (keyExpand nk (4 * (nk + 7) - nk) 1#8 (blocks 4 nk key).reverse).reverse
  (List.range (nk + 7)).map fun r => ((w.drop (4 * r)).take 4).flatten

def byteAt (s : List Byte) (i : Nat) : Byte := s.getD i 0#8

def shiftRows (s : List Byte) : List Byte := (List.range 16).map fun i => byteAt s ((i + 4 * (i % 4)) % 16)
def invShiftRows (s : List Byte) : List Byte := (List.range 16).map fun i => byteAt s ((i + 12 * (i % 4)) % 16)

/-- MixColumns with the coefficients of one row. -/
def mixColumns (co : List Byte) (s : List Byte) : List Byte :=
  (List.range 16).map fun i =>
    let c := i / 4 * 4
    (List.range 4).foldl (fun x k => x ^^^ gmul (byteAt co ((k + 4 - i % 4) % 4)) (byteAt s (c + k))) 0#8

def aesEncrypt (key block : List Byte) : List Byte :=
  let ks := roundKeys key
  let n := ks.length - 1
  let s := xorB block (ks.headD [])
  let s := (List.range (n - 1)).foldl (fun s r =>
    xorB (mixColumns [2#8, 3#8, 1#8, 1#8] (shiftRows (s.map sbox))) (ks.getD (r + 1) [])) s
  xorB (shiftRows (s.map sbox)) (ks.getD n [])

def aesDecrypt (key block : List Byte) : List Byte :=
  let ks := roundKeys key
  let n := ks.length - 1
  let s := xorB block (ks.getD n [])
  let s := (List.range (n - 1)).foldl (fun s r =>
    mixColumns [14#8, 11#8, 13#8, 9#8] (xorB ((invShiftRows s).map invSbox) (ks.getD (n - 1 - r) []))) s
  xorB ((invShiftRows s).map invSbox) (ks.headD [])

/-- Doubling of a CMAC subkey. -/
def cmacDouble (l : List Byte) : List Byte :=
  let v : BitVec 128 := BitVec.ofNat 128 (beNat l)
  beBytes 16 (if v.getLsbD 127 then (v <<< 1) ^^^ 0x87#128 else v <<< 1).toNat

def cmac (key m : List Byte) : List Byte :=
  let k1 := cmacDouble (aesEncrypt key (List.replicate 16 0#8))
  let n := max 1 ((m.length + 15) / 16)
  let last := m.drop (16 * (n - 1))
  let last := if last.length = 16 then xorB last k1
    else xorB (last ++ [0x80#8] ++ List.replicate (15 - last.length) 0#8) (cmacDouble k1)
  (blocks 16 (n - 1) (m.take (16 * (n - 1))) ++ [last]).foldl (fun x b => aesEncrypt key (xorB x b)) (List.replicate 16 0#8)

/-- One step of the unwrapping of KW: register A and the semiblocks, step t of t down to 1. -/
def kwStep (key : List Byte) (n : Nat) (st : List Byte × List (List Byte)) (t : Nat) : List Byte × List (List Byte) :=
  let i := (t - 1) % n
  let b := aesDecrypt key (xorB st.1 (beBytes 8 t) ++ st.2.getD i [])
  (b.take 8, st.2.set i (b.drop 8))

/-- AES key unwrap: none when the integrity check fails or the blob is not two or more whole semiblocks after A. -/
def kwUnwrap (key blob : List Byte) : Option (List Byte) :=
  if blob.length % 8 ≠ 0 ∨ blob.length < 24 then none
  else
    let n := blob.length / 8 - 1
    let st := ((List.range (6 * n)).map fun k => 6 * n - k).foldl (kwStep key n) (blob.take 8, blocks 8 n (blob.drop 8))
    if st.1 = List.replicate 8 0xA6#8 then some st.2.flatten else none

/-! ### ECDSA over P-256 -/

def ecP : Nat := 0xffffffff00000001000000000000000000000000ffffffffffffffffffffffff
def ecN : Nat := 0xffffffff00000000ffffffffffffffffbce6faada7179e84f3b9cac2fc632551
def ecB : Nat := 0x5ac635d8aa3a93e7b3ebbd55769886bc651d06b0cc53b0f63bce3c3e27d2604b
def ecGx : Nat := 0x6b17d1f2e12c4247f8bce6e563a440f277037d812deb33a0f4a13945d898c296
def ecGy : Nat := 0x4fe342e2fe1a7f9b8ee7eb4a7c0f9e162bce33576b315ececbb6406837bf51f5

/-- a^e modulo m by the low n bits of e. -/
def powMod (m : Nat) : Nat → Nat → Nat → Nat
  | 0, _, _ => 1 % m
  | n + 1, a, e => let r := powMod m n (a * a % m) (e / 2); if e % 2 = 1 then r * a % m else r

def invMod (m a : Nat) : Nat := powMod m 256 (a % m) (m - 2)

/-- A point in Jacobian coordinates; z = 0 at infinity. -/
structure Ec where
  x : Nat
  y : Nat
  z : Nat
  deriving DecidableEq, Repr

def fsub (a b : Nat) : Nat := (a + ecP - b % ecP) % ecP
def fmul (a b : Nat) : Nat := a * b % ecP

def Ec.dbl (p : Ec) : Ec :=
  if p.z = 0 ∨ p.y = 0 then ⟨1, 1, 0⟩
  else
    let yy := fmul p.y p.y
    let s := fmul 4 (fmul p.x yy)
    let zz := fmul p.z p.z
    let m := fmul 3 (fmul (fsub p.x zz) ((p.x + zz) % ecP))
    let x := fsub (fmul m m) (2 * s)
    ⟨x, fsub (fmul m (fsub s x)) (fmul 8 (fmul yy yy)), fmul 2 (fmul p.y p.z)⟩

def Ec.add (p q : Ec) : Ec :=
  if p.z = 0 then q
  else if q.z = 0 then p
  else
    let z1 := fmul p.z p.z
    let z2 := fmul q.z q.z
    let u1 := fmul p.x z2
    let u2 := fmul q.x z1
    let s1 := fmul p.y (fmul z2 q.z)
    let s2 := fmul q.y (fmul z1 p.z)
    if u1 = u2 then (if s1 = s2 then p.dbl else ⟨1, 1, 0⟩)
    else
      let h := fsub u2 u1
      let r := fsub s2 s1
      let hh := fmul h h
      let hhh := fmul h hh
      let v := fmul u1 hh
      let x := fsub (fsub (fmul r r) hhh) (2 * v)
      ⟨x, fsub (fmul r (fsub v x)) (fmul s1 hhh), fmul h (fmul p.z q.z)⟩

/-- k times a point, by the low n bits of k. -/
def Ec.mul : Nat → Nat → Ec → Ec
  | 0, _, _ => ⟨1, 1, 0⟩
  | n + 1, k, p => let r := Ec.mul n (k / 2) p.dbl; if k % 2 = 1 then r.add p else r

def onCurve (x y : Nat) : Bool :=
  decide (x < ecP ∧ y < ecP) && fmul y y == (fmul x (fmul x x) + ecP * 3 - 3 * x + ecB) % ecP

/-- Verify a 64-byte signature (r, then s, big-endian) over a 32-byte digest under a 64-byte public key (x, then y). -/
def ecdsaVerify (pub digest sig : List Byte) : Bool :=
  let x := beNat (pub.take 32)
  let y := beNat (pub.drop 32)
  let r := beNat (sig.take 32)
  let s := beNat (sig.drop 32)
  if !onCurve x y || r == 0 || s == 0 || decide (ecN ≤ r) || decide (ecN ≤ s) then false
  else
    let w := invMod ecN s
    let p := (Ec.mul 256 (beNat digest * w % ecN) ⟨ecGx, ecGy, 1⟩).add (Ec.mul 256 (r * w % ecN) ⟨x, y, 1⟩)
    if p.z = 0 then false
    else
      let zi := invMod ecP p.z
      fmul p.x (fmul zi zi) % ecN == r

end Sys2Proof.Machine
end

