-- ==== Sys2Proof/Machine/Lamps.lean ====
section
/-!
DEFINITION. The Lamp engine, the Lantern planes, the Witness and the backup LEDs (14 R705 to R749).
-/
namespace Sys2Proof.Machine

def State.setLamps (s : State) (f : Lamps → Lamps) : State := { s with lamps := f s.lamps }

/-! ### The lamp book (R710 to R715) -/

/-- Bytes of a 16-bit number. -/
def half (v k : Nat) : Nat := v / 256 ^ k % 256

/-- A byte of the ROM lamp set: what R710, R711 and R714 say of it, and the ROM's own bytes where they do not (log
entry 11). -/
def romSetByte (o : Nat) : Nat :=
  let own := (Config.romByte o).toNat
  if o < 4 then [0x4C, 0x42, 0x4B, 0x31].getD o 0
  else if o < 128 then
    if o = 4 then 24 else if o = 5 ∨ (8 ≤ o ∧ o < 12) ∨ 80 ≤ o then 0 else own
  else if o < 128 + 48 * 24 then
    let i := (o - 128) / 48
    let k := (o - 128) % 48
    let blink := i == 16 || i == 17 || i == 18
    if k < 2 then half (8 + 56 * (i % 8)) k
    else if k < 4 then half (8 + 56 * (i / 8)) (k - 2)
    else if k < 6 then 47
    else if k = 6 then 2 + 32 * b2n blink
    else if k = 7 then 0
    else if k < 10 then half (0x2000 + i) (k - 8)
    else if k < 16 then 0
    else if blink ∧ (k = 18 ∨ k = 19) then half 667 (k - 18)
    else if blink ∧ (k = 20 ∨ k = 21) then half 333 (k - 20)
    else if k = 22 ∨ k = 23 ∨ (28 ≤ k ∧ k < 32) ∨ 40 ≤ k then 0
    else own
  else own

/-- A byte of the book in use: the lamp store, or the ROM lamp set. -/
def State.bookByte (s : State) (o : Nat) : Nat :=
  if s.bit F.LMP_STATUS_ROMSET then romSetByte o else (Memory.read 0#8 s.lamps.store o).toNat

/-- n bytes of the book, little-endian. -/
def State.bookLe (s : State) (o n : Nat) : Nat := (List.range n).foldr (fun k a => s.bookByte (o + k) + 256 * a) 0

/-- A lamp record (R711). -/
structure LampRec where
  x : Nat
  y : Nat
  w : Nat
  h : Nat
  flags : Nat
  terms : List Nat
  minon : Nat
  period : Nat
  ontime : Nat
  gon : Nat
  goff : Nat
  bg : List Nat
  sigOn : W32
  sigOff : W32
  deriving DecidableEq, Repr

def LampRec.out (r : LampRec) : Nat := r.flags % 2
def LampRec.en (r : LampRec) : Bool := r.flags.testBit 1
def LampRec.anyOf (r : LampRec) : Bool := r.flags.testBit 2
def LampRec.latch (r : LampRec) : Bool := r.flags.testBit 3
def LampRec.bulb (r : LampRec) : Bool := r.flags.testBit 4
def LampRec.blink (r : LampRec) : Bool := r.flags.testBit 5
def LampRec.bsync (r : LampRec) : Bool := r.flags.testBit 6

/-- Record i of the book in use. -/
def State.lampRec (s : State) (i : Nat) : LampRec :=
  let g := fun (o n : Nat) => s.bookLe (128 + 48 * i + o) n
  ⟨g 0 2, g 2 2, g 4 1 + 1, g 5 1 + 1, g 6 1, [g 8 2, g 10 2, g 12 2, g 14 2], g 16 2, g 18 2, g 20 2, g 24 2, g 26 2,
    [g 28 1, g 29 1, g 30 1], BitVec.ofNat 32 (g 32 4), BitVec.ofNat 32 (g 36 4)⟩

def State.nLamps (s : State) : Nat := s.bookByte 4
def State.nGlyphs (s : State) : Nat := s.bookLe 6 2
def State.bulbMs (s : State) : Nat := s.bookLe 8 2

/-- Lamp i is described and enabled (R711). -/
def State.lampPresent (s : State) (i : Nat) : Bool := decide (i < s.nLamps) && (s.lampRec i).en

/-- Directory entry, palette and atlas (R712). -/
def State.glyphAt (s : State) (g : Nat) : Nat := 128 + 48 * s.nLamps + 64 * g
def State.glyphW (s : State) (g : Nat) : Nat := s.bookByte (s.glyphAt g + 4) + 1
def State.glyphH (s : State) (g : Nat) : Nat := s.bookByte (s.glyphAt g + 5) + 1
def State.atlas (s : State) : Nat := s.glyphAt s.nGlyphs

/-- Colour index of pixel (x, y) of glyph g. -/
def State.glyphIndex (s : State) (g x y : Nat) : Nat :=
  let b := s.bookByte (s.atlas + s.bookLe (s.glyphAt g) 4 + y * ((s.glyphW g + 1) / 2) + x / 2)
  if x % 2 = 0 then b % 16 else b / 16

/-- The colour of pixel (u, v) of a lamp box (R706): red, green, blue. -/
def State.boxPixel (s : State) (r : LampRec) (on : Bool) (u v : Nat) : List Nat :=
  let g := if on then r.gon else r.goff
  if g = 0xFFFF then r.bg
  else
    let ox := (r.w - s.glyphW g) / 2
    let oy := (r.h - s.glyphH g) / 2
    if ox ≤ u ∧ u < ox + s.glyphW g ∧ oy ≤ v ∧ v < oy + s.glyphH g then
      let i := s.glyphIndex g (u - ox) (v - oy)
      if i = 0 then r.bg else (List.range 3).map fun k => s.bookByte (s.glyphAt g + 16 + 3 * i + k)
    else r.bg

/-- The signature of a box as R706 draws it (R727). -/
def State.boxSig (s : State) (r : LampRec) (on : Bool) : W32 :=
  crc32 ((List.range r.h).flatMap fun v => (List.range r.w).flatMap fun u => (s.boxPixel r on u v).map (BitVec.ofNat 8))

/-- A term is valid (R715). -/
def termOk (t : Nat) : Bool :=
  let i := t % 128
  bits t 11 7 == 0 &&
    match t / 2 ^ 13 with
    | 0 => t == 0
    | 1 => true
    | 2 => decide (i < 32)
    | 3 => decide (i < 48)
    | 4 => decide (i < 64)
    | 5 => decide (i < 32)
    | 6 => i == 0
    | _ => false

def allZero (s : State) (o n : Nat) : Bool := (List.range n).all fun k => s.bookByte (o + k) == 0

/-- A glyph number is absent, or is a glyph no larger than the box. -/
def glyphFits (s : State) (r : LampRec) (g : Nat) : Bool :=
  g == 0xFFFF || (decide (g < s.nGlyphs) && decide (s.glyphW g ≤ r.w ∧ s.glyphH g ≤ r.h))

def overlap (a b : LampRec) : Bool :=
  decide (a.x < b.x + b.w ∧ b.x < a.x + a.w ∧ a.y < b.y + b.h ∧ b.y < a.y + a.h)

/-- The book passes a check of R713. Checks 4 and 6 to 8 bind enabled lamps, since one with EN clear is absent (R711; log
entry 78). -/
def State.bookPasses (s : State) (check : Nat) : Bool :=
  let recs := (List.range s.nLamps).map s.lampRec
  let shown := recs.filter LampRec.en
  match check with
  | 1 => s.bookLe 0 4 == 0x314B424C && allZero s 5 1 && allZero s 10 2 && allZero s 80 48 &&
      ((List.range s.nLamps).all fun i =>
        let o := 128 + 48 * i
        decide ((s.lampRec i).flags < 128) && allZero s (o + 7) 1 && allZero s (o + 22) 2 && allZero s (o + 31) 1
          && allZero s (o + 40) 8) &&
      ((List.range s.nGlyphs).all fun g => allZero s (s.glyphAt g + 6) 10)
  | 2 => decide (1 ≤ s.nLamps ∧ s.nLamps ≤ 64 ∧ 1 ≤ s.nGlyphs ∧ s.nGlyphs ≤ 512 ∧ s.bookLe 12 4 ≤ 262144
      ∧ s.atlas + s.bookLe 12 4 ≤ 307200)
  | 3 => recs.all fun r => r.terms.all termOk
  | 4 => shown.all fun r => glyphFits s r r.gon && glyphFits s r r.goff
  | 5 => (List.range s.nGlyphs).all fun g =>
      decide (s.bookLe (s.glyphAt g) 4 + (s.glyphW g + 1) / 2 * s.glyphH g ≤ s.bookLe 12 4)
  | 6 => (shown.all fun r => if r.out = 0 then decide (r.x + r.w ≤ 3840 ∧ r.y + r.h ≤ 1440)
        else decide (r.x + r.w ≤ 1920 ∧ r.y + r.h ≤ 1080)) &&
      ((List.range s.nLamps).all fun i => (List.range i).all fun j =>
        let a := s.lampRec i
        let b := s.lampRec j
        !(a.en && b.en && a.out == b.out && overlap a b))
  | 7 => shown.all fun r => !r.blink || decide (2 ≤ r.period ∧ 1 ≤ r.ontime ∧ r.ontime < r.period)
  | _ => shown.all fun r => r.sigOn == s.boxSig r true && r.sigOff == s.boxSig r false

/-! ### State and appearance (R715, R716, R721, R723, R724) -/

def State.lamp (s : State) (i : Nat) : Lamp := AMap.get Lamp.reset s.lamps.lamps i

/-- Output of a window comparator (15 R783). -/
def State.compOut (s : State) (c : Nat) : Bool :=
  if s.bit (F.ADC_WINB_EN c) then (AMap.get Comparator.reset s.adc.comps c).out else s.bit (F.ADC_WINB_STALEVAL c)

/-- The input of a term (R715). -/
def State.termInput (s : State) (t : Nat) : Bool :=
  let i := t % 128
  let word := fun (off : Nat) => (s.reg (off + 4 * (i / 32))).getLsbD (i % 32)
  let v := match t / 2 ^ 13 with
    | 1 => word 0xBA00
    | 2 => s.lamps.pins.getLsbD i
    | 3 => s.compOut i
    | 4 => word 0x8020
    | 5 => (s.reg 0x801C).getLsbD i
    | _ => true
  v != t.testBit 12

/-- A lamp's expression (R716). -/
def State.lampExpr (s : State) (r : LampRec) : Bool :=
  let used := r.terms.filter fun t => t / 2 ^ 13 ≠ 0
  if used.isEmpty then false
  else if r.anyOf then used.any s.termInput else used.all s.termInput

/-- One lamp in one pass (R721). -/
def lampNext (r : LampRec) (e unlatch : Bool) (t : Nat) (l : Lamp) : Lamp :=
  let past := decide (l.ta + r.minon * 1000000 ≤ t)
  match l.st with
  | .off => if e then ⟨if r.latch then .latched else .on, t⟩ else l
  | .on => if e then l else if past then { l with st := .off } else { l with st := .hold }
  | .hold => if e then { l with st := .on } else if past then { l with st := .off } else l
  | .latched => if unlatch then { l with st := if e then .on else .off } else l

/-- A lamp is active: by its state, or by the bulb check (R721, R724). -/
def State.lampActive (s : State) (i : Nat) : Bool :=
  s.lampPresent i && ((s.lamp i).st != .off || (s.lamps.bulb && (s.lampRec i).bulb))

/-- Whether a lamp shows its ON glyph at a stamp (R723, R724). -/
def State.lampOn (s : State) (i t : Nat) : Bool :=
  let r := s.lampRec i
  if s.lamps.bulb && r.bulb then s.lampPresent i
  else if !s.lampActive i then false
  else if r.blink then decide ((t - (if r.bsync then (s.lamp i).ta else 0)) / 1000000 % r.period < r.ontime)
  else true

def State.lampBitmap (s : State) : Nat := (List.range 64).foldl (fun m i => m + b2n (s.lampActive i) * 2 ^ i) 0

/-! ### Passes and commits (R720 to R725) -/

/-- A commit with a snapshot's stamp (R725). -/
def State.lampCommit (s : State) (t : Nat) : State :=
  let s := ((s.setPair 0x8008 s.lampBitmap).setPair 0x8010 t).count F.LMP_COMMIT_CNT_COUNT
  if s.bit F.LMP_CTL_CIRQ then s.irq 5 (s.reg 0x8018).toNat else s

/-- A pass (R720): every lamp from one snapshot; it commits when a state or the active lamps change, or when due says
that a commit is due. -/
def lampEval (due : Bool) (s : State) : State :=
  if !s.lamps.armed then s
  else
    let t := s.now
    let old := s.lamps.lamps
    let next' : AMap Lamp := (List.range 64).foldl (fun m i =>
      if s.lampPresent i then
        let r := s.lampRec i
        AMap.put Lamp.reset m i (lampNext r (s.lampExpr r) (s.lamps.unlatch.getLsbD i) t (s.lamp i))
      else m) old
    let s := s.setLamps fun l => { l with lamps := next', unlatch := 0#64, changed := false }
    let s := if due || next' != old || s.lampBitmap != s.pair 0x8008 then s.lampCommit t else s
    answerLampreqs s

def lampPass (s : State) : State := lampEval false s

/-- An input or a timer has changed. -/
def State.lampChange (s : State) : State := s.setLamps fun l => { l with changed := true }

/-- MINON of a lamp in HOLD has passed (R721). -/
def minonExpire (i : Nat) (s : State) : State :=
  let l := s.lamp i
  if s.lamps.armed ∧ l.st = .hold ∧ l.ta + (s.lampRec i).minon * 1000000 ≤ s.now then s.lampChange else s

/-- The bulb check ends (R724, R725). -/
def bulbEnd (s : State) : State :=
  if s.lamps.bulb && decide (s.lamps.armAt + s.bulbMs * 1000000 ≤ s.now) then
    lampEval true (s.setLamps fun l => { l with bulb := false })
  else s

/-! ### Writes of the Warden (R709, R713, R718, R722) -/

/-- A write of the host to a field that only the Warden may write; a write of nothing changes no field (01 R55). -/
def State.hostDenied (s : State) (v : W32) : State := if v = 0#32 then s else s.hostRejected

def lampStoreWrite (req : Req) (v : W32) (s : State) : State :=
  if req = .host then s.hostDenied v
  else if s.bit F.LMP_CTL_ARM then s.reject 0x8044
  else
    let a := (s.reg 0x8040).toNat
    let s := if a < 307200 then s.setLamps fun l => { l with store := Memory.putLe 0#8 l.store a 4 v.toNat } else s
    s.setFld F.LMP_LDADDR_ADDR (s.fld F.LMP_LDADDR_ADDR + 1)

def lampArm (req : Req) (s : State) : State :=
  if req = .host then (if s.bit F.LMP_CTL_ARM then s else s.hostRejected)
  else if s.bit F.LMP_CTL_ARM then s
  else (s.setFld F.LMP_CTL_ARM 1).setLamps fun l => { l with checking := true }

/-- The book's checks are done: the arming instant (R713, R718, R721, R724). -/
def bookChecksDone (s : State) : State :=
  if !s.lamps.checking then s
  else
    let bad := (range' 1 8).find? fun k => !s.bookPasses k
    let s := match bad with
      | some k => ((s.setFld F.LMP_STATUS_BOOKERR k).setFld F.LMP_STATUS_ROMSET 1).raise aLmpBook k
      | none => s
    let s := s.setLamps fun l => { l with
      checking := false, armed := true, armAt := s.now, bulb := decide (0 < s.bulbMs), lamps := [], unlatch := 0#64,
      changed := true }
    let s := ((s.setReg 0x801C 0#32).setPair 0x8020 0).setReg 0x8018 0#32
    let s := s.setReg 0x9024 0#32
    if s.lamps.bulb then s.lampCommit s.now else s

def unlatchWrite (req : Req) (hi : Bool) (v : W32) (s : State) : State :=
  if req = .host then s.hostDenied v
  else (s.setLamps fun l => { l with unlatch := l.unlatch ||| (v.setWidth 64 <<< (if hi then 32 else 0)) }).lampChange

def cflagWrite (req : Req) (set' hi : Bool) (v : W32) (s : State) : State :=
  if req = .host then s.hostDenied v
  else
    let off := if hi then 0x8024 else 0x8020
    let old := s.reg off
    (s.setReg off (if set' then old ||| v else old &&& ~~~v)).lampChange

/-- The lamp debounce of a pin in ns (R717). -/
def State.debounceNs (s : State) (pin : Nat) : Nat := s.bookLe (16 + 2 * pin) 2 * 1000

/-- A pin's lamp input takes its level. -/
def State.pinToLamp (s : State) (pin : Nat) : State :=
  let v := BitVec.ofNat 32 (setBits s.lamps.pins.toNat pin pin (b2n (s.vio.raw.getLsbD pin)))
  (s.setLamps fun l => { l with pins := v }).lampChange

/-- A pin has been stable for its debounce time (R717). -/
def debounceExpire (pin : Nat) (s : State) : State :=
  if AMap.get 0 s.vio.rawAt pin + s.debounceNs pin ≤ s.now then s.pinToLamp pin else s

/-! ### Proof status (R728 to R731) -/

def State.witRuns (s : State) : Bool := s.lamps.armed && s.bit F.WIT_CTL_EN

/-- A comparator fault or a self-test failure stands. -/
def State.witFault (s : State) : Bool := s.bit F.WIT_STATUS_AB || s.bit F.WIT_STATUS_STEST

def State.presentMap (s : State) : Nat := (List.range 64).foldl (fun m i => m + b2n (s.lampPresent i) * 2 ^ i) 0

/-- Lamps FAILED: by their own boxes, or all while a fault stands (R730, R731, R733). -/
def State.failMap (s : State) : Nat := if s.witFault then s.presentMap else s.pair 0x9014

/-- Lamps PROVEN. -/
def State.provenMap (s : State) : Nat := if s.witFault then 0 else s.pair 0x901C

/-- FAILMAP of a proof frame: FAILED, or STALE while active (R737). -/
def State.frameFails (s : State) : Nat :=
  (List.range 64).foldl (fun m i =>
    m + b2n (s.failMap.testBit i || (s.lampActive i && !s.provenMap.testBit i)) * 2 ^ i) 0

def State.setMapBit (s : State) (lo i : Nat) (b : Bool) : State := s.setPair lo (setBits (s.pair lo) i i (b2n b))

/-! ### Proof records (R734, R735) -/

/-- A proof record goes to the log ring, or waits; the oldest is dropped from a full queue. -/
def State.proofRecord (s : State) (r : List Byte) : State :=
  if s.bit F.EVR_LCTL_EN && !s.gated then s.ringEntry true r
  else
    let q := s.lamps.records ++ [r]
    if 64 < q.length then
      (s.setLamps fun l => { l with records := q.tail }).bump F.WIT_RECLOST_CNT_COUNT F.WIT_STATUS_RECLOST_SAT
    else s.setLamps fun l => { l with records := q }

/-- The records that wait are handed over. -/
def State.flushRecords (s : State) : State :=
  if s.bit F.EVR_LCTL_EN && !s.gated then
    s.lamps.records.foldl (fun s r => s.ringEntry true r) (s.setLamps fun l => { l with records := [] })
  else s

/-- A record of a box or a fault. -/
def boxRecord (s : State) (type' lamp b4 b5 out a expected : Nat) : List Byte :=
  leBytes 2 6 ++ leBytes 1 type' ++ leBytes 1 lamp ++ leBytes 1 b4 ++ leBytes 3 b5 ++ leBytes 8 s.now
    ++ leBytes 4 (s.reg (F.MIR_FRAME_LO_FRAME out).off).toNat ++ leBytes 4 a ++ leBytes 4 expected

/-! ### Proof frames (R736 to R742) -/

/-- K2, if it holds a key that the Witness may use (18 R882, R886). -/
def State.proofKey (s : State) : Option (List Byte) :=
  if (s.fld F.GKP_KLOCK_ULOCK).testBit 2 then none
  else match s.gkp.keys.find? 2 with
    | some (.bytes k) => some k
    | _ => none

/-- A controller that sends frames: enabled, in normal or restricted mode, not bus-off (16 R800, R804). -/
def State.canSends (s : State) (n : Nat) : Bool :=
  s.bit (F.VIO_CAN_CTL_EN n) && (s.fld (F.VIO_CAN_CTL_MODE n) == 0 || s.fld (F.VIO_CAN_CTL_MODE n) == 1)
    && !s.bit (F.VIO_CAN_STAT_BUSOFF n)

def State.canLate (s : State) : State := s.bump F.WIT_CANLATE_CNT_COUNT F.WIT_STATUS_CANLATE_SAT

/-- Build and place a proof frame (R737 to R742). A frame that cannot be placed is not sent and not counted. -/
def State.proofFrame (s : State) : State :=
  let ctrl := s.actFld F.WIT_CAN_CTRL
  if !s.canSends ctrl then s.canLate
  else
    let key := s.proofKey
    let s := if key.isNone && !s.bit F.WIT_STATUS_KEYLOST then (s.setFld F.WIT_STATUS_KEYLOST 1).raise aWitKey 0 else s
    let s := s.count F.WIT_COUNTER_COUNT
    let n := (s.reg 0x9024).toNat
    let fails := s.frameFails
    let flags := b2n (s.bit F.LMP_STATUS_ROMSET) + 2 * b2n key.isNone + 4 * b2n s.witFault
    let bad := fails ≠ 0 ∨ s.witFault
    let type' := if bad then 2 else 1
    let head := leBytes 1 type' ++ leBytes 3 flags ++ leBytes 4 n ++ leBytes 8 s.lampBitmap ++ leBytes 8 fails
      ++ leBytes 8 s.now
    let id := s.actFld F.WIT_CANID_ID
    let ide := s.actBit F.WIT_CANID_IDE
    let mac := match key with
      | some k => (cmac (k.take 16) (leBytes 4 (id + b2n ide * 2 ^ 31) ++ head)).take 4
      | none => List.replicate 4 0#8
    let word := id + b2n ide * 2 ^ 29 + 2 ^ 30 + b2n (s.actBit F.WIT_CANID_BRS) * 2 ^ 31
    let s := if (s.vio.wit.find? ctrl).isSome then s.canLate else s
    let s := { s with vio := { s.vio with
      wit := AMap.insert s.vio.wit ctrl ⟨word, head ++ mac ++ List.replicate 12 0#8⟩ } }
    let s := s.proofRecord (leBytes 2 6 ++ leBytes 1 0x22 ++ leBytes 1 0xFF ++ leBytes 4 type' ++ leBytes 8 s.now
      ++ leBytes 4 n ++ leBytes 8 s.lampBitmap)
    let s := if s.bit F.WIT_CTL_PFIRQ then s.irq 6 4 else s
    answerProofs s.lampBitmap s.now n (b2n (decide bad)) s

/-- An immediate NOT-SHOWN frame, at most one in 10 ms (R741). -/
def State.immediateFrame (s : State) : State :=
  let free := match s.lamps.lastImm with
    | none => true
    | some t => decide (t + 10000000 ≤ s.now)
  if s.actBit F.WIT_CTL_CANEN && free then (s.setLamps fun l => { l with lastImm := some s.now }).proofFrame else s

/-- The timebase has reached a multiple of the proof period with its last advance, which is of 10 ns in every mode that
sends (R736; 02 R91). -/
def proofPeriodic (s : State) : State :=
  let p := s.actFld F.WIT_PERIOD_MS * 1000000
  let new := match s.lamps.lastProof with
    | none => true
    | some t => decide (t / p < s.now / p)
  if s.witRuns && s.actBit F.WIT_CTL_CANEN && decide (s.now % p < 10) && new then
    (s.setLamps fun l => { l with lastProof := some s.now }).proofFrame
  else s

/-! ### Box scans (R708, R728 to R733) -/

/-- A lamp's box lies in the active area of an enabled output (R729). -/
def State.boxVisible (s : State) (r : LampRec) : Bool :=
  s.bit (F.MIR_CTL_EN r.out) && decide (r.x + r.w ≤ s.fld (F.MIR_HTIMA_HACT r.out) ∧ r.y + r.h ≤ s.fld (F.MIR_VTIMA_VACT r.out))

def boxStart (i : Nat) (s : State) : State :=
  if s.lamps.armed && s.lampPresent i && s.boxVisible (s.lampRec i) then
    s.setLamps fun l => { l with samples := AMap.insert l.samples i ⟨s.lampActive i, s.lampOn i s.now⟩ }
  else s

/-- A fault of comparator or self-test: the status bit is set by the caller (R731, R733). -/
def witFaultActions (kind reason source out b4 a expected : Nat) (s : State) : State :=
  let s := s.proofRecord (boxRecord s 0x23 0xFF (b4 + out * 4 + b2n (s.bit F.LMP_STATUS_ROMSET) * 8) kind out a expected)
  (s.immediateFrame.irq 6 reason).raise source 0

/-- The Witness's comparison of a box after its last pixel (R728 to R731). WIT_NOTSHOWN is raised when the lamp's fault
begins (19 R948; log entry 155). The stream carries the box that the sampled
appearance draws, whose signature is the expected one (R707, R713 check 8); ua and ub are what a fault changes in the
signature that comparator A and comparator B computes. -/
def boxCompare (i : Nat) (ua ub : W32) (s : State) : State :=
  match s.lamps.samples.find? i with
  | none => s
  | some x =>
    if !s.witRuns || !s.lampPresent i then s
    else
      let r := s.lampRec i
      let expected := if x.on then r.sigOn else r.sigOff
      let a := expected ^^^ ua
      let b := expected ^^^ ub
      let s := s.setLamps fun l => { l with
        samples := AMap.erase l.samples i, sigs := AMap.insert l.sigs i (a.toNat, b.toNat),
        compared := AMap.insert l.compared i s.now }
      let b4 := b2n x.active + 2 * b2n x.on
      let whole := b4 + 4 * r.out + b2n (s.bit F.LMP_STATUS_ROMSET) * 8
      if a ≠ b then
        witFaultActions 1 2 aWitAb r.out b4 a.toNat expected.toNat
          ((s.setMapBit 0x901C i false).setFld F.WIT_STATUS_AB 1)
      else if a ≠ expected then
        let again := (s.pair 0x9014).testBit i
        let s := ((s.setMapBit 0x9014 i true).setMapBit 0x901C i false).bump
          F.WIT_MISMATCH_CNT_COUNT F.WIT_STATUS_MISMATCH_SAT
        let s := s.proofRecord (boxRecord s 0x21 i whole 0 r.out a.toNat expected.toNat)
        let s := s.immediateFrame.irq 6 (1 + i * 256)
        if again then s else s.raise aWitNotshown i
      else
        let s := (s.setMapBit 0x9014 i false).setMapBit 0x901C i true
        let was := AMap.get ⟨false, false⟩ s.lamps.shown i
        let s := s.setLamps fun l => { l with shown := AMap.put ⟨false, false⟩ l.shown i x }
        if was = x then s else s.proofRecord (boxRecord s 0x20 i whole 0 r.out a.toNat expected.toNat)

/-- Two frame periods of an output, in ns (R729). -/
def State.twoFrames (s : State) (out : Nat) : Nat :=
  let h := s.fld (F.MIR_HTIMA_HACT out) + s.fld (F.MIR_HTIMA_HFP out) + s.fld (F.MIR_HTIMB_HSYNC out) + s.fld (F.MIR_HTIMB_HBP out)
  let v := s.fld (F.MIR_VTIMA_VACT out) + s.fld (F.MIR_VTIMA_VFP out) + s.fld (F.MIR_VTIMB_VSYNC out) + s.fld (F.MIR_VTIMB_VBP out)
  2 * h * v * 1000000 / s.fld (F.MIR_PCLK_KHZ out)

/-- A lamp becomes STALE (R729). -/
def lampStale (i : Nat) (s : State) : State :=
  let r := s.lampRec i
  let late := match s.lamps.compared.find? i with
    | none => true
    | some t => decide (t + s.twoFrames r.out < s.now)
  if !s.boxVisible r || late then s.setMapBit 0x901C i false else s

/-- Signature of the self-test block of a blank: inverted after an odd-numbered frame (R732). -/
def testBlock (odd : Bool) : W32 :=
  let inv := fun (c : Nat) => BitVec.ofNat 8 (if odd then 255 - c % 256 else c % 256)
  crc32 ((List.range 32).flatMap fun v => (List.range 32).flatMap fun u => [inv (8 * u), inv (8 * v), inv (8 * (u ^^^ v))])

/-- The self-test in a vertical blank (R732, R733); ub is what a fault changes in comparator B's signature. A record of a
failure carries a signature of comparator A that the spec does not give, and lamp bits it does not give: free values (log
entry 45). -/
def witSelfTest (out : Nat) (ub : W32) (s : State) : State :=
  if s.witRuns && s.bit (F.MIR_CTL_EN out) && decide (ub ≠ 0#32) then
    let (f, s) := s.takeFree
    let odd := (s.reg (F.MIR_FRAME_LO_FRAME out).off).getLsbD 0
    witFaultActions 2 3 aWitStest out (f.toNat / 2 ^ 32 % 4) (f.toNat % 2 ^ 32) (testBlock odd).toNat
      (s.setFld F.WIT_STATUS_STEST 1)
  else s

/-! ### Backup LEDs (R743 to R745) -/

/-- Whether driver n is lit (R743, R745). -/
def State.ledLit (s : State) (n : Nat) : Bool :=
  let i := s.fld (F.LMP_LEDMAP_LAMP n)
  let on := s.lampOn i s.now
  s.lamps.armed && s.lampPresent i && !(s.fld F.LMP_LEDFAULT_SHORT).testBit n &&
    match s.fld (F.LMP_LEDMAP_MODE n) with
    | 1 => (on && !s.provenMap.testBit i) || s.lamps.bulb
    | 2 => on
    | _ => false

def ledUpdate (s : State) : State :=
  s.setFld F.LMP_LEDON_ON ((List.range 16).foldl (fun m n => m + b2n (s.ledLit n) * 2 ^ n) 0)

/-- The check of a driver, lit or by a test pulse (R745): whether it reaches 18 mA, and its ball voltage in units of
100 mV. -/
def ledCheck (n : Nat) (reaches : Bool) (volts : Nat) (s : State) : State :=
  if s.lamps.armed && decide (s.fld (F.LMP_LEDMAP_MODE n) ≠ 0) && ((s.fld F.LMP_LEDON_ON).testBit n || s.bit F.LMP_LEDCFG_TEST)
  then
    let short := decide (s.fld F.LMP_LEDCFG_SHORTV < volts)
    if reaches && !short then s
    else
      let s := if reaches then s else s.setFld F.LMP_LEDFAULT_OPEN (setBits (s.fld F.LMP_LEDFAULT_OPEN) n n 1)
      let s := if short then s.setFld F.LMP_LEDFAULT_SHORT (setBits (s.fld F.LMP_LEDFAULT_SHORT) n n 1) else s
      (ledUpdate s).raise aLedFault n
  else s

/-! ### What leaves an output (R707; 13 R682) -/

/-- The lamp whose box holds pixel (x, y) of an output. -/
def State.lampAt (s : State) (out x y : Nat) : Option Nat :=
  (List.range 64).find? fun i =>
    let r := s.lampRec i
    s.lamps.armed && s.lampPresent i && decide (r.out = out ∧ r.x ≤ x ∧ x < r.x + r.w ∧ r.y ≤ y ∧ y < r.y + r.h)

/-- Pixel (x, y) of an output: the Lantern plane over every other plane. -/
def State.outPixel (s : State) (out x y : Nat) : List Nat :=
  match s.lampAt out x y with
  | some i =>
    let r := s.lampRec i
    s.boxPixel r (AMap.get ⟨s.lampActive i, s.lampOn i s.now⟩ s.lamps.samples i).on (x - r.x) (y - r.y)
  | none => let p := scenePixel s out x y; [p.r, p.g, p.b]

end Sys2Proof.Machine
end

