-- ==== Sys2Proof/Machine/Modes.lean ====
section
/-!
DEFINITION. The modes, shed levels, parks and resets (17), and the actions of the Alarm board (19 R938 to R949).
-/
namespace Sys2Proof.Machine

def State.setPower (s : State) (f : Power → Power) : State := { s with power := f s.power }

/-! ### Resets (00 R14; 17 R855, R858, R864) -/

/-- Registers of the always-on domain (17 R864; 16 R818; 18 R908; 19 R974; 02 R98). -/
def aonOff (off : Nat) : Bool :=
  off == 0xC020 || off == 0xC024 || (decide (0xC100 ≤ off) && decide (off < 0xC180))
    || (decide (0xE040 ≤ off) && decide (off ≤ 0xE048)) || off == 0xE0B0 || off == 0x1204
    || (decide (0xBF00 ≤ off) && decide (off ≤ 0xBF10))

/-- The registers that a reset of the switched domain keeps, the fields PWR_EVCNT.EPARK, PWR_TEMP.TRIP and
TBD_TB_STATUS.SRC and RCFB among them. -/
def State.keptRegs (s : State) : AMap W32 :=
  let m := s.regs.filter fun e => aonOff e.1
  let m := AMap.put (regReset 0xC028) m 0xC028 (s.reg 0xC028 &&& 0xFF000000#32)
  let m := AMap.put (regReset 0xC01C) m 0xC01C (s.reg 0xC01C &&& 0x200#32)
  AMap.put (regReset 0xF010) m 0xF010 (s.reg 0xF010 &&& 3#32)

/-- The switched domain in reset: everything but the always-on domain, the memories outside the chip and what stands
outside the machine. A chip reset leaves the contents of the DRAM, the Warden's memory and the control store
(log entry 47). -/
def State.switchedReset (s : State) (keepRam : Bool) : State :=
  { State.reset with
    time := s.time
    regs := s.keptRegs
    mode := s.mode
    cstore := if keepRam then s.cstore else []
    cstoreBad := if keepRam then s.cstoreBad else []
    dram := if keepRam then s.dram else []
    wmem := if keepRam then s.wmem else []
    flash := s.flash
    host := s.host
    vio := { Vio.reset with raw := s.vio.raw, rawAt := s.vio.rawAt }
    power := { Power.reset with
      powered := s.power.powered
      pmicEn := s.power.pmicEn
      pmicAt := s.power.pmicAt
      parked := s.power.parked
      wake := s.power.wake
      pmicLow := s.power.pmicLow
      epark := s.power.epark
      wakeRuns := s.power.wakeRuns }
    out := s.out
    rdata := s.rdata
    floor := s.floor
    free := s.free
    pending := s.pending }

/-- GEN_MODE after a change, and its stamp (01 R57). -/
def State.setMode (s : State) (m : Mode) : State :=
  let old := s.mode
  ((({ s with mode := m }).setFld F.GEN_MODE_MODE m.num).setFld F.GEN_MODE_PREV old.num).setPair 0x8 s.now

/-- Count in a counter that stops at 255. -/
def State.count255 (s : State) (f : Fld) : State := s.setFld f (min 255 (s.fld f + 1))

/-- The always-on record (19 R945, R946). -/
def State.aonRecord (s : State) (cause source : Nat) : State :=
  let s := if s.bit F.ALM_AONREC_VALID then s.setFld F.ALM_AONREC_LOST 1 else s
  let s := s.setFld F.ALM_AONREC_CAUSE cause
  let s := if cause = 1 then s.setFld F.ALM_AONREC_SOURCE source else s
  (s.setPair 0xE044 s.now).setFld F.ALM_AONREC_VALID 1

/-- Chip reset (R858; 19 R945): the switched domain is reset and released into Ochre mode. -/
def chipReset (cause source : Nat) (s : State) : State :=
  let s := s.aonRecord cause source
  let s := s.setFld F.ALM_LOCKSTAT_MISMATCH (b2n (decide (cause = 1 ∧ source = aWardenLock)))
  ((s.switchedReset true).setMode .ochre).setFld F.PWR_STATUS_PG 7

/-- The switched domain is held in reset, PMIC_EN is low and the timebase is to change over: Umber mode (R853 to R855).
A park clears the boot latch (18 R908). -/
def umber (s : State) : State :=
  let s := ((s.switchedReset false).setReg 0x1204 0#32).setMode .umber
  { s with
    power := { s.power with powered := false, pmicEn := false, pmicAt := s.now, parked := true, wakeRuns := [] }
    time := { s.time with
      toSlow := !s.time.slow
      toFast := false
      pllEn := !s.time.slow
      pllLock := s.time.pllLock && !s.time.slow }
    raised := [] }

/-- Emergency park (R854): it acts whenever the switched domain runs. -/
def emergencyPark (cause : Nat) (s : State) : State :=
  if s.power.powered then
    let s := (s.aonRecord cause 0).count255 F.PWR_EVCNT_EPARK
    umber (s.setPower fun p => { p with epark := true })
  else s

/-! ### PMIC scripts (R829 to R831) -/

/-- Request a script: a request for script 1 or 2 replaces one for either that has not started. -/
def State.requestScript (s : State) (n : Nat) : State :=
  s.setPower fun p =>
    { p with scripts := (if n = 1 ∨ n = 2 then p.scripts.filter fun k => k ≠ 1 ∧ k ≠ 2 else p.scripts) ++ [n] }

/-- Register writes of a script, with the entry of each. -/
def State.script (s : State) (n : Nat) : List (Nat × Emission) :=
  (List.range 8).filterMap fun i =>
    let e := (s.reg (0xC100 + 0x20 * n + 4 * i)).toNat
    if e.testBit 16 then some (i, Emission.pmic (s.fld F.PWR_PMIC_ADDR) (bits e 7 0) (bits e 15 8)) else none

/-- Run a script; the PMIC does not acknowledge entry nack. -/
def runScript (n : Nat) (nack : Option Nat) (s : State) : State :=
  let w := s.script n
  let go := w.takeWhile fun e => some e.1 != nack
  let s := { s with out := s.out ++ go.map (·.2) }
  if go.length < w.length then (s.setFld F.PWR_STATUS_PMICNAK 1).raise aPmicNack 0 else s

def State.scriptsOn (s : State) : Bool := s.bit F.PWR_PMIC_EN && s.bit (F.VIO_I3C_CTL_PMIC 1)

/-- The oldest script requested runs. -/
def pmicScript (nack : Option Nat) (s : State) : State :=
  match s.power.scripts with
  | n :: ns => if s.scriptsOn then runScript n nack (s.setPower fun p => { p with scripts := ns }) else s
  | [] => s

/-! ### Changes of mode (R846, R847) -/

/-- The Painters abandon every tile and job (R963; 13 R696). -/
def State.dropJobs (s : State) : State := s.pic.jobs.foldl vanishJob s

/-- The next lock point of each output is the first after an entry into Vermilion mode (R964). -/
def State.purgeOutputs (s : State) : State :=
  s.setPic fun p => { p with outA := { p.outA with purge := true }, outB := { p.outB with purge := true } }

/-- A change of mode: steps 2 to 6 of R847. -/
def enterMode (m : Mode) (s : State) : State :=
  let old := s.mode
  let s := if old = .ivory then squashAll s else s
  let s := if m = .vermilion ∨ m = .cobalt then s.holdCells else s
  let s := if m = .vermilion then abortApplies (abortInbox s.dropJobs.purgeOutputs) else s
  let s := if s.cellsHeld ∧ (m = .saffron ∨ m = .ivory ∨ m = .slate) then s.releaseCells else s
  let s := s.setMode m
  (s.irq 17 (1 + m.num * 2 ^ 8 + old.num * 2 ^ 12)).event 1 (m.num + old.num * 2 ^ 8)

/-- A SAFE request (19 R939, R949). -/
def requestSafe (s : State) : State :=
  match s.mode with
  | .saffron | .ivory | .slate | .cobalt => enterMode .vermilion s
  | .ochre => s.setPower fun p => { p with safeHeld := true }
  | _ => s

/-- Ivory or Slate, as the shed level says. -/
def State.runMode (s : State) : Mode := if s.shed < 2 then .ivory else .slate

/-! ### Shed levels (R838 to R843) -/

/-- The highest level that a condition requires (R838). -/
def State.shedNeed (s : State) : Nat :=
  let kl := if s.power.kl2 then 2 else if s.fld F.PWR_STATUS_KL30 ≠ 0 then 1 else 0
  let hot := if s.bit F.PWR_STATUS_VLOW ∨ s.bit F.PWR_STATUS_CRIT then 3 else if s.bit F.PWR_STATUS_HOT then 2 else 0
  max kl hot

/-- The shed level changes (R830, R843, R846). -/
def setShed (n : Nat) (s : State) : State :=
  let old := s.shed
  let s := (s.setFld F.PWR_STATUS_SHED n).irq 17 (2 + n * 2 ^ 16)
  let s := if old < 2 ∧ 2 ≤ n then s.requestScript 1 else if 2 ≤ old ∧ n < 2 then s.requestScript 2 else s
  let s := if s.mode = .ivory ∧ 2 ≤ n then enterMode .slate s
    else if s.mode = .slate ∧ n < 2 then enterMode .ivory s else s
  s.startPainters

/-- A level is required. DEDUCED: while KL30 is not NORMAL a level 2 that applies goes on, so that its recovery time
starts again from the next NORMAL (log entry 50). -/
def State.levelNeeded (s : State) (l : Nat) : Bool :=
  decide (l ≤ s.shedNeed) || (l == 2 && decide (2 ≤ s.shed) && decide (s.fld F.PWR_STATUS_KL30 ≠ 0))

/-- The conditions have changed: a higher level applies at once, the recovery times start. -/
def shedUpdate (s : State) : State :=
  let s := s.setPower fun p =>
    { p with absent := [1, 2, 3].foldl (fun m l =>
        if s.levelNeeded l then AMap.erase m l
        else if (m.find? l).isSome then m else AMap.insert m l s.now) p.absent }
  if s.shed < s.shedNeed then setShed s.shedNeed s else s

/-- The level that still applies once the recovery times that have passed are taken off (R840). -/
def State.shedHeld (s : State) : Nat :=
  ([1, 2, 3].filter fun l => decide (l ≤ s.shed) && (s.levelNeeded l || match s.power.absent.find? l with
    | some t => decide (s.now < t + s.fld F.PWR_KLTIME_RECOVER * 1000000)
    | none => false)).foldl max 0

/-- PWR_KLTIME.RECOVER has passed (R840). -/
def shedRecover (s : State) : State := if s.shedHeld < s.shed then setShed s.shedHeld s else s

/-- Rail Watch reads comparators 0 and 1 (R833, R834, R845). Whether a comparator whose output no result set is LOW or
HIGH is a free value (log entry 51). -/
def klUpdate (s : State) : State :=
  if !s.bit F.PWR_RWCTL_KLEN then s
  else
    let x := AMap.get Comparator.reset s.adc.comps 0
    let (f, s) := s.takeFree
    let low := if s.bit (F.ADC_WINB_EN 0) ∧ !x.stale then x.low else f.getLsbD 0
    let cls := if s.compOut 0 then (if low then 1 else 2) else 0
    let old := s.fld F.PWR_STATUS_KL30
    let cls := if cls ≠ 0 ∧ old ≠ 0 then old else cls
    let s := if cls = old then s
      else
        let s := s.setFld F.PWR_STATUS_KL30 cls
        let s := if old = 1 ∧ !s.power.kl2 then s.count255 F.PWR_EVCNT_MICRO else s
        let s := s.setPower fun p => { p with kl2 := false }
        let s := if cls = 0 then s
          else
            let s := (s.setPair 0xC02C s.now).raise aRailKl30 cls
            let s := s.setPower fun p => { p with klAt := s.now }
            if cls = 2 then s.count255 F.PWR_EVCNT_OV else s
        shedUpdate s
    let on := s.compOut 1
    if on = s.bit F.PWR_STATUS_KL15 then s
    else (s.setFld F.PWR_STATUS_KL15 (b2n on)).irq 17 (3 + b2n on * 2 ^ 20)

/-- KL30 has been LOW for MICRO, or HIGH for OV, milliseconds (R838, R845). -/
def klExpire (cls : Nat) (s : State) : State :=
  let ms := s.fld (if cls = 1 then F.PWR_KLTIME_MICRO else F.PWR_KLTIME_OV)
  if s.fld F.PWR_STATUS_KL30 = cls ∧ !s.power.kl2 ∧ s.power.klAt + ms * 1000000 ≤ s.now then
    let s := if cls = 1 then s.count255 F.PWR_EVCNT_CRANK else s
    shedUpdate (s.setPower fun p => { p with kl2 := true })
  else s

/-- VDD_CORE against the thresholds of VLOW, in millivolts (R835). -/
def vcoreVlow (mv : Nat) (s : State) : State :=
  let warn := 620 + 5 * s.fld F.PWR_VCORE_WARN
  let s := if mv < warn then s.setFld F.PWR_STATUS_VLOW 1
    else if mv > warn + 5 * s.fld F.PWR_VCORE_HYS then s.setFld F.PWR_STATUS_VLOW 0 else s
  shedUpdate s

/-- One of the two temperature conditions (R859, R860). -/
def thermal (f : Fld) (limit : Nat) (t : Int) (s : State) : State :=
  if (limit : Int) ≤ t then (if s.bit f then s else (s.setFld f 1).raise aThermHot 0)
  else if t < (limit : Int) - 5 then s.setFld f 0
  else s

/-- A temperature reading in °C (R859 to R861). -/
def tempSample (t : Int) (s : State) : State :=
  let s := s.setFld F.PWR_TEMP_MAX (t % 512).toNat
  let s := thermal F.PWR_STATUS_HOT (s.fld F.PWR_THERM_HOT) t s
  let s := shedUpdate (thermal F.PWR_STATUS_CRIT (s.fld F.PWR_THERM_CRIT) t s)
  if 130 ≤ t then emergencyPark 6 (s.setFld F.PWR_TEMP_TRIP 1) else s

/-! ### Mode commands (R846, R849, R853; 19 R966) -/

/-- A request through PWR_MODECMD that is not allowed. -/
def State.modeReject (s : State) : State := s.setFld F.PWR_STATUS_CFG_REJ 1

/-- Everything that the closed gates hold is discarded: Evoser writes, scene and guest tiles, host writes to outputs,
requests of the buses (18 R900; 13 R696; 16 R798). -/
def discardHeld (s : State) : State :=
  let s := s.dropJobs.setEvr fun e => { e with posts := [] }
  { s with vio := { s.vio with
    heldWrites := []
    taken := s.vio.taken.filter fun r => r.started || !(decide (r.port < 4) || r.port == 6) } }

/-- The gates open (18 R895). -/
def State.openGates (s : State) : State := (s.setFld F.GKP_STATUS_GATED 0).setFld F.EVR_STATUS_GATED 0

/-- Cobalt entry: every held effect is discarded and the gates open (18 R919). -/
def cobaltGates (s : State) : State := if s.gated then (discardHeld s).openGates else s

/-- The part of a request for Saffron or Cobalt from Ochre that R849 may replace. -/
def fromOchre (m : Mode) (s : State) : State :=
  if s.power.safeHeld then enterMode .vermilion (s.setPower fun p => { p with safeHeld := false })
  else enterMode m s

def cobalt (s : State) : State :=
  let s := cobaltGates s
  enterMode .cobalt s

def modeSaffron (s : State) : State :=
  if s.mode = .ochre ∧ s.bit F.LMP_CTL_ARM ∧ s.bit F.ALM_MC_CTL_MC_LOCK ∧ s.bit F.SPN_CTL_LOCK ∧ s.bit F.FRY_CTL_LOCK then
    fromOchre .saffron s
  else s.modeReject

def modeCobalt (s : State) : State :=
  if s.mode = .ochre ∧ s.bit F.LMP_CTL_ARM then
    if s.power.safeHeld then fromOchre .cobalt s else cobalt s
  else if s.mode = .vermilion then cobalt s
  else s.modeReject

/-- A source of class SAFE or RESET has its PEND bit set (19 R966). -/
def State.safePending (s : State) : Bool :=
  (List.range 128).any fun n =>
    (s.fld (F.ALM_PEND_PEND (n / 32))).testBit (n % 32) && decide (3 ≤ s.fld (F.ALM_SRC_CLASS n))

def modeIvory (s : State) : State :=
  if s.mode = .vermilion ∧ !s.safePending ∧ s.fld F.TAL_STATUS_FROZEN = 0 ∧ !s.bit F.WIT_STATUS_AB ∧ !s.bit F.WIT_STATUS_STEST then
    enterMode s.runMode s
  else s.modeReject

/-- Modes from which a park or a chip reset may start. -/
def Mode.awake : Mode → Bool
  | .sable => false
  | .umber => false
  | _ => true

/-- Orderly park (R853): the whole sequence, script 3 among it. -/
def modePark (nack : Option Nat) (s : State) : State :=
  if s.mode.awake then
    let s := if s.mode = .ivory then squashAll s else s
    umber (if s.scriptsOn then runScript 3 nack s else s)
  else s

/-! ### Power up and down (R846, R851 to R857; 16 R819, R820; 02 R98) -/

/-- The wake of input n is stamped when it is accepted (02 R98). -/
def stampWake (n : Nat) (s : State) : State :=
  { s with time := { s.time with wake := BitVec.ofNat 64 s.now, wakeSrc := BitVec.ofNat 2 n, porw := false } }

/-- Ochre entry: the mode becomes Ochre, PMIC_EN rises. -/
def ochreStart (s : State) : State :=
  let s : State := { s with
    power := { s.power with pmicEn := true, pmicAt := s.now, parked := false, wake := none, wakeRuns := [] } }
  s.setMode .ochre

def State.holdOver (s : State) : Bool := !s.power.parked || decide (s.power.pmicAt + 10000000 ≤ s.now)

/-- WAKE input n accepts a wake. While the 32.768 kHz source drives the timebase, its filter must have found FILT
consecutive samples active (16 R819). -/
def wakeAccept (n : Nat) (s : State) : State :=
  let runs := AMap.get 0 s.power.wakeRuns n
  if s.mode = .sable ∨ !s.bit (F.VIO_WAKE_EN n) ∨ (s.time.slow ∧ runs < s.fld (F.VIO_WAKE_FILT n)) then s
  else
    let s := s.setPower fun p => { p with wakeRuns := AMap.put 0 p.wakeRuns n 0 }
    if s.mode ≠ .umber then
      s.setFld F.VIO_WAKESTAT_EDGE (setBits (s.fld F.VIO_WAKESTAT_EDGE) n n 1)
    else if s.holdOver then ochreStart (stampWake n s)
    else if s.power.wake.isSome then s
    else (stampWake n s).setPower fun p => { p with wake := some n }

/-- The first WAKE input that is still active. -/
def State.wakeActive (s : State) : Option Nat :=
  (List.range 4).find? fun n => s.bit (F.VIO_WAKE_EN n) && decide (0 < AMap.get 0 s.power.wakeRuns n)

/-- The 10 ms of R856 have passed (R857). -/
def parkHoldEnd (s : State) : State :=
  if s.mode = .umber ∧ s.power.parked ∧ s.holdOver then
    let t := s.setPower fun p => { p with parked := false, wake := none }
    match s.power.wake, s.wakeActive with
    | some _, _ => ochreStart t
    | none, some n => if s.power.epark then ochreStart (stampWake n t) else t
    | none, none => t
  else s

/-- All three PG inputs are high: the switched domain starts (R851, R854; 02 R78). -/
def pgAllHigh (s : State) : State :=
  if s.mode = .ochre ∧ s.power.pmicEn ∧ !s.power.powered then
    let s := s.setFld F.PWR_STATUS_PG 7
    let s := if s.power.epark then s.setFld F.PWR_STATUS_EPARK 1 else s
    let s := s.setPower fun p => { p with powered := true, epark := false }
    { s with time := { s.time with pllEn := true, toSlow := false } }.requestScript 0
  else s

/-- The PG inputs have not come in time (R852). DEDUCED: PGTO is shown at the next start (log entry 52). -/
def pgTimeout (s : State) : State :=
  if s.mode = .ochre ∧ s.power.pmicEn ∧ !s.power.powered ∧
      s.power.pmicAt + s.fld F.PWR_PGWAIT_MS * 1000000 ≤ s.now then
    let s := (s.setFld F.PWR_STATUS_PGTO 1).setMode .umber
    { s with power := { s.power with pmicEn := false, pmicAt := s.now, wakeRuns := [] } }
  else s

/-- SYS_RST_N (R828). -/
def sysRst (s : State) : State := if s.power.powered then chipReset 7 0 s else s

/-- VDD_AON fails: Sable mode, everything on the chip is lost (R846; 02 R90). What stands outside the chip and the
version fuses stay. -/
def vaonPor (s : State) : State :=
  { State.reset with
    regs := []
    time := { Timebase.reset with slow := true, pllEn := false, pllLock := false }
    mode := .sable
    power := { Power.reset with powered := false, pmicEn := false }
    vio := { Vio.reset with raw := s.vio.raw, rawAt := s.vio.rawAt }
    flash := s.flash
    host := s.host
    out := s.out
    floor := s.floor
    free := s.free
    pending := s.pending }.setFld F.GEN_MODE_MODE 0

/-- The power-on reset of the always-on domain completes (R846; 02 R90, R98). -/
def aonPor (s : State) : State :=
  let s := (vaonPor s).setMode .umber
  { s with time := { s.time with porw := true } }.setFld F.TBD_TB_STATUS_SRC 1

/-- PMIC_INT_N: its falling edge raises PMIC_INT (R826; 19 R948). -/
def pmicInt (low : Bool) (s : State) : State :=
  let was := s.power.pmicLow
  let s := s.setPower fun p => { p with pmicLow := low }
  if low && !was && s.power.powered then s.raise aPmicInt 0 else s

/-! ### The Alarm board (19 R938 to R949) -/

/-- What the board keeps of a raise (R938, R943, R944). -/
def alarmLog (r : Raise) (s : State) : State :=
  let n := r.source
  let f := F.ALM_PEND_PEND (n / 32)
  let s := s.setFld f (setBits (s.fld f) (n % 32) (n % 32) 1)
  let s := s.count255 (F.ALM_SRC_COUNT n)
  if s.bit F.ALM_FIRST_VALID then s
  else
    (((s.setFld F.ALM_FIRST_SOURCE n).setFld F.ALM_FIRST_CLASS (s.fld (F.ALM_SRC_CLASS n))).setFld F.ALM_FIRST_VALID 1).setPair
      0xE008 s.now

/-- The action of a raised source's class, as the rows of the table of R938 give it (log entry 48). -/
def alarmAct (s : State) (r : Raise) : State :=
  let cls := s.fld (F.ALM_SRC_CLASS r.source)
  let s := alarmLog r s
  if cls = 4 then chipReset 1 r.source s
  else
    let s := s.alarmEvent r.source cls
    let s := if 1 ≤ cls then s.irq 19 (1 + r.source * 2 ^ 8 + cls * 2 ^ 16) else s
    if cls = 2 then s.nmiAll false r.source else if cls = 3 then requestSafe s else s

/-- Raises of one instant in the order of their sources (R943). -/
def bySource (l : List Raise) : List Raise :=
  (List.range 128).flatMap fun n => l.filter fun r => r.source == n

/-- A raise whose class is RESET. -/
def State.resets (s : State) (r : Raise) : Bool := s.fld (F.ALM_SRC_CLASS r.source) == 4

/-- Act on everything raised. Of the sources of class RESET the lowest one acts, last: its chip reset leaves nothing
raised. -/
def settleRound (s : State) : State :=
  let l := bySource s.raised
  ((l.filter fun r => !s.resets r) ++ (l.filter s.resets).take 1).foldl alarmAct { s with raised := [] }

/-- The end of a step: the Alarm board has acted on every raise (R939). -/
def settle (s : State) : State :=
  if s.raised.isEmpty then s
  else { settleRound (settleRound (settleRound s)) with raised := [] }

end Sys2Proof.Machine
end

