-- ==== Sys2Proof/Machine/Adc.lean ====
section
/-!
DEFINITION. The converters, their result FIFO and the window comparators (15).
-/
namespace Sys2Proof.Machine

def State.setAdc (s : State) (f : Adc → Adc) : State := { s with adc := f s.adc }

def State.conv (s : State) (k : Nat) : Conv := AMap.get Conv.reset s.adc.convs k

def State.setConv (s : State) (k : Nat) (x : Conv) : State :=
  s.setAdc fun a => { a with convs := AMap.put Conv.reset a.convs k x }

def State.modConv (s : State) (k : Nat) (f : Conv → Conv) : State := s.setConv k (f (s.conv k))

/-- A boundary transfer of one register. -/
def State.transferAt (s : State) (b : Boundary) (off : Nat) : State :=
  match regRow off with
  | some (r, i) => transferReg b off r i s
  | none => s

/-! ### Window comparators (R780 to R786) -/

def State.comp (s : State) (c : Nat) : Comparator := AMap.get Comparator.reset s.adc.comps c

def State.setComp (s : State) (c : Nat) (x : Comparator) : State :=
  s.setAdc fun a => { a with comps := AMap.put Comparator.reset a.comps c x }

/-- A comparator's output changes: the Lamp engine and Rail Watch take it, and IRQ8 is raised (R785, R786). -/
def compChange (c : Nat) (stale : Bool) (s : State) : State :=
  let s := s.lampChange
  let s := if s.bit (F.ADC_WINB_IRQEN c) then s.irq 8 (c + b2n (s.compOut c) * 2 ^ 8 + b2n stale * 2 ^ 9) else s
  if c < 2 then klUpdate s else s

/-- The condition that a comparator seeks on a code (R781). -/
def compCond (lo hi hys : Int) (outside out : Bool) (x : Int) : Bool :=
  match outside, out with
  | false, false => decide (lo ≤ x ∧ x ≤ hi)
  | false, true => decide (x < lo - hys ∨ hi + hys < x)
  | true, false => decide (x < lo ∨ hi < x)
  | true, true => decide (lo + hys ≤ x ∧ x ≤ hi - hys)

/-- A result of the comparator's channel (R780, R782, R784). -/
def compTake (c code : Nat) (rec' : Bool) (s : State) : State :=
  if !s.bit (F.ADC_WINB_EN c) || (s.bit (F.ADC_WINB_SKIPREC c) && rec') then s
  else
    let x := s.comp c
    let s := if x.stale then
        let f := if c < 32 then F.ADC_WSTALE_L_STALE else F.ADC_WSTALE_H_STALE
        s.setFld f (setBits (s.fld f) (c % 32) (c % 32) 0)
      else s
    let lo := s.actFld (F.ADC_WINA_LO c)
    let ok := compCond lo (s.actFld (F.ADC_WINA_HI c)) (s.actFld (F.ADC_WINB_HYS c)) (s.actBit (F.ADC_WINB_OUTSIDE c)) x.out code
    let n := if ok then x.count + 1 else 0
    if ok ∧ s.actFld (F.ADC_WINB_CNT c) ≤ n then
      compChange c false (s.setComp c ⟨!x.out, 0, s.now, false, if x.out then x.low else decide (code < lo)⟩)
    else s.setComp c { x with count := n, last := s.now, stale := false }

/-- No counted result for AGE (R784). -/
def compStale (c : Nat) (s : State) : State :=
  let x := s.comp c
  let age := s.fld (F.ADC_WINB_AGE c)
  if !s.bit (F.ADC_WINB_EN c) || age == 0 || x.stale || decide (s.now < x.last + age * 10000) then s
  else
    let was := x.out
    let v := s.bit (F.ADC_WINB_STALEVAL c)
    let s := s.setComp c { x with out := v, count := 0, stale := true }
    let f := if c < 32 then F.ADC_WSTALE_L_STALE else F.ADC_WSTALE_H_STALE
    let s := (s.setFld f (setBits (s.fld f) (c % 32) (c % 32) 1)).raise aAdcStale c
    if was ≠ v then compChange c true s
    else if s.bit (F.ADC_WINB_IRQEN c) then s.irq 8 (c + b2n v * 2 ^ 8 + 2 ^ 9)
    else s

/-- A write to ADC_WINBc has been made; `was` is the register and `out` the output before it (R783). -/
def compWritten (c : Nat) (was : W32) (out : Bool) (s : State) : State :=
  let on := s.bit (F.ADC_WINB_EN c)
  let s := if on && !was.getLsbD 27 then s.setComp c ⟨s.bit (F.ADC_WINB_STALEVAL c), 0, s.now, false, false⟩ else s
  if s.compOut c = out then s else compChange c false s

/-! ### Conversions (R751 to R765) -/

/-- The recovery window of a converter is open (R777). -/
def Conv.recovering (x : Conv) (now : Nat) : Bool :=
  match x.window with
  | some (n, t) => decide (0 < n) || decide (now < t)
  | none => false

/-- A converter that is enabled and has its reference (R754). -/
def State.converts (s : State) (k : Nat) : Bool := s.bit (F.ADC_CTL_EN k) && s.bit F.ADC_REF_READY

/-- Sampling starts: the EDGE fields of the urgent slot and of the channel's comparator are transferred (R762, R789). -/
def startConv (k : Nat) (urgent : Option Nat) (s : State) : State :=
  let s := match urgent with
    | some u => s.transferAt (.adcUrg k) (F.ADC_URG_CH k u).off
    | none => s
  let ch := match urgent with
    | some u => s.actFld (F.ADC_URG_CH k u)
    | none => s.actFld (F.ADC_SEQ_CH k (s.conv k).entry)
  let c := 16 * k + ch
  let s := (s.transferAt .adcCmp (F.ADC_WINA_LO c).off).transferAt .adcCmp (F.ADC_WINB_HYS c).off
  s.modConv k fun x => { x with running := some ⟨urgent, ch, x.recovering s.now⟩ }

/-- A converter that converts nothing starts what is to be converted next: the lowest urgent slot, the sequence, a
pending trigger (R754, R758, R763, R764). -/
def startNext (k : Nat) (s : State) : State :=
  let x := s.conv k
  if !s.converts k || x.running.isSome then s
  else match x.urgent with
    | u :: us =>
      let u := us.foldl min u
      startConv k (some u) (s.setConv k { x with urgent := x.urgent.erase u })
    | [] =>
      if x.seq then startConv k none s
      else if x.trig then
        startConv k none (s.setConv k { x with seq := true, trig := false, entry := 0, codes := [], flags := 0 })
      else s

def State.trigLost (s : State) (k : Nat) : State := s.bump (F.ADC_TRIGLOST_CNT_COUNT k) (F.ADC_STAT_TRIGLOST_SAT k)

/-- A sequence trigger (R756, R760). -/
def seqTrigger (k : Nat) (s : State) : State :=
  let x := s.conv k
  if !s.bit (F.ADC_CTL_EN k) || (x.seq && s.actBit (F.ADC_CTL_CONT k)) then s
  else if x.trig then
    let s := s.trigLost k
    if s.bit (F.ADC_CTL_ORIRQ k) then s.irq 7 (4 + k * 2 ^ 8) else s
  else startNext k (s.setConv k { x with trig := true })

/-- An urgent request (R763 to R765). -/
def urgRequest (k u : Nat) (s : State) : State :=
  let x := s.conv k
  if !s.bit (F.ADC_CTL_EN k) || !s.bit (F.ADC_URG_EN k u) then s
  else if x.urgent.contains u || (match x.running with
      | some c => c.urgent == some u
      | none => false) then s.trigLost k
  else
    let x := { x with urgent := x.urgent ++ [u] }
    let x := match x.running with
      | some c => if c.urgent.isNone then { x with running := none, codes := [], flags := 0 } else x
      | none => x
    startNext k (s.setConv k x)

/-- A trigger source fires, on an edge of a pin or without one (R759, R762). -/
def adcFire (src : Nat) (edge : Option Bool) (s : State) : State :=
  let hit := fun (sel te : Nat) => decide (sel = src) && match edge with
    | none => true
    | some r => te == 2 || (te == 0 && r) || (te == 1 && !r)
  (List.range 3).foldl (fun (s : State) k =>
    let s := (List.range 4).foldl (fun (s : State) u =>
      if hit (s.actFld (F.ADC_URG_TSRC k u)) (s.actFld (F.ADC_URG_TEDGE k u)) then urgRequest k u s else s) s
    if hit (s.actFld (F.ADC_CTL_TSRC k)) (s.actFld (F.ADC_CTL_TEDGE k)) then seqTrigger k s else s) s

/-- The timebase is at a multiple of the converter's period (R759). -/
def periodTrigger (k : Nat) (s : State) : State :=
  let p := s.actFld (F.ADC_PER_US k) * 1000
  if s.actFld (F.ADC_CTL_TSRC k) = 5 ∧ s.now % p = 0 ∧ (s.conv k).lastPeriod ≠ some s.now then
    seqTrigger k (s.modConv k fun x => { x with lastPeriod := some s.now })
  else s

/-! ### Results (R757, R767 to R779) -/

/-- Push a result into the FIFO (R769, R770). -/
def State.pushResult (s : State) (res c idx : Nat) : State :=
  if 64 ≤ s.adc.fifo.length then
    let s := (s.bump F.ADC_FIFOLOST_CNT_COUNT F.ADC_STATUS_FIFOLOST_SAT).setFld F.ADC_STATUS_FIFOOVF 1
    if s.bit F.ADC_FIFOCTL_OVIRQ then s.irq 7 3 else s
  else
    let e := res + c * 2 ^ 16 + idx * 2 ^ 22 + 2 ^ 31
    let s := s.setAdc fun a => { a with fifo := a.fifo ++ [(e, s.now)] }
    let wm := s.fld F.ADC_FIFOCTL_WM
    if wm ≠ 0 ∧ s.adc.fifo.length = wm then s.irq 7 2 else s

/-- An out-of-range result (R779). flags: UNR in bit 0, OVR in bit 1, REC in bit 2. -/
def State.rangeResult (s : State) (k ch flags : Nat) : State :=
  if flags % 4 = 0 then s
  else
    let s := if flags.testBit 0 then s.setFld (F.ADC_STAT_UNR k) 1 else s
    let s := if flags.testBit 1 then s.setFld (F.ADC_STAT_OVR k) 1 else s
    let s := (s.setFld (F.ADC_STAT_ORCH k) ch).bump (F.ADC_ORNG_CNT_COUNT k) (F.ADC_STAT_ORNG_SAT k)
    if s.bit (F.ADC_CTL_ORIRQ k) then s.irq 7 (5 + k * 2 ^ 8 + ch * 2 ^ 12) else s

/-- A result is passed on to the FIFO, the comparator and the counters. -/
def passResult (k ch code flags res idx : Nat) (fifo : Bool) (s : State) : State :=
  let s := if fifo then s.pushResult res (16 * k + ch) idx else s
  (compTake (16 * k + ch) code (flags.testBit 2) s).rangeResult k ch flags

/-- The mean of codes, rounded to nearest, ties to even (R757). -/
def meanCode (l : List Nat) : Nat := roundEven (l.foldl (· + ·) 0) l.length

/-- The end of a sequence (R758). -/
def seqEnd (k : Nat) (s : State) : State :=
  let s := transfer 0xA (.adcSeq k) s
  let s := if s.bit (F.ADC_CTL_SEQIRQ k) then s.irq 7 (1 + k * 2 ^ 8) else s
  s.modConv k fun x => { x with seq := s.actBit (F.ADC_CTL_CONT k), entry := 0, codes := [], flags := 0 }

/-- The result of a sequence entry, and the step to the next one (R756). -/
def seqResult (k : Nat) (x : Conv) (ch : Nat) (s : State) : State :=
  let code := meanCode x.codes
  let res := code + x.flags * 2 ^ 12
  let f := F.ADC_RES_RES k (ch / 2)
  let s := s.setFld f (setBits (s.fld f) (16 * (ch % 2) + 15) (16 * (ch % 2)) res)
  let s := passResult k ch code x.flags res x.entry (s.actBit (F.ADC_SEQ_FIFO k x.entry)) s
  if s.actBit (F.ADC_SEQ_LAST k x.entry) ∨ x.entry = 31 then seqEnd k s
  else s.modConv k fun x => { x with entry := x.entry + 1, codes := [], flags := 0 }

/-- A conversion ends with floor(4096 VIN / VREF) = v (R751, R757, R763, R775, R777). -/
def convComplete (k : Nat) (v : Int) (s : State) : State :=
  let x := s.conv k
  match x.running with
  | none => s
  | some c =>
    let code := if v < 0 then 0 else if 4095 < v then 0xFFF else v.toNat
    let out := decide (v < 0) || decide (4095 < v)
    let flags := b2n (v < 0) + b2n (4095 < v) * 2 + b2n c.carries * 4
    let x := { x with
      running := none
      window := if out then some (2, s.now + 1500) else x.window.map fun w => (w.1 - 1, w.2) }
    match c.urgent with
    | some u =>
      let res := code + flags * 2 ^ 12 + 2 ^ 15
      let s := (s.setConv k x).setFld (F.ADC_URGRES_RES k u) res
      startNext k (passResult k c.channel code flags res u (s.actBit (F.ADC_URG_FIFO k u)) s)
    | none =>
      let x := { x with codes := x.codes ++ [code], flags := x.flags ||| flags }
      let s := s.setConv k x
      startNext k (if x.codes.length < 2 ^ s.actFld (F.ADC_SEQ_AVG k x.entry) then s else seqResult k x c.channel s)

/-- The recovery window has ended (R777). -/
def recoveryEnd (k : Nat) (s : State) : State :=
  if (s.conv k).recovering s.now then s else s.modConv k fun x => { x with window := none }

/-! ### Reference and enable (R753, R754, R787) -/

/-- REFEN has been written. -/
def refWritten (was : Bool) (s : State) : State :=
  match was, s.bit F.ADC_REF_REFEN with
  | false, true => s.setAdc fun a => { a with refAt := some s.now }
  | true, false => (s.setFld F.ADC_REF_READY 0).setAdc fun a => { a with refAt := none }
  | _, _ => s

def refReady (s : State) : State :=
  match s.adc.refAt with
  | some t =>
    if s.bit F.ADC_REF_READY ∨ s.now < t + 150000 then s
    else (List.range 3).foldl (fun (s : State) k => startNext k s) (s.setFld F.ADC_REF_READY 1)
  | none => s

/-- ADC_CTLk.EN is clear: the conversion in progress is abandoned, what is pending is discarded. -/
def convDisable (k : Nat) (s : State) : State :=
  (s.setFld (F.ADC_CTL_EN k) 0).modConv k fun x =>
    { x with running := none, seq := false, entry := 0, codes := [], flags := 0, trig := false, urgent := [] }

/-! ### Reading the FIFO, and the DMA path (R769, R771 to R774) -/

def fifoRead (req : Req) (s : State) : State :=
  match s.adc.fifo with
  | e :: es =>
    if s.bit F.ADC_DMA_CTL_EN then { s with rdata := s.rdata.set req 0#32 }
    else ({ s with rdata := s.rdata.set req (BitVec.ofNat 32 e.1) }).setAdc fun a => { a with fifo := es }
  | [] => { s with rdata := s.rdata.set req 0#32 }

/-- A store there raises what would be HEAPF or BINX for a cell. -/
def State.engineBad (s : State) (a : Nat) : Bool :=
  decide (s.region (pageOf a) ≠ .collected) || s.heap.poison.contains (pageOf a)
    || (!s.resident (pageOf a) && s.unbacked (pageOf a))

/-- A controller's access to heap words waits, through the Ferrymen, until each is resident (09 R477). -/
def withResident (as : List Nat) (s : State) (f : State → State) : State :=
  match as.find? fun a => !s.resident (pageOf a) with
  | some a => s.requestPage (pageOf a) 0
  | none => f s

def dmaFail (s : State) : State := ((s.setFld F.ADC_DMA_CTL_EN 0).setFld F.ADC_STATUS_DMAERR 1).irq 7 6

def dmaStore (a len : Nat) (e : Nat × Nat) (s : State) : State :=
  let p := (s.elem a 0).i
  let n := p - (s.elem a 1).i
  let s := s.engineStore a (2 + (p % (len - 2 : Int)).toNat) (rawW (e.1 + e.2 % 2 ^ 32 * 2 ^ 32))
  let s := (s.engineStore a 0 (fix (p + 1))).setAdc fun d => { d with fifo := d.fifo.tail }
  let wm := s.fld F.ADC_DMA_CTL_WM
  if n + 1 = (wm : Int) ∧ wm ≠ 0 then s.sendSprig (mkN tSPRG (s.fld F.ADC_DMA_SPRG_HANDLE)) (BitVec.ofNat 64 (2 ^ 51)) else s

/-- The DMA path moves the oldest entry (R772). -/
def adcDma (s : State) : State :=
  let a := s.heapReg F.ADC_DMA_L_ADDR F.ADC_DMA_H_ADDR
  match s.adc.fifo with
  | [] => s
  | e :: _ =>
    if !s.bit F.ADC_DMA_CTL_EN then s
    else if s.engineBad a || s.engineBad (a + 2) then dmaFail s
    else withResident [a, a + 2] s fun s =>
      let h := s.heapRead a
      let len := hdrLen h
      let p := s.elem a 0
      let c := s.elem a 1
      let n := p.i - c.i
      if h.t ≠ tHDR ∨ hdrKind h ≠ kVec ∨ len < 18 ∨ 65534 < len ∨ p.t ≠ tFIX ∨ c.t ≠ tFIX ∨ n < 0 ∨ (len : Int) - 2 < n then
        dmaFail s
      else if n = (len : Int) - 2 then s.setFld F.ADC_STATUS_DMAFULL 1
      else
        let d := a + 3 + (p.i % (len - 2 : Int)).toNat
        if s.engineBad d then dmaFail s else withResident [d] s (dmaStore a len e)

end Sys2Proof.Machine
end

