-- ==== Sys2Proof/Machine/Vio.lean ====
section
/-!
DEFINITION. CAN FD, the Listener, LIN and the board I/O: ports, receive rings, controllers, pins (16).
-/
namespace Sys2Proof.Machine

def State.setVio (s : State) (f : Vio → Vio) : State := { s with vio := f s.vio }

/-! ### Controllers and requests (R791 to R795, R817) -/

/-- CAN FD controller n is bus-off. -/
def State.busOff (s : State) (n : Nat) : Bool := s.bit (F.VIO_CAN_STAT_BUSOFF n)

/-- The controller of a port is enabled, and not a CAN FD controller that sends nothing (R805). -/
def State.portRuns (s : State) (p : Nat) : Bool :=
  if p < 4 then s.bit (F.VIO_CAN_CTL_EN p) && s.fld (F.VIO_CAN_CTL_MODE p) != 2 && !s.busOff p
  else if p < 6 then s.bit (F.VIO_LIN_CTL_EN (p - 4))
  else if p = 6 then true
  else if p < 9 then s.bit (F.VIO_I3C_CTL_EN (p - 7))
  else if p < 11 then s.bit (F.VIO_SPI_CTL_EN (p - 9))
  else s.bit F.VIO_UART_CTL_EN

/-- The elements of the object that a word names, if it has that tag. -/
def State.reqElems (s : State) (tag : Nat) (w : TWord) : Except Nat (List TWord) :=
  if w.t ≠ tag then .error 1 else s.paintElems w

/-- A FIX element from 0 to n - 1. -/
def fixBelow (w : TWord) (n : Nat) : Except Nat Nat :=
  if w.t = tFIX ∧ 0 ≤ w.i ∧ w.i < (n : Int) then .ok w.p else .error 1

/-- n data bytes from RAW words, lowest byte first. -/
def rawBytes (ws : List TWord) (n : Nat) : Except Nat (List Byte) :=
  let ws := ws.take ((n + 7) / 8)
  if ws.length * 8 < n ∨ ws.any (fun w => w.t ≠ tRAW) then .error 1
  else .ok ((ws.flatMap fun w => leBytes 8 w.p).take n)

/-- The bytes of a data VEC of exactly the words that n bytes need. -/
def State.dataVec (s : State) (w : TWord) (n : Nat) : Except Nat (List Byte) := do
  let ws ← s.reqElems tVEC w
  if ws.length ≠ (n + 7) / 8 then throw 1
  rawBytes ws n

/-- The request that the elements of a request VEC make at a port (R793, R794). -/
def parseReq (s : State) (p : Nat) (es : List TWord) : Except Nat VioReq := do
  let e := fun (i : Nat) => es.getD i (unb 0)
  let n := es.length
  let op ← fixBelow (e 0) 3
  if (e 1).t ≠ tSPRG ∧ (e 1).t ≠ tNIL then throw 1
  if p < 4 then
    if op ≠ 1 ∨ n ≠ 6 then throw 1
    let id ← fixBelow (e 3) (2 ^ 32)
    let len ← fixBelow (e 4) 65
    if !([0, 1, 2, 3, 4, 5, 6, 7, 8, 12, 16, 20, 24, 32, 48, 64].contains len) ∨ (8 < len ∧ !id.testBit 30)
        ∨ (!id.testBit 29 ∧ 2048 ≤ id % 2 ^ 29) then throw 1
    return .can id (← s.dataVec (e 5) len)
  else if p < 6 then
    if op = 2 ∧ n = 3 then return .linWakeup
    if op ≠ 1 ∨ n ≠ 8 then throw 1
    let id ← fixBelow (e 3) 64
    let len ← fixBelow (e 4) 9
    let sub ← fixBelow (e 5) 2
    let enh ← fixBelow (e 6) 2
    if len = 0 then throw 1
    let data ← (if sub = 1 then Except.ok [] else rawBytes [e 7] len)
    return .linFrame id len (sub == 1) (enh == 1) data
  else if p = 6 then
    if n ≠ 5 then throw 1
    if op = 1 then return .pins (← fixBelow (e 3) (2 ^ 32)) (← fixBelow (e 4) (2 ^ 32))
    if op ≠ 2 then throw 1
    return .duty (← fixBelow (e 3) 8) (← fixBelow (e 4) (2 ^ 20))
  else if p < 9 then
    if op ≠ 1 ∨ n ≠ 14 then throw 1
    let a ← fixBelow (e 3) 512
    let w ← fixBelow (e 4) 33
    let r ← fixBelow (e 5) 33
    if a.testBit 7 then throw 1
    return .i3c a (← rawBytes [e 6, e 7, e 8, e 9] w) r
  else if p < 11 then
    if op ≠ 1 ∨ n ≠ 6 then throw 1
    let c ← fixBelow (e 3) 64
    let len ← fixBelow (e 4) 257
    if bits c 3 2 ≠ 0 ∨ len = 0 then throw 1
    let data ← s.dataVec (e 5) len
    let v := match s.paintObj (e 5) with
      | some x => x.1
      | none => 0
    return .spi (c % 4) (c / 16) v data
  else
    if op ≠ 1 ∨ n ≠ 5 then throw 1
    let len ← fixBelow (e 3) 257
    if len = 0 then throw 1
    return .uart (← s.dataVec (e 4) len)

/-- Write the status of a request, and notify its sprig (R795). -/
def State.reqDone (s : State) (addr : Nat) (notify : TWord) (status : Nat) : State :=
  let s := s.engineStore addr 2 (fix (status : Int))
  if notify.t = tSPRG then s.sendSprig notify (BitVec.ofNat 64 (2 ^ 52)) else s

/-- A taken request completes. -/
def State.complete (s : State) (r : Taken) (status : Nat) : State :=
  let s := s.setVio fun v => { v with taken := v.taken.filter fun x => x.order ≠ r.order }
  ({ s with heap := { s.heap with registered := s.heap.registered.erase r.addr } }).reqDone r.addr r.notify status

/-- A request that cannot be taken fails at once; one too short for a status or a sprig gets neither. -/
def State.reqFail (s : State) (w : TWord) (status : Nat) : State :=
  match if w.t = tVEC then s.paintObj w else none with
  | some (a, n) =>
    let h := s.elem a 1
    if 2 < n then s.reqDone a h status
    else if 1 < n ∧ h.t = tSPRG then s.sendSprig h (BitVec.ofNat 64 (2 ^ 52))
    else s
  | none => s

/-- What becomes of a word taken from a port's slot: malformed is decided first, then a reserved controller, then a
disabled one (log entry 53). -/
def acceptReq (p : Nat) (w : TWord) (s : State) : State :=
  match (do parseReq s p (← s.reqElems tVEC w) : Except Nat VioReq), s.paintObj w with
  | .ok q, some (a, _) =>
    if p = 8 ∧ s.bit (F.VIO_I3C_CTL_PMIC 1) then s.reqFail w 4
    else if !s.portRuns p then s.reqFail w 2
    else
      let t : Taken := ⟨p, a, s.vio.order, s.elem a 1, q, false⟩
      let s := s.setVio fun v => { v with taken := v.taken ++ [t], order := v.order + 1 }
      { s with heap := { s.heap with registered := s.heap.registered ++ [a] } }
  | .error st, _ => s.reqFail w st
  | _, none => s.reqFail w 1

/-- Requests of a port that are held, oldest first. -/
def State.takenOf (s : State) (p : Nat) : List Taken := s.vio.taken.filter fun r => r.port == p

/-- A port's controller takes the next request (R791, R792; 13 R671). -/
def vioTake (p : Nat) (s : State) : State :=
  let a := s.heapReg (F.VIO_PORT_L_ADDR p) (F.VIO_PORT_H_ADDR p)
  if !(s.fld F.VIO_PORTCTL_PORTEN).testBit p ∨ 16 ≤ (s.takenOf p).length ∨ s.engineBad a ∨ s.engineBad (a + 130) then s
  else
    let c := s.elem a 1
    let i := if c.t = tFIX then c.p else 0
    let w := s.elem a (2 + i % 128)
    if w.t = tNIL then s
    else acceptReq p w ((s.engineStore a (2 + i % 128) nil).engineStore a 1 (fix ((i + 1 : Nat) : Int)))

/-- The oldest request of a port that is not under way, unless the gates hold it (R798). -/
def State.nextReq (s : State) (p : Nat) : Option Taken :=
  if s.gated && (decide (p < 4) || p == 6) then none else (s.takenOf p).find? fun r => !r.started

/-- The request of a port that is under way. -/
def State.underWay (s : State) (p : Nat) : Option Taken := (s.takenOf p).find? fun r => r.started

def State.startReq (s : State) (r : Taken) : State :=
  s.setVio fun v => { v with taken := v.taken.map fun x => if x.order = r.order then { x with started := true } else x }

def State.emit (s : State) (e : Emission) : State := { s with out := s.out ++ [e] }

/-- The next request of a port, when none of the port is under way, goes under way as f says. -/
def beginReq (p : Nat) (s : State) (f : VioReq → Option (State → State)) : State :=
  if (s.underWay p).isSome ∨ !s.portRuns p then s
  else match s.nextReq p with
    | none => s
    | some r => match f r.req with
      | some g => g (s.startReq r)
      | none => s

/-- The controller of a port has been disabled: what it holds is aborted (R793). -/
def abortReqs (p status : Nat) (s : State) : State := (s.takenOf p).foldl (fun s r => s.complete r status) s

/-! ### Receive rings (R796, R797) -/

/-- A ring error (R796, R821). -/
def ringError (r : Nat) (s : State) : State :=
  let s := (s.setFld ⟨0xB004, 16 + r, 16 + r⟩ 0).setFld F.VIO_STATUS_RINGERR 1
  if r < 4 then s.irq 9 (5 + r * 2 ^ 8) else if r < 6 then s.irq 10 (1 + (r - 4) * 2 ^ 8) else s.irq 12 2

/-- Words per record of a ring. -/
def recordSize (r : Nat) : Nat := if r < 4 then 10 else if r < 6 then 3 else 2

/-- Put a record into a ring. -/
def ringPush (r : Nat) (ws : List TWord) (s : State) : State :=
  let size := recordSize r
  let a := s.heapReg (F.VIO_RING_L_ADDR r) (F.VIO_RING_H_ADDR r)
  if !(s.fld F.VIO_PORTCTL_RINGEN).testBit r then s
  else if s.engineBad a || s.engineBad (a + 2) then ringError r s
  else
    let h := s.heapRead a
    let len := hdrLen h
    let p := s.elem a 0
    let c := s.elem a 1
    let n := p.i - c.i
    let cap := (len - 2) / size
    if h.t ≠ tHDR ∨ hdrKind h ≠ kVec ∨ len < 2 + 4 * size ∨ (len - 2) % size ≠ 0 ∨ p.t ≠ tFIX ∨ c.t ≠ tFIX ∨ n < 0
        ∨ (cap : Int) < n then ringError r s
    else if n = (cap : Int) then s.bump (F.VIO_RXLOST_CNT_COUNT r) ⟨0xB000, 3 + r, 3 + r⟩
    else
      let k := 2 + (p.i % (cap : Int)).toNat * size
      if s.engineBad (a + 1 + k) || s.engineBad (a + k + size) then ringError r s
      else
        let s := (List.range size).foldl (fun s j => s.engineStore a (k + j) (ws.getD j (rawW 0))) s
        let s := s.engineStore a 0 (fix (p.i + 1))
        let wm := s.fld (F.VIO_RINGWM_WM r)
        if wm ≠ 0 ∧ n + 1 = (wm : Int) then
          s.sendSprig (mkN tSPRG (s.fld (F.VIO_RINGSPR_HANDLE r))) (BitVec.ofNat 64 (2 ^ 53))
        else s

/-- Eight RAW words of data bytes. -/
def rawWords (n : Nat) (bs : List Byte) : List TWord := (List.range n).map fun i => rawW (leNat ((bs.drop (8 * i)).take 8))

/-! ### The Listener (R807 to R811) -/

def State.lsig (s : State) (k : Nat) : Bool := (s.fld (F.VIO_LSIG_S (k / 32))).testBit (k % 32)

/-- A signal takes a value (R810, R811). -/
def setSignal (k : Nat) (v timeout : Bool) (s : State) : State :=
  if s.lsig k = v then s
  else
    let f := F.VIO_LSIG_S (k / 32)
    let s := (s.setFld f (setBits (s.fld f) (k % 32) (k % 32) (b2n v))).lampChange
    if s.bit F.VIO_LCTL_SIRQ && !timeout then s.irq 9 (4 + k * 2 ^ 16 + b2n v * 2 ^ 24) else s

/-- The fields of a slot have taken effect: enabling it sets its signal to DEFAULT, disabling it to 0 (R807, R811). -/
def slotChanged (k : Nat) (was : Bool) (s : State) : State :=
  let on := s.actBit (F.VIO_LSB_EN k)
  if on && !was then
    setSignal k (s.actBit (F.VIO_LSB_DEFAULT k)) false (s.setVio fun v => { v with accepted := AMap.insert v.accepted k s.now })
  else if !on && was then setSignal k false false (s.setVio fun v => { v with accepted := AMap.erase v.accepted k })
  else s

/-- The fields of a slot take effect. -/
def slotTransfer (k : Nat) (s : State) : State :=
  let was := s.actBit (F.VIO_LSB_EN k)
  slotChanged k was
    (((s.transferAt .lis (F.VIO_LSA_ID k).off).transferAt .lis (F.VIO_LSB_EN k).off).transferAt .lis (F.VIO_LSC_LO k).off)

/-- The condition of a slot on its field (R807). -/
def State.slotCond (s : State) (k x : Nat) : Bool :=
  let lo := s.actFld (F.VIO_LSC_LO k)
  match s.actFld (F.VIO_LSB_MODE k) with
  | 0 => decide (x ≠ 0)
  | 1 => x == lo
  | 2 => decide (lo ≤ x ∧ x ≤ s.actFld (F.VIO_LSC_HI k))
  | _ => decide (x &&& lo ≠ 0)

/-- One slot at the end of a frame on its controller (R808, R809). -/
def slotFrame (f : CanFrame) (data : List Byte) (s : State) (k : Nat) : State :=
  let hit := s.actBit (F.VIO_LSB_EN k) && s.actFld (F.VIO_LSA_ID k) == f.id.toNat && s.actBit (F.VIO_LSA_IDE k) == f.ide && !f.rtr
  let lo := s.actFld (F.VIO_LSB_BITPOS k)
  let n := s.actFld (F.VIO_LSB_LENM1 k) + 1
  if !hit then s
  else if data.length < (lo + n + 7) / 8 then s.bump F.VIO_LSHORT_CNT_COUNT F.VIO_STATUS_LSHORT_SAT
  else
    let g := F.VIO_LSTALE_STALE (k / 32)
    let s := s.setFld g (setBits (s.fld g) (k % 32) (k % 32) 0)
    let s := s.setVio fun v => { v with accepted := AMap.insert v.accepted k s.now }
    setSignal k (s.slotCond k (bits (leNat data) (lo + n - 1) lo)) false s

/-- Slots of a controller. -/
def State.slotsOn (s : State) (n : Nat) : List Nat := (List.range 128).filter fun k => s.actFld (F.VIO_LSA_CTRL k) == n

/-- The EDGE fields of a controller's filters and slots take effect at the end of a frame (R807, R823). -/
def canBoundary (n : Nat) (s : State) : State :=
  let s := (List.range 16).foldl (fun (s : State) m =>
    (s.transferAt (.can n) (F.VIO_CAN_FLT_ID n m).off).transferAt (.can n) ((F.VIO_CAN_FLT_ID n m).off + 4)) s
  (s.slotsOn n).foldl (fun s k => slotTransfer k s) s

/-- No frame for TIMEOUT (R811). -/
def listenerTimeout (k : Nat) (s : State) : State :=
  let ms := s.actFld (F.VIO_LSB_TIMEOUT k)
  match s.vio.accepted.find? k with
  | some t =>
    if !s.actBit (F.VIO_LSB_EN k) || ms == 0 || decide (s.now < t + ms * 1000000) then s
    else
      let s := s.setVio fun v => { v with accepted := AMap.erase v.accepted k }
      let g := F.VIO_LSTALE_STALE (k / 32)
      let s := s.setFld g (setBits (s.fld g) (k % 32) (k % 32) 1)
      ((setSignal k (s.actBit (F.VIO_LSB_DEFAULT k)) true s).irq 9 (3 + k * 2 ^ 16)).raise aLisTimeout k
  | none => s

/-! ### CAN FD (R800 to R806) -/

/-- A frame passes an acceptance filter (R806). -/
def State.passes (s : State) (n : Nat) (f : CanFrame) : Bool :=
  (List.range 16).any fun m =>
    let mask := s.actFld ⟨(F.VIO_CAN_FLT_ID n m).off + 4, 28, 0⟩
    s.actBit (F.VIO_CAN_FLT_EN n m) && s.actBit (F.VIO_CAN_FLT_IDE n m) == f.ide
      && (f.id.toNat &&& mask) == (s.actFld (F.VIO_CAN_FLT_ID n m) &&& mask)

/-- The ring record of a frame (R796). -/
def canRecord (f : CanFrame) (data : List Byte) (now : Nat) : List TWord :=
  rawW (f.id.toNat + b2n f.ide * 2 ^ 29 + b2n f.fdf * 2 ^ 30 + b2n f.brs * 2 ^ 31 + b2n f.rtr * 2 ^ 32 + f.len.val * 2 ^ 33
    + b2n f.esi * 2 ^ 40) :: stampW now :: rawWords 8 data

/-- Data bytes of a frame: as many as its length says, none in a remote frame. -/
def CanFrame.bytes (f : CanFrame) : List Byte := if f.rtr then [] else (f.data ++ List.replicate 64 0#8).take f.len.val

/-- The end of a valid frame received on a controller (R802, R806, R809). A bus-off controller and one in internal
loopback receive nothing. -/
def canReceive (n : Nat) (f : CanFrame) (s : State) : State :=
  if !s.bit (F.VIO_CAN_CTL_EN n) || s.busOff n || s.fld (F.VIO_CAN_CTL_MODE n) == 3 then s
  else
    let s := canBoundary n s
    let s := if s.passes n f then ringPush n (canRecord f f.bytes s.now) s else s
    (s.slotsOn n).foldl (slotFrame f f.bytes) s

/-- The place of an identifier word in the order of arbitration: the 11 leading bits, then a base identifier before an
extended one, then the other 18 bits (R803). -/
def arbKey (w : Nat) : Nat :=
  if w.testBit 29 then bits w 28 18 * 2 ^ 19 + 2 ^ 18 + bits w 17 0 else bits w 10 0 * 2 ^ 19

/-- The queued SEND that goes first. -/
def firstSend : List Taken → Option (Taken × Nat × List Byte)
  | [] => none
  | r :: rs =>
    match r.started, r.req, firstSend rs with
    | true, .can id d, some (q, w, e) => if arbKey w < arbKey id then some (q, w, e) else some (r, id, d)
    | true, .can id d, none => some (r, id, d)
    | _, _, t => t

/-- A SEND request is queued for transmission (R803). -/
def canSend (n : Nat) (s : State) : State :=
  match s.nextReq n with
  | some r => if s.portRuns n then s.startReq r else s
  | none => s

/-- A frame of the controller reaches its end. In loopback it goes to the ring and not to the bus (R803, R804, R806). Of
a proof frame and a SEND with the same identifier the proof frame goes first (log entry 54). -/
def canTxComplete (n : Nat) (s : State) : State :=
  let wit := if s.canSends n then s.vio.wit.find? n else none
  let send := if s.portRuns n then firstSend (s.takenOf n) else none
  let first := match wit, send with
    | some w, some (_, id, _) => decide (arbKey w.id ≤ arbKey id)
    | some _, none => true
    | none, _ => false
  if first then
    match wit with
    | some w => canBoundary n ((s.setVio fun v => { v with wit := AMap.erase v.wit n }).emit (.can n w.id w.data))
    | none => s
  else match send with
    | some (r, id, d) =>
      let s := canBoundary n s
      let s := if s.fld (F.VIO_CAN_CTL_MODE n) = 3 then
          let f : CanFrame := ⟨BitVec.ofNat 29 id, id.testBit 29, id.testBit 30, id.testBit 31, false, false,
            Fin.ofNat 65 d.length, d⟩
          if s.passes n f then ringPush n (canRecord f d s.now) s else s
        else s.emit (.can n id d)
      s.complete r 0
    | none => s

/-- Error counters of a controller, and its error-passive state (R821). -/
def canErrors (n tec rec' : Nat) (s : State) : State :=
  if !s.bit (F.VIO_CAN_CTL_EN n) || s.busOff n then s
  else
    let was := s.bit (F.VIO_CAN_STAT_PASSIVE n)
    let on := decide (128 ≤ tec) || decide (128 ≤ rec')
    let s := ((s.setFld (F.VIO_CAN_STAT_TEC n) tec).setFld (F.VIO_CAN_STAT_REC n) rec').setFld (F.VIO_CAN_STAT_PASSIVE n) (b2n on)
    if on = was then s else s.irq 9 (2 + n * 2 ^ 8)

/-- Entry to bus-off (R805; 14 R742). -/
def canBusOff (n : Nat) (s : State) : State :=
  if !s.bit (F.VIO_CAN_CTL_EN n) || s.busOff n then s
  else
    let s := abortReqs n 2 s
    let s := if (s.vio.wit.find? n).isSome then (s.setVio fun v => { v with wit := AMap.erase v.wit n }).canLate else s
    ((s.setFld (F.VIO_CAN_STAT_BUSOFF n) 1).irq 9 (1 + n * 2 ^ 8)).raise aCanBusoff n

/-- RECOVER starts bus-off recovery (R800). -/
def canRecover (n : Nat) (s : State) : State :=
  if s.busOff n && !s.vio.recovering.contains n then s.setVio fun v => { v with recovering := v.recovering ++ [n] } else s

/-- 128 occurrences of 11 recessive bits have passed (R800). -/
def canRecovered (n : Nat) (s : State) : State :=
  if s.busOff n && (s.bit (F.VIO_CAN_CTL_AUTOREC n) || s.vio.recovering.contains n) then
    let s := s.setVio fun v => { v with recovering := v.recovering.erase n }
    s.setReg (F.VIO_CAN_STAT_TEC n).off 0#32
  else s

/-! ### LIN (R812, R813) -/

/-- A frame that a LIN controller completes or observes goes into its ring (R813). -/
def linRecord (n id : Nat) (seen : LinSeen) (published : Bool) (s : State) : State :=
  let d := seen.data.take 8
  ringPush (4 + n) [rawW (id + d.length * 2 ^ 8 + b2n seen.good * 2 ^ 12 + b2n seen.enhanced * 2 ^ 13 + b2n published * 2 ^ 14),
    stampW s.now, rawW (leNat d)] s

/-- EDGE fields of the response entries (R823). -/
def linBoundary (n : Nat) (s : State) : State :=
  (List.range 48).foldl (fun (s : State) i => s.transferAt (.lin n) (0xBD10 + 256 * n + 4 * i)) s

/-- A commander sends the header of the next FRAME request. -/
def linFrame (n : Nat) (s : State) : State :=
  beginReq (4 + n) s fun q => match q with
    | .linFrame _ _ _ _ _ => if s.bit (F.VIO_LIN_CTL_CMDR n) then some id else none
    | _ => none

/-- The wake-up signal of the next WAKEUP request. -/
def linWakeup (n : Nat) (s : State) : State :=
  beginReq (4 + n) s fun q => match q with
    | .linWakeup => some fun s => s.emit (.linWake n)
    | _ => none

/-- A response ends a FRAME: the published data, or what has been received. -/
def linDone (n : Nat) (r : Taken) (data : List Byte) (good : Bool) (s : State) : State :=
  match r.req with
  | .linFrame id len sub enh out =>
    let s := linBoundary n s
    if sub then
      let d := (data ++ List.replicate 8 0#8).take len
      let s := linRecord n id ⟨d, good, enh⟩ false s
      if good then (s.engineStore r.addr 7 (rawW (leNat d))).complete r 0 else s.complete r 5
    else (linRecord n id ⟨out, true, enh⟩ true (s.emit (.lin n id out))).complete r 0
  | _ => s.complete r 0

/-- No complete response in time (R813): the header is recorded, with no data byte. -/
def linTimeout (n : Nat) (s : State) : State :=
  match s.underWay (4 + n) with
  | some r => match r.req with
    | .linFrame id _ true enh _ => (linRecord n id ⟨[], false, enh⟩ false (linBoundary n s)).complete r 5
    | _ => s
  | none => s

/-- The response entry that answers a header. -/
def State.linEntry (s : State) (n id : Nat) : Option Nat :=
  (List.range 16).find? fun m => s.actBit (F.VIO_LIN_RSP_EN n m) && s.actFld (F.VIO_LIN_RSP_ID n m) == id

/-- A responder receives a header, answers it, or observes the response of another node (R812, R813). -/
def linHeader (n id : Nat) (inSync : Bool) (seen : LinSeen) (s : State) : State :=
  if !s.bit (F.VIO_LIN_CTL_EN n) || s.bit (F.VIO_LIN_CTL_CMDR n) then s
  else if !inSync then s.setFld (F.VIO_LIN_STAT_SYNCERR n) 1
  else match s.linEntry n id with
    | some m =>
      let d := leBytes 4 (s.actFld (F.VIO_LIN_RSPD0_DATA n m)) ++ leBytes 4 (s.actFld (F.VIO_LIN_RSPD1_DATA n m))
      let d := d.take (s.actFld (F.VIO_LIN_RSP_LEN n m))
      linBoundary n (linRecord n id ⟨d, true, s.actBit (F.VIO_LIN_RSP_ENH n m)⟩ true (s.emit (.lin n id d)))
    | none => linBoundary n (linRecord n id seen false s)

def linWakeRx (n : Nat) (s : State) : State :=
  if s.bit (F.VIO_LIN_CTL_EN n) then (s.setFld (F.VIO_LIN_STAT_WAKERX n) 1).irq 10 (2 + n * 2 ^ 8) else s

/-! ### GPIO and PWM (R814, R815; 13 R702) -/

def State.gpioOut (s : State) (set' clear : W32) : State := s.setReg 0xB384 ((s.reg 0xB384 ||| set') &&& ~~~clear)

/-- A write of VIO_GPIO_SET or VIO_GPIO_CLR; a host's is held while the gates are closed (R798). -/
def gpioWrite (req : Req) (off : Nat) (v : W32) (s : State) : State :=
  if s.gated ∧ req = .host then s.setVio fun x => { x with heldWrites := x.heldWrites ++ [⟨off, v⟩] }
  else if off = 0xB388 then s.gpioOut v 0#32
  else s.gpioOut 0#32 v

/-- The Mirror drives a PWM channel (13 R702). -/
def State.blDrives (s : State) (ch : Nat) : Bool := (ch == 6 && s.bit (F.MIR_BL_EN 0)) || (ch == 7 && s.bit (F.MIR_BL_EN 1))

def gpioPins (s : State) : State :=
  beginReq 6 s fun q => match q with
    | .pins a b => some fun s => s.gpioOut (BitVec.ofNat 32 a) (BitVec.ofNat 32 b)
    | _ => none

/-- A DUTY request writes the duty; on a channel that the Mirror drives it is refused as a write is. -/
def pwmDuty (s : State) : State :=
  beginReq 6 s fun q => match q with
    | .duty ch d => some fun s =>
      if s.blDrives ch then s.setFld F.VIO_STATUS_CFG_REJ 1
      else
        let s := s.setFld (F.VIO_PWMD_DUTY ch) d
        if s.bit (F.VIO_PWM_EN ch) then s else s.transferAt (.pwm ch) (F.VIO_PWMD_DUTY ch).off
    | _ => none

/-- A PWM period ends and the next one starts; the start triggers converters (R815; 15 R759). -/
def pwmPeriod (ch : Nat) (s : State) : State :=
  if s.bit (F.VIO_PWM_EN ch) || s.blDrives ch then
    adcFire (6 + ch) none ((s.transferAt (.pwm ch) (F.VIO_PWM_PER ch).off).transferAt (.pwm ch) (F.VIO_PWMD_DUTY ch).off)
  else s

/-- The raw level of a pin changes (R814; 14 R717). -/
def gpioLevel (pin : Nat) (level : Bool) (s : State) : State :=
  if s.vio.raw.getLsbD pin = level then s
  else s.setVio fun v =>
    { v with raw := BitVec.ofNat 32 (setBits v.raw.toNat pin pin (b2n level)), rawAt := AMap.put 0 v.rawAt pin s.now }

/-- A pin has been stable for its filter time (R814). -/
def gpioEdge (pin : Nat) (s : State) : State :=
  let level := s.vio.raw.getLsbD pin
  let was := (s.fld F.VIO_GPIO_IN_IN).testBit pin
  if level = was ∨ s.now < AMap.get 0 s.vio.rawAt pin + s.fld (F.VIO_GPIOCFG_FILT pin) * 1000 then s
  else
    let s := s.setFld F.VIO_GPIO_IN_IN (setBits (s.fld F.VIO_GPIO_IN_IN) pin pin (b2n level))
    let sel := s.fld (F.VIO_GPIOCFG_IRQ pin)
    if sel.testBit (if level then 0 else 1) then s.irq 11 (1 + pin * 2 ^ 8 + b2n level * 2 ^ 16) else s

/-! ### I3C/I2C, SPI and UART (R816, R817) -/

def i3cXfer (n : Nat) (s : State) : State :=
  if s.bit (F.VIO_I3C_DAA_BUSY n) then s
  else beginReq (7 + n) s fun q => match q with
    | .i3c a w _ => some fun s => s.emit (.i3c n a w)
    | _ => none

def spiXfer (n : Nat) (s : State) : State :=
  beginReq (9 + n) s fun q => match q with
    | .spi cs _ _ d => some fun s => s.emit (.spi n cs d)
    | _ => none

def uartSend (s : State) : State :=
  beginReq 11 s fun q => match q with
    | .uart d => some fun s => s.emit (.uart d)
    | _ => none

/-- Store bytes as RAW words of an object from element i. -/
def State.storeBytes (s : State) (a i : Nat) (n : Nat) (bs : List Byte) : State :=
  let ws := rawWords ((n + 7) / 8) ((bs ++ List.replicate n 0#8).take n)
  ((List.range ws.length).zip ws).foldl (fun s e => s.engineStore a (i + e.1) e.2) s

/-- The request under way at a port ends (R793, R795). -/
def vioComplete (p : Nat) (how : VioEnd) (data : List Byte) (s : State) : State :=
  match s.underWay p with
  | none => s
  | some r => match r.req, how with
    | .linFrame _ _ _ _ _, .ok => linDone (p - 4) r data true s
    | .linFrame _ _ true _ _, .noResponse => linDone (p - 4) r data false s
    | .linWakeup, .ok => s.complete r 0
    | .pins _ _, .ok => s.complete r 0
    | .duty _ _, .ok => s.complete r 0
    | .i3c _ _ n, .ok => (s.storeBytes r.addr 10 n data).complete r 0
    | .i3c _ _ _, .noAck => s.complete r 6
    | .i3c _ _ _, .busError => s.complete r 7
    | .spi _ _ v d, .ok => (s.storeBytes v 0 d.length data).complete r 0
    | .uart _, .ok => s.complete r 0
    | _, _ => s

/-- The UART's open record goes into the ring. -/
def uartClose (s : State) : State :=
  let v := s.vio
  if v.uartBytes.isEmpty then s
  else
    let w := leNat v.uartBytes + v.uartBytes.length * 2 ^ 56 + v.uartErr * 2 ^ 59
    ringPush 6 [rawW w, stampW v.uartAt] (s.setVio fun v => { v with uartBytes := [], uartErr := 0 })

/-- The UART receives a byte (R796). -/
def uartRx (b : Byte) (parity framing : Bool) (s : State) : State :=
  if !s.bit F.VIO_UART_CTL_EN then s
  else
    let s := s.setVio fun v =>
      { v with uartBytes := v.uartBytes ++ [b], uartErr := v.uartErr ||| (b2n parity + 2 * b2n framing), uartAt := s.now }
    if 7 ≤ s.vio.uartBytes.length then uartClose s else s

/-- Two character times in ns (R816). -/
def State.uartIdle (s : State) : Nat :=
  let n := 10 + b2n (decide (s.fld F.VIO_UART_CTL_PARITY ≠ 0)) + s.fld F.VIO_UART_CTL_STOP2
  2 * n * (80 * s.fld F.VIO_UART_BAUD_DIV + 5 * s.fld F.VIO_UART_BAUD_FRAC)

/-- The line has been idle for two character times (R797). -/
def uartIdleClose (s : State) : State := if s.vio.uartAt + s.uartIdle ≤ s.now then uartClose s else s

def i3cIbi (n addr : Nat) (s : State) : State :=
  if s.bit (F.VIO_I3C_CTL_EN n) && s.bit (F.VIO_I3C_CTL_IBIEN n) then s.irq 12 (1 + n * 2 ^ 8 + addr * 2 ^ 16) else s

/-- A write of GO (R823). -/
def i3cDaa (n : Nat) (s : State) : State :=
  if s.bit (F.VIO_I3C_CTL_EN n) then s.setFld (F.VIO_I3C_DAA_BUSY n) 1 else s

def i3cDaaDone (n count : Nat) (s : State) : State :=
  if s.bit (F.VIO_I3C_DAA_BUSY n) then (s.setFld (F.VIO_I3C_DAA_COUNT n) count).setFld (F.VIO_I3C_DAA_BUSY n) 0 else s

/-! ### WAKE inputs (R818, R819) -/

/-- A tick of the timebase; on an edge of the 32.768 kHz source the WAKE filters take a sample. -/
def tick (wake : BitVec 4) (s : State) : State :=
  let slow := s.time.slow
  let s : State := { s with time := s.time.edge }
  let s := s.setFld F.VIO_WAKESTAT_LEVEL wake.toNat
  if !slow then s
  else (List.range 4).foldl (fun (s : State) n =>
    let active := s.bit (F.VIO_WAKE_EN n) && (wake.getLsbD n != s.bit (F.VIO_WAKE_POL n))
    s.setPower fun p => { p with wakeRuns := AMap.put 0 p.wakeRuns n (if active then min 256 (AMap.get 0 p.wakeRuns n + 1) else 0) }) s

end Sys2Proof.Machine
end

