-- ==== Sys2Proof/Machine/RegCore.lean ====
section
/-!
DEFINITION. What a write does to the fields of a setup register (00 R10 to R24, R1020; 01 R51 to R55).
-/
namespace Sys2Proof.Machine

/-! ### Outputs (13 R689, R697 to R699) -/

/-- Lines and pixels of an output's blanking, and whole line. -/
def State.hBlank (s : State) (n : Nat) : Nat :=
  s.fld (F.MIR_HTIMA_HFP n) + s.fld (F.MIR_HTIMB_HSYNC n) + s.fld (F.MIR_HTIMB_HBP n)

def State.vBlank (s : State) (n : Nat) : Nat :=
  s.fld (F.MIR_VTIMA_VFP n) + s.fld (F.MIR_VTIMB_VSYNC n) + s.fld (F.MIR_VTIMB_VBP n)

/-- Lane rates of OUT-A in kb/s. -/
def edpRate : Nat → Nat
  | 0 => 1620000
  | 1 => 2700000
  | 2 => 5400000
  | _ => 8100000

/-- The settings allow output n to be enabled. DEDUCED: an option that R697 and R698 do not support counts as one that
R689 refuses (log entry 61). -/
def State.outputOk (s : State) (n : Nat) : Bool :=
  let hact := s.fld (F.MIR_HTIMA_HACT n)
  let vact := s.fld (F.MIR_VTIMA_VACT n)
  let khz := s.fld (F.MIR_PCLK_KHZ n)
  let lanes := s.fld (F.MIR_LINK_LANES n)
  let rate := s.fld (F.MIR_LINK_RATE n)
  let bpp := if s.bit (F.MIR_LINK_BPC6 n) then 18 else 24
  let blank := s.hBlank n + s.vBlank n * (hact + s.hBlank n)
  decide (khz ≤ blank * 50) &&
    (if n = 0 then
      decide (640 ≤ hact ∧ hact ≤ 3840 ∧ 480 ≤ vact ∧ vact ≤ 1440 ∧ 25000 ≤ khz ∧ khz ≤ 350000 ∧ rate ≤ 3
        ∧ (lanes = 1 ∨ lanes = 2 ∨ lanes = 4) ∧ khz * bpp * 10 ≤ lanes * edpRate rate * 8)
    else
      decide (320 ≤ hact ∧ hact ≤ 1920 ∧ 240 ≤ vact ∧ vact ≤ 1080 ∧ 10000 ≤ khz ∧ khz ≤ 150000 ∧ 8 ≤ rate
        ∧ rate ≤ 250 ∧ 1 ≤ lanes ∧ lanes ≤ 4 ∧ 105 * khz * bpp ≤ lanes * rate * 1000000))

/-! ### Boundaries that are pending (R1020) -/

def State.outputsOn (s : State) : Bool := s.bit (F.MIR_CTL_EN 0) || s.bit (F.MIR_CTL_EN 1)

def State.boundaryPending (s : State) (off : Nat) : Boundary → Bool
  | .mir n => s.bit (F.MIR_CTL_EN n)
  | .wit => s.outputsOn
  | .gcStart => decide (s.heap.phase ≠ .idle)
  | .gcSelect => decide (s.heap.phase ≠ .idle)
  | .gcEnd => decide (s.heap.phase ≠ .idle)
  | .adcSeq k => (s.conv k).seq
  | .adcUrg k => s.bit (F.ADC_CTL_EN k)
  | .adcCmp => s.bit (F.ADC_CTL_EN ((off - 0xA800) / 8 / 16))
  | .can n => s.bit (F.VIO_CAN_CTL_EN n)
  | .lin n => s.bit (F.VIO_LIN_CTL_EN n)
  | .lis => s.bit (F.VIO_CAN_CTL_EN (s.actFld (F.VIO_LSA_CTRL ((off - 0xB400) / 12))))
  | .pwm n => s.bit (F.VIO_PWM_EN n)
  | .audit => !(s.tally.built.isEmpty && s.tally.rings.isEmpty)
  | .place => true

/-! ### What must be stopped (R22) -/

def State.anyRing (s : State) : Bool := (List.range 16).any fun n => (s.ring n).active

/-- The block of a HALT field of instance i runs. -/
def State.blockRuns (s : State) (i : Nat) : HaltCond → Bool
  | .evrAll => s.anyRing || s.bit F.EVR_ECTL_EN || s.bit F.EVR_LCTL_EN
  | .evrRing => (s.ring i).active
  | .evrEvt => s.bit F.EVR_ECTL_EN
  | .evrLog => s.bit F.EVR_LCTL_EN
  | .mir => s.bit (F.MIR_CTL_EN i)
  | .adcRef => (List.range 3).any fun k => s.bit (F.ADC_CTL_EN k)
  | .adcDma => s.bit F.ADC_DMA_CTL_EN
  | .vioPort => (s.fld F.VIO_PORTCTL_PORTEN).testBit i
  | .vioRing => (s.fld F.VIO_PORTCTL_RINGEN).testBit i
  | .can => s.bit (F.VIO_CAN_CTL_EN i)
  | .i3c => s.bit (F.VIO_I3C_CTL_EN i)
  | .spi => s.bit (F.VIO_SPI_CTL_EN i)
  | .uart => s.bit F.VIO_UART_CTL_EN
  | .lin => s.bit (F.VIO_LIN_CTL_EN i)
  | .gkpStream => s.gkp.stream.isSome
  | .ddr => s.bit F.PLT_DDR_STAT_BUSY || s.bit F.PLT_DDR_STAT_READY

/-! ### Locks (R13) -/

def State.lockSet (s : State) : Lock → Bool
  | .fryCode => s.bit F.FRY_CODE_CTL_LOCK
  | .spn => s.bit F.SPN_CTL_LOCK
  | .fry => s.bit F.FRY_CTL_LOCK
  | .pnt => s.bit F.PNT_CTL_LOCK

/-! ### Reserved encodings (R16) -/

/-- Two regions of pages overlap. -/
def pagesOverlap (a an b bn : Nat) : Bool := decide (a < b + bn ∧ b < a + an)

/-- Reserved encodings of the SPN window (09 R437). -/
def State.spnReserved (s : State) (off v : Nat) : Bool :=
  let hb := if off = 0x4004 then v else s.fld F.SPN_HEAP_BASE_PAGE
  let hp := if off = 0x4008 then v else s.fld F.SPN_HEAP_PAGES_COUNT
  let ib := if off = 0x400C then v else s.fld F.SPN_IMG_BASE_PAGE
  let ip := if off = 0x4010 then v else s.fld F.SPN_IMG_PAGES_COUNT
  pagesOverlap hb hp ib ip || ((off == 0x4008 || off == 0x4010) && decide (0x100000 < v))
    || (off == 0x4008 && decide (1 ≤ v ∧ v ≤ 3))

/-- A written value lies outside a range. -/
def outside (v lo hi : Nat) : Bool := decide (v < lo ∨ hi < v)

/-- The written value of one field is a reserved encoding, whatever the other fields hold. -/
def State.fieldReserved (s : State) (off lo v : Nat) : Bool :=
  match off / 4096 with
  | 0x1 => (off == 0x1200 && lo == 4 && v == 3)
  | 0x2 =>
    lo == 4 && outside v 4 16 &&
      (off == 0x2308 || off == 0x2328 || (decide (0x2100 ≤ off ∧ off < 0x2300) && off % 32 == 16))
  | 0x3 => (off == 0x3004 && v == 0) || (off == 0x3008 && outside v 1 8192)
  | 0x4 =>
    (decide (0x4004 ≤ off ∧ off ≤ 0x4010) && s.spnReserved off v)
      || (off == 0x4000 && lo == 1 && v == 1 && decide (s.fld F.SPN_HEAP_PAGES_COUNT < 4))
      || (off == 0x4020 && decide (lo < 16 ∧ 100 < v))
  | 0x5 => (off == 0x5F04 && decide (8192 < v))
  | 0x6 =>
    let n := (off - 0x6000) / 256
    let o := off % 256
    if off = 0x6200 then (lo == 0 && !([0x05, 0x15, 0x39].contains v)) || (lo == 8 && outside v 1 16)
    else if o = 0x24 then
      (lo == 0 && !((if n = 0 then [1, 2, 4] else [1, 2, 3, 4]).contains v))
        || (lo == 4 && (if n = 0 then decide (3 < v) else outside v 8 250)) || (lo == 18 && v == 3)
    else if o = 0x28 then lo == 16 && outside v 100 50000
    else o == 0 && lo == 0 && v == 1 && !s.outputOk n
  | 0x7 =>
    (off == 0x7010 && v == 0) || (off == 0x700C && decide (s.fld F.PNT_POOL_TILES_COUNT < v))
      || (off == 0x7008 && decide (v < s.fld F.PNT_POOL_RSV_COUNT))
  | 0x8 => (decide (0x8100 ≤ off ∧ off < 0x8140) && lo == 8 && v == 3)
  | 0x9 => (off == 0x9004 && outside v 10 1000)
  | 0xA =>
    if off < 0xA400 then
      let o := off % 256
      if off < 0xA100 then false
      else if o = 0x00 then lo == 6 && v == 3
      else if o = 0x08 then outside v 2 1000000
      else decide (0xC0 ≤ o) && (lo == 13 && v == 3 || lo == 9 && (v == 5 || v == 14 || v == 15))
    else (off == 0xA404 && lo == 0 && decide (64 < v))
      || (decide (0xA800 ≤ off ∧ off < 0xA980) && off % 8 == 4 && lo == 8 && v == 0)
  | 0xB =>
    if 0xB200 ≤ off ∧ off < 0xB300 then
      if off % 64 = 4 then lo != 0 && v == 0
      else off % 64 == 8 && (if lo = 0 then decide (31 < v) else if lo = 8 then outside v 1 31 else outside v 1 15)
    else if 0xB300 ≤ off ∧ off < 0xB380 then lo == 2 && v == 3
    else if 0xB3C0 ≤ off ∧ off < 0xB400 then off % 8 == 0 && lo == 0 && decide (v < 2)
    else if 0xBA80 ≤ off ∧ off < 0xBAA0 then
      if off % 16 = 0 then lo == 1 && v == 3
      else if off % 16 = 4 then decide (92 < v)
      else false
    else if off = 0xBAC0 then lo == 1 && v == 3
    else if off = 0xBAC4 then lo == 0 && decide (v < 3)
    else if 0xBD00 ≤ off ∧ off < 0xBF00 then
      if off % 256 = 0 then lo == 2 && outside v 1000 20000
      else decide (0x10 ≤ off % 256) && (off % 256 - 0x10) % 12 == 0 && lo == 8 && outside v 1 8
    else decide (0xBF00 ≤ off ∧ off < 0xBF10) && lo == 2 && v == 0
  | 0xC =>
    (off == 0xC00C && (if lo = 0 then decide (28 < v) else v == 0)) || (off == 0xC010 && v == 0)
      || (off == 0xC014 && (lo == 0 && outside v 1 16 || lo == 12 && outside v 1 8))
      || (off == 0xC020 && decide (v < 20))
  | 0xD => (off == 0xD004 && outside v 1 1000)
  | 0xE =>
    (off == 0xE030 && lo == 0 && outside v 1 1000)
      || (off == 0xE0C0 && (if lo = 0 then outside v 10 1000 else outside v 1 1000))
      || (decide (0xE100 ≤ off ∧ off < 0xE300) &&
        (decide (4 < v) || decide (v < s.fld (F.ALM_SRC_FLOOR ((off - 0xE100) / 4)))))
  | 0xF => false
  | _ =>
    (off == 0x10100 && (lo == 4 || lo == 8) && decide (4 < v)) || (off == 0x10210 && outside v 1 256)

/-- The fields of a register that the written values make a reserved combination (log entry 60): the register would hold
m. The answer is the lowest bits of the fields that then stay unchanged. -/
def State.comboReserved (s : State) (off m : Nat) : List Nat :=
  if (0xE800 ≤ off ∧ off < 0xE880) ∨ off = 0xE880 then
    if bits m 15 8 < bits m 7 0 then [0, 8, 16, 17, 18, 19] else []
  else if off = 0xC018 then (if bits m 15 8 ≤ bits m 7 0 then [0, 8] else [])
  else if 0xA800 ≤ off ∧ off < 0xA980 ∧ off % 8 = 0 then (if bits m 27 16 < bits m 11 0 then [0, 16] else [])
  else if 0xB200 ≤ off ∧ off < 0xB300 ∧ (off % 64 = 4 ∨ off % 64 = 8) then
    if bits m 22 16 < bits m 30 24 then [16, 24] else []
  else if 0xB400 ≤ off ∧ off < 0xBA00 then
    let n := (off - 0xB400) / 12
    match (off - 0xB400) % 12 with
    | 4 =>
      (if 511 < bits m 8 0 + bits m 12 9 then [0, 9] else [])
        ++ (if bits m 14 13 = 2 ∧ s.fld (F.VIO_LSC_HI n) < s.fld (F.VIO_LSC_LO n) then [13] else [])
    | 8 => if s.fld (F.VIO_LSB_MODE n) = 2 ∧ bits m 31 16 < bits m 15 0 then [0, 16] else []
    | _ => []
  else if off = 0x9008 then (if m.testBit 29 ∨ bits m 28 11 = 0 then [] else [0, 29])
  else if off = 0xD020 then (if talSelOk m then [] else [0, 3, 7])
  else if off = 0xF030 then (if trimSite m then [] else [0, 4, 12])
  else []

/-! ### One write -/

/-- The register as a requester reads it back, for a field kept in one copy per requester (01 R54). -/
def State.selReg (s : State) (req : Req) (off : Nat) : W32 := AMap.get 0#32 (s.sel.get req) off

/-- Is the field the Warden's (01 R53, R54). -/
def Field.barred (f : Field) (req : Req) : Bool := req == .host && f.who == .warden

/-- A write that only the Warden may make would change this field (01 R55). -/
def Field.changes (f : Field) (old v : Nat) : Bool :=
  let o := bits old f.hi f.lo
  let n := bits v f.hi f.lo
  match f.acc with
  | .rw => o != n
  | .l1 _ => o != n
  | .w1c => decide (o &&& n ≠ 0)
  | .wo => n != 0
  | _ => false

/-- What a write does to a field. -/
inductive Verdict where
  | keep | set (v : Nat) | refuse | partial' (v : Nat)
  deriving DecidableEq, Repr

/-- The verdict on one RW or L1 field before combinations are looked at. -/
def State.verdict (s : State) (off i : Nat) (f : Field) (v : Nat) (old : Nat) : Verdict :=
  let o := bits old f.hi f.lo
  let n := bits v f.hi f.lo
  let rest : Verdict :=
    if (match f.when' with | .halt h => s.blockRuns i h | _ => false) then .refuse
    else if s.fieldReserved off f.lo n then .refuse
    else .set n
  match f.acc with
  | .rw => if o = n then .keep else rest
  | .l1 (some l) => if o = n then .keep else if s.lockSet l then .refuse else rest
  | .l1 none =>
    if o = n then .keep
    else if o &&& n = o then rest
    else if s.fieldReserved off f.lo n then .refuse
    else if o ||| n = o then .refuse
    else .partial' (o ||| n)
  | _ => .keep

/-- Store a field's value, and its active copy where the write acts at once. -/
def State.putField (s : State) (atOnce : Bool) (off : Nat) (f : Field) (v : Nat) : State :=
  let s := s.setFld ⟨off, f.hi, f.lo⟩ v
  if atOnce then s.setAct off f.hi f.lo v else s

/-- A write to a field acts at once on the active copy. -/
def State.actsAtOnce (s : State) (atOnce : Bool) (off i : Nat) (f : Field) : Bool :=
  match f.boundary i with
  | some b => atOnce || !s.boundaryPending off b
  | none => false

/-- Apply one field's verdict; the flag says that something was refused. An EDGE field's active copy takes the value at
once where its boundary is not pending in the state s0 that the write meets, or where an APPLY makes the write
(00 R19, R1020; 12 R640). -/
def applyVerdict (req : Req) (s0 : State) (atOnce : Bool) (off i v : Nat) (bad : List Nat) (a : State × Bool)
    (fv : Field × Verdict) : State × Bool :=
  let f := fv.1
  let s := a.1
  let o := bits (s.reg off).toNat f.hi f.lo
  let now := s0.actsAtOnce atOnce off i f
  if f.barred req then a
  else if f.acc = .w1c then (s.setFld ⟨off, f.hi, f.lo⟩ (o - (o &&& bits v f.hi f.lo)), a.2)
  else
    match fv.2 with
    | .keep => (if now then s.setAct off f.hi f.lo o else s, a.2)
    | .refuse => (s, true)
    | .set n =>
      if bad.contains f.lo then (s, true)
      else if f.who = .each then
        ({ s with sel := (s.sel.set req (AMap.put 0#32 (s.sel.get req) off
            (BitVec.ofNat 32 (setBits (s.selReg req off).toNat f.hi f.lo n)))) }, a.2)
      else (s.putField now off f n, a.2)
    | .partial' n => (s.putField now off f n, true)

/-- A write to the register at an offset as its fields' access codes and When classes have it; the flag says that R13,
R16 or R22 refused a field, and the owning block's CFG_REJ is then set. -/
def writeFields (req : Req) (atOnce : Bool) (off : Nat) (v : W32) (s : State) : State × Bool :=
  match regRow off with
  | none => (s, false)
  | some (r, i) =>
    let w := v.toNat
    let old (f : Field) : Nat := if f.who = .each then (s.selReg req off).toNat else (s.reg off).toNat
    let denied := r.fields.any fun f => f.barred req && f.changes (s.reg off).toNat w
    let vs := r.fields.map fun f => (f, if f.barred req then Verdict.keep else s.verdict off i f w (old f))
    let m := vs.foldl (fun m fv => match fv.2 with
      | .set n => setBits m fv.1.hi fv.1.lo n
      | _ => m) (r.fields.foldl (fun m f => setBits m f.hi f.lo (bits (old f) f.hi f.lo)) 0)
    let bad := s.comboReserved off m
    let s : State := if denied then s.hostRejected else s
    let (s, rej) := vs.foldl (applyVerdict req s atOnce off i w bad) (s, false)
    (if rej then s.reject off else s, rej)

end Sys2Proof.Machine
end

