-- ==== Sys2Proof/Machine/Mirror.lean ====
section
/-!
DEFINITION. The outputs of the Mirror: enable, training, panel packets (13 R685, R689, R697 to R701).
-/
namespace Sys2Proof.Machine

/-- CFG_REJ of an output. -/
def State.mirReject (s : State) (n : Nat) : State := s.setFld (F.MIR_STATUS_CFG_REJ n) 1

def State.setTraining (s : State) (n : Nat) (b : Bool) : State :=
  s.setPic fun p => p.setOut n { p.out n with training := b }

/-- MIR_CTLn.EN has risen: the link trains, and lock points are counted from 1 (R685, R697). DEDUCED: until the first
lock point MIR_FRAMEn reads 0 (log entry 69). -/
def outputUp (n : Nat) (s : State) : State :=
  ((s.setFld (F.MIR_STATUS_LINKUP n) 0).setPair (0x6030 + 256 * n) 0).setTraining n true

/-- MIR_CTLn.EN has fallen. -/
def outputDown (n : Nat) (s : State) : State := (s.setFld (F.MIR_STATUS_LINKUP n) 0).setTraining n false

/-- A write that sets MIR_CTLn.EN (R689, R699). -/
def outputEnable (n : Nat) (s : State) : State :=
  if s.bit (F.MIR_CTL_EN n) then s
  else if !s.outputOk n then s.mirReject n
  else outputUp n (s.setFld (F.MIR_CTL_EN n) 1)

/-- Training or retraining ends (R697). -/
def outputLinkup (n : Nat) (s : State) : State :=
  if s.bit (F.MIR_CTL_EN n) ∧ (s.pic.out n).training then (s.setFld (F.MIR_STATUS_LINKUP n) 1).setTraining n false else s

/-- An HPD interrupt of OUT-A, with the level of the pin after it (R697). -/
def hpdIrq (level : Bool) (s : State) : State :=
  let s := s.setFld (F.MIR_STATUS_HPD 0) (b2n level)
  if s.bit (F.MIR_CTL_EN 0) then (s.setFld (F.MIR_STATUS_LINKUP 0) 0).setTraining 0 true else s

/-- The payload bytes of a panel packet. -/
def State.dcsBytes (s : State) : List Byte :=
  (List.range (s.fld F.MIR_DCS_CMD_LEN)).map fun k => ((s.reg (0x6204 + 4 * (k / 4))) >>> (8 * (k % 4))).setWidth 8

/-- The packet leaves in low-power mode (R701). -/
def dcsSent (s : State) : State :=
  if s.bit F.MIR_DCS_CMD_BUSY then
    let s := s.setFld F.MIR_DCS_CMD_BUSY 0
    { s with out := s.out ++ [.dcs (s.fld F.MIR_DCS_CMD_DT) s.dcsBytes] }
  else s

/-- A write of 1 to MIR_DCS_CMD.SEND (R701). DEDUCED: DT or LEN still at its reset value 0, a reserved encoding, refuses
it (log entry 69). -/
def dcsSend (s : State) : State :=
  if s.bit F.MIR_DCS_CMD_BUSY ∨ s.fld F.MIR_DCS_CMD_DT = 0 ∨ s.fld F.MIR_DCS_CMD_LEN = 0 then s.mirReject 1
  else
    let s := s.setFld F.MIR_DCS_CMD_BUSY 1
    if s.bit (F.MIR_CTL_EN 1) then s else dcsSent s

end Sys2Proof.Machine
end

