-- ==== Sys2Proof/Machine/SysSpace.lean ====
section
/-!
DEFINITION. The Warden's system space as bytes: regions, reads of memory regions, stores (19 R930 to R933).
-/
namespace Sys2Proof.Machine

/-- The regions of system space (19 R930), with the offset within them; host memory with its bus address (R933). -/
inductive SysAddr where
  | localMem (o : Nat)
  | rom (o : Nat)
  | flash (o : Nat)
  | dram (o : Nat)
  | host (a : Nat)
  | regs (o : Nat)
  | unmapped
  deriving DecidableEq, Repr

/-- PLT_XSP_SIZE.MIB × 1 MiB. -/
def State.flashSize (s : State) : Nat := s.fld F.PLT_XSP_SIZE_MIB * 2 ^ 20

/-- The host window can be used: the link is up with LINKEN set. The host's bus-master enable is taken as set (log
entry 64). -/
def State.hostWindow (s : State) : Bool := s.bit F.PLT_PCIE_CTL_LINKEN && s.bit F.PLT_PCIE_CTL_LINKUP

/-- The region that an access of n bytes at a lies in. -/
def State.sysAddr (s : State) (a n : Nat) : SysAddr :=
  let last := a + n - 1
  if last < 0x100000 then .localMem a
  else if 0xFFFF0000 ≤ a ∧ last < 0x100000000 then .rom (a - 0xFFFF0000)
  else if 0x100000000 ≤ a ∧ last < 0x100000000 + min s.flashSize 0x100000000 then .flash (a - 0x100000000)
  else if 0x1000000000 ≤ a ∧ last < 0x1000000000 + min s.dramSize 0x200000000 then .dram (a - 0x1000000000)
  else if 0x2000000000 ≤ a ∧ last < 0x4000000000 ∧ s.hostWindow then
    .host (s.fld F.PLT_HOSTWIN_BASE * 2 ^ 37 + (a - 0x2000000000))
  else if 0x4000000000 ≤ a ∧ last < 0x4000011000 then .regs (a - 0x4000000000)
  else .unmapped

/-- n bytes of a flash area. -/
def State.flashBytes (s : State) (a n : Nat) : List Byte := Memory.readN 0xFF#8 s.flash a n

/-- n bytes of memory at a system address; none where no memory lies. -/
def State.sysBytes (s : State) (a n : Nat) : Option (List Byte) :=
  if n = 0 then some []
  else match s.sysAddr a n with
    | .localMem o => some (Memory.readN 0#8 s.wmem o n)
    | .rom o => some ((List.range n).map fun k => Config.maskRom (o + k))
    | .flash o => some (s.flashBytes o n)
    | .dram o => some (Memory.readN 0#8 s.dram o n)
    | .host h => some (s.hostRead h n)
    | _ => none

/-- Program flash: a bit that is 0 stays 0 (PRESUMED: NOR flash; log entry 65). -/
def State.flashProgram (s : State) (a : Nat) (bs : List Byte) : State :=
  let new := List.zipWith (· &&& ·) bs (s.flashBytes a bs.length)
  { s with flash := Memory.writeN 0xFF#8 s.flash a new }

/-- Erase n bytes of flash: every byte reads 0xFF (PRESUMED; log entry 65). -/
def State.flashErase (s : State) (a n : Nat) : State :=
  { s with flash := s.flash.filter fun c => decide (c.1 < a ∨ a + n ≤ c.1) }

/-- Erase and program an area. -/
def State.flashRewrite (s : State) (a erase : Nat) (bs : List Byte) : State :=
  (s.flashErase a erase).flashProgram a bs

end Sys2Proof.Machine
end

