-- ==== Sys2Proof/Machine/Gkp.lean ====
section
/-!
DEFINITION. The Gatekeeper: key slots, operations, images, boot records, confirm and zeroize (18 R866 to R875, R882 to
R894, R903 to R922).
-/
namespace Sys2Proof.Machine

def State.setGkp (s : State) (f : Gkp → Gkp) : State := { s with gkp := f s.gkp }

/-- Results of an operation (R891). -/
abbrev gOk : Nat := 0
abbrev gBusy : Nat := 1
abbrev gKeyGone : Nat := 2
abbrev gLocked : Nat := 3
abbrev gNokey : Nat := 4
abbrev gMismatch : Nat := 5
abbrev gBadarg : Nat := 6
abbrev gFlash : Nat := 7

/-! ### Bytes held in registers -/

/-- n registers as bytes, lowest byte first. -/
def State.regBytes (s : State) (off n : Nat) : List Byte :=
  (List.range n).flatMap fun w => leBytes 4 (s.reg (off + 4 * w)).toNat

/-- Write bytes into registers from an offset. -/
def State.setRegBytes (s : State) (off : Nat) (bs : List Byte) : State :=
  (List.range ((bs.length + 3) / 4)).foldl
    (fun (s : State) w => s.setReg (off + 4 * w) (BitVec.ofNat 32 (leNat ((bs.drop (4 * w)).take 4)))) s

/-- Measurement register i (R892). -/
def State.measure (s : State) (i : Nat) : List Byte := s.regBytes (0x1100 + 32 * i) 8

/-- M(i) becomes the SHA-256 of M(i) followed by a value (R890). -/
def State.extend (s : State) (i : Nat) (v : List Byte) : State :=
  s.setRegBytes (0x1100 + 32 * i) (sha256 (s.measure i ++ v))

/-! ### Key slots (R882 to R887) -/

/-- The bytes of an ASCII label. -/
def ascii (t : String) : List Byte := t.toList.map fun c => BitVec.ofNat 8 c.toNat

def rootBytes : List Byte := beBytes 32 Config.deviceRoot.toNat

/-- The key-encryption key of R884. -/
def kekBytes : List Byte := kdf rootBytes (ascii "XG2560 store")

/-- The bytes of a loaded slot. -/
def State.keyBytes (s : State) (n : Nat) : Option (List Byte) :=
  match s.gkp.keys.find? n with
  | some .root => some rootBytes
  | some .boot => some (kdf rootBytes (ascii "XG2560 boot"))
  | some (.bytes l) => some l
  | none => none

def State.loadKey (s : State) (n : Nat) (l : List Byte) : State :=
  s.setGkp fun g => { g with keys := AMap.insert g.keys n (.bytes l) }

def State.dropKey (s : State) (n : Nat) : State := s.setGkp fun g => { g with keys := AMap.erase g.keys n }

def State.ulock (s : State) (n : Nat) : Bool := (s.fld F.GKP_KLOCK_ULOCK).testBit n
def State.wlock (s : State) (n : Nat) : Bool := (s.fld F.GKP_KLOCK_WLOCK).testBit n

/-- Slots whose key an operation uses (R882, R890). -/
def gkpUses (op slot : Nat) : List Nat :=
  match op with
  | 1 => [0]
  | 5 | 6 | 7 => [slot]
  | 9 | 13 => [4]
  | 11 => [5]
  | 12 => [1, 3, 4]
  | _ => []

/-- Slots that an operation loads or erases. -/
def gkpLoads (op slot : Nat) : List Nat :=
  match op with
  | 1 | 2 | 3 => [slot]
  | 4 => [4]
  | _ => []

/-- A slot is busy while an operation uses it, or the stream's check (R887). -/
def State.slotBusy (s : State) (n : Nat) : Bool :=
  (n == 3 && s.gkp.stream.isSome) || (match s.gkp.op with
    | some o => (gkpUses o.op o.slot ++ gkpLoads o.op o.slot).contains n
    | none => false)

/-- The policy of R882 lists the operation for the slot. DEDUCED: an operation that it does not list is refused as
BADARG (log entry 55). -/
def gkpPolicy (op slot : Nat) : Bool :=
  match op with
  | 1 => [3, 5].contains slot
  | 2 => [2, 6, 7].contains slot
  | 5 => [1, 6, 7].contains slot
  | 6 => [1, 3, 6, 7].contains slot
  | 7 => [6, 7].contains slot
  | 10 => slot != 3
  | _ => true

/-- Why an operation is refused at once, if it is. ULOCK of K1 does not refuse INSTALL (R886). -/
def State.gkpRefusal (s : State) (op slot : Nat) : Option Nat :=
  let uses := gkpUses op slot
  if !gkpPolicy op slot then some gBadarg
  else if (gkpLoads op slot).any s.wlock || (uses.any fun n => s.ulock n && !(op == 12 && n == 1)) then some gLocked
  else if op ≠ 3 ∧ (gkpLoads op slot).any s.slotBusy then some gBusy
  else if (uses.any fun n => (s.gkp.keys.find? n).isNone) || (op == 2 && !s.gkp.kek) then some gNokey
  else none

def State.gkpResult (s : State) (r : Nat) : State :=
  (s.setFld F.GKP_STATUS_RESULT r).setFld F.GKP_STATUS_BUSY 0

/-- Start an operation on a slot (R890). An ERASE of a busy slot is deferred, whether or not BUSY is set (R887; log entry
56). -/
def gkpStart (op slot addr len : Nat) (host : Bool) (s : State) : State :=
  if s.bit F.GKP_STATUS_BUSY then
    if op = 3 ∧ s.slotBusy slot ∧ !s.wlock slot then s.setGkp fun g => { g with erases := g.erases ++ [slot] }
    else s.reject 0x1000
  else match s.gkpRefusal op slot with
    | some r => s.gkpResult r
    | none =>
      (s.setFld F.GKP_STATUS_BUSY 1).setGkp fun g =>
        { g with op := some ⟨op, slot, addr, len, s.fld F.GKP_QMASK_MASK, s.regBytes 0x1020 8, host⟩ }

/-- A Warden write to GKP_CMD. -/
def gkpCmd (op slot : Nat) (s : State) : State :=
  if op = 0 ∨ 14 < op then s.reject 0x1000
  else gkpStart op slot (s.pair 0x1008) (s.fld F.GKP_LEN_LEN) false s

/-! ### Images (R869 to R875) -/

def zeros (b : List Byte) (a z : Nat) : Bool := ((b.drop a).take (z - a)).all fun x => x == 0#8

/-- A section entry: type, offset, length, destination, hash (R871). -/
structure Section where
  type' : Nat
  off : Nat
  len : Nat
  dest : Nat
  hash : List Byte
  deriving DecidableEq, Repr

def imageSections (img : List Byte) : List Section :=
  (List.range (min 16 (field img 8 1))).map fun i =>
    let e := (img.drop (128 + 64 * i)).take 64
    ⟨field e 0 1, field e 4 4, field e 8 4, field e 12 8, (e.drop 32).take 32⟩

/-- The manifest: bytes 0 to 63 and the section table (R870). -/
def manifest (img : List Byte) : List Byte := img.take 64 ++ (img.drop 128).take (64 * field img 8 1)

def Section.bytes (x : Section) (img : List Byte) : List Byte := (img.drop x.off).take x.len

/-- A section entry is as R871 has it, in an image of n bytes. -/
def Section.ok (x : Section) (n : Nat) : Bool :=
  x.off % 4096 == 0 && decide (x.off + x.len ≤ n) &&
    match x.type' with
    | 1 => decide (x.len ≤ 768 * 1024)
    | 2 => x.len == 65536
    | 4 => decide (x.len ≤ 300 * 1024)
    | 5 => x.len % 4096 == 0
    | 6 => x.dest % 16384 == 0
    | 7 => x.len % 9216 == 0
    | 8 => true
    | _ => false

def sectionsDisjoint : List Section → Bool
  | [] => true
  | x :: xs => (xs.all fun y => decide (x.off + x.len ≤ y.off ∨ y.off + y.len ≤ x.off)) && sectionsDisjoint xs

/-- Every Stage-1 section precedes every Stage-2 section (R872). -/
def stageOrder (xs : List Section) : Bool :=
  (xs.dropWhile fun x => x.type' != 6 && x.type' != 7).all fun x => x.type' == 6 || x.type' == 7

/-- The header of R869 to R872. -/
def imageOk (img : List Byte) : Bool :=
  let n := field img 4 4
  let xs := imageSections img
  img.take 4 == [0x55#8, 0x41#8, 0x54#8, 0x31#8] && decide (n ≤ img.length)
    && decide (1 ≤ field img 8 1 ∧ field img 8 1 ≤ 16 ∧ field img 9 1 ≤ 1 ∧ field img 10 1 ≤ 63) && zeros img 11 12
    && zeros img 20 64 && decide (128 + 64 * field img 8 1 ≤ n)
    && ((List.range xs.length).all fun i =>
      zeros img (129 + 64 * i) (132 + 64 * i) && zeros img (148 + 64 * i) (160 + 64 * i))
    && (xs.all fun x => x.ok n) && sectionsDisjoint xs && (xs.filter fun x => x.type' == 1).length == 1
    && stageOrder xs

def imageSvn (img : List Byte) : Nat := field img 10 1

/-- The tag of section i (R874). -/
def sectionTag (key mh : List Byte) (i : Nat) (bs : List Byte) : List Byte := hmac key (mh ++ [BitVec.ofNat 8 i] ++ bs)

def hashesOk (img : List Byte) : Bool := (imageSections img).all fun x => sha256 (x.bytes img) == x.hash

/-! ### The boot record (R903, R904) -/

def State.recordCopy (s : State) (c : Nat) : List Byte := s.flashBytes (0x10000 * c) 1024

def recordValid (b : List Byte) : Bool :=
  b.take 4 == [0x58#8, 0x42#8, 0x52#8, 0x31#8] && (crc32 (b.take 1020)).toNat == field b 1020 4

/-- The current record and its copy (R904); copy 0 where both carry one SEQ. -/
def State.bootRecord (s : State) : Option (Nat × List Byte) :=
  let a := s.recordCopy 0
  let b := s.recordCopy 1
  if recordValid a ∧ (!recordValid b ∨ field b 4 4 ≤ field a 4 4) then some (0, a)
  else if recordValid b then some (1, b) else none

/-- Replace n bytes of a list from an offset by a little-endian value. -/
def putBytes (b : List Byte) (o n v : Nat) : List Byte := b.take o ++ leBytes n v ++ b.drop (o + n)

def sealRecord (b : List Byte) : List Byte := putBytes b 1020 4 (crc32 (b.take 1020)).toNat

/-- One write of the record: the other copy, with SEQ one greater (R904). -/
def writeRecord (f : List Byte → List Byte) (s : State) : State :=
  match s.bootRecord with
  | some (c, b) =>
    let b := f b
    s.flashRewrite (0x10000 * (1 - c)) 4096 (sealRecord (putBytes b 4 4 (field b 4 4 + 1)))
  | none => s

def slotState (b : List Byte) (slot : Nat) : Nat := field b (16 + 32 * slot) 1
def setSlotState (slot st : Nat) (b : List Byte) : List Byte := putBytes b (16 + 32 * slot) 1 st

/-- Size of both slots in a record that INSTALL creates (R921). -/
def State.freshSize (s : State) : Nat :=
  let f := if s.bit F.PLT_XSP_SIZE_SFDPOK then s.flashSize else 8 * 2 ^ 20
  (f - 0x100000) / 2 / 65536 * 65536

/-- The record of R921 with slot 0 in a state. -/
def State.freshRecord (s : State) (seq st svn try' trials : Nat) : List Byte :=
  let b := List.replicate 1024 0#8
  let b := putBytes (putBytes b 0 4 0x31524258) 4 4 seq
  let b := putBytes (putBytes (putBytes b 8 1 0) 9 1 try') 10 2 trials
  let b := putBytes (putBytes b 16 1 st) 17 1 svn
  let b := putBytes (putBytes b 20 4 0x100000) 24 4 s.freshSize
  let b := putBytes (putBytes b 52 4 (0x100000 + s.freshSize)) 56 4 s.freshSize
  sealRecord b

/-! ### INSTALL and RBOOT (R915, R921, R922) -/

/-- Where the trims section is placed: the first 4 KiB boundary after the image (log entry 59). -/
def trimsAt (img : List Byte) : Nat := (field img 4 4 + 4095) / 4096 * 4096

/-- The slot's base and size. -/
def State.slotArea (s : State) (slot : Nat) : Nat × Nat :=
  match s.bootRecord with
  | some (_, b) => (field b (20 + 32 * slot) 4, field b (24 + 32 * slot) 4)
  | none => (0x100000, s.freshSize)

/-- The tags of a binding block: one for each section, then the trims section's (R873). -/
def bindingBlock (k1 k3 : List Byte) (img trims : List Byte) : List Byte :=
  let mh := sha256 (manifest img)
  let tags := ((imageSections img).zipIdx).map fun x =>
    sectionTag (if x.1.type' = 1 then k1 else k3) mh x.2 (x.1.bytes img)
  [0x42#8, 0x49#8, 0x4E#8, 0x44#8] ++ mh ++ List.replicate 28 0#8 ++ tags.flatten
    ++ List.replicate (32 * (16 - tags.length)) 0#8 ++ sectionTag k3 mh 16 trims

/-- Program image, trims section and binding block into a slot. -/
def State.writeSlot (s : State) (base size : Nat) (img trims block : List Byte) : State :=
  (((s.flashErase base size).flashProgram (base + 0x1000) (img.take (field img 4 4))).flashProgram
    (base + 0x1000 + trimsAt img) trims).flashProgram base block

/-- Steps 3 to 9 of INSTALL. The outcome of step 4, the check of the trim store's tag, whose form the spec does not give,
is a free value (log entry 59). The answer is the reason, 0 for none. -/
def installWrite (slot : Nat) (img k1 k3 : List Byte) (flashOk : Bool) (s : State) : State × Nat :=
  let fresh := s.bootRecord.isNone
  let area := s.slotArea slot
  let svn := imageSvn img
  let s := if fresh then s.flashRewrite 0 4096 (s.freshRecord 1 1 svn 0xFF 0)
    else writeRecord (fun b => putBytes (setSlotState slot 1 b) (17 + 32 * slot) 1 svn) s
  let (x, s) := s.takeFree
  if !x.getLsbD 0 then (s, 6)
  else if !hashesOk img then (s, 4)
  else if !flashOk then (s, 5)
  else
    let trims := s.flashBytes 0x30000 Config.trimLength
    let s := s.writeSlot area.1 area.2 img trims (bindingBlock k1 k3 img trims)
    (if fresh then s.flashRewrite 0x10000 4096 (s.freshRecord 2 2 svn 0 120) else writeRecord (setSlotState slot 2) s, 0)

/-- INSTALL: the result and the reason (R915; log entry 57). A slot that R906 does not let become LOADING is BADARG. -/
def install (slot : Nat) (img : List Byte) (flashOk : Bool) (s : State) : State × Nat × Nat :=
  let slot := if s.bootRecord.isNone then 0 else slot % 2
  match s.keyBytes 1, s.keyBytes 3, s.keyBytes 4 with
  | some k1, some k3, some k4 =>
    let area := s.slotArea slot
    let st := match s.bootRecord with | some (_, b) => slotState b slot | none => 0
    if !imageOk img || decide (area.2 < 0x1000 + trimsAt img + Config.trimLength) then (s, gBadarg, 1)
    else if imageSvn img < s.floor then (s, gMismatch, 2)
    else if !ecdsaVerify k4 (sha256 (manifest img)) ((img.drop 64).take 64) then (s, gMismatch, 3)
    else if !([0, 1, 5].contains st) then (s, gBadarg, 0)
    else
      let (s, r) := installWrite slot img k1 k3 flashOk s
      (s, (if r = 0 then gOk else if r = 5 then gFlash else gMismatch), r)
  | _, _, _ => (s, gNokey, 0)

/-- RBOOT (R922). -/
def rboot (img : List Byte) (s : State) : State × Nat × Nat :=
  match s.keyBytes 4 with
  | some k4 =>
    if !imageOk img then (s, gBadarg, 1)
    else if !ecdsaVerify k4 (sha256 (manifest img)) ((img.drop 64).take 64) then (s, gMismatch, 3)
    else if !hashesOk img then (s, gMismatch, 4)
    else
      let code := (((imageSections img).filter fun x => x.type' == 1).map fun x => x.bytes img).flatten
      let s : State := { s with wmem := Memory.writeN 0#8 s.wmem 0 code }
      ((s.extend 5 (sha256 (manifest img))).setFld F.GKP_BOOT_RECOVERY 1, gOk, 0)
  | none => (s, gNokey, 0)

/-! ### Completing an operation (R883 to R885, R890, R891, R894, R917) -/

/-- The data of an operation. -/
def GkpOp.data (o : GkpOp) (s : State) : Option (List Byte) :=
  if o.host then some (s.hostRead o.addr o.len) else s.sysBytes o.addr o.len

def State.setOut (s : State) (bs : List Byte) : State := s.setRegBytes 0x1040 bs

/-- Blow version fuses up to a value (R917). -/
def svnup (n : Nat) (s : State) : State := { s with floor := max s.floor n }

/-- The message of a quote (R894). -/
def quoteMessage (o : GkpOp) (s : State) : List Byte :=
  o.input ++ leBytes 1 o.mask ++ ((List.range 8).filter fun i => o.mask.testBit i).flatMap s.measure
    ++ leBytes 1 s.floor ++ leBytes 4 (s.reg 0x1200).toNat

/-- What an operation does, with the result it posts, and for INSTALL and RBOOT the reason. -/
def gkpEffect (o : GkpOp) (flashOk : Bool) (s : State) : State × Nat × Nat :=
  match o.data s with
  | none => if o.op = 3 ∨ o.op = 4 ∨ o.op = 10 ∨ o.op = 11 ∨ o.op = 14 then gkpNoData o s else (s, gBadarg, 0)
  | some d =>
    let key := (s.keyBytes o.slot).getD []
    match o.op with
    | 1 =>
      if d.isEmpty || decide (32 < d.length) then (s, gBadarg, 0)
      else (s.loadKey o.slot (kdf ((s.keyBytes 0).getD []) d), gOk, 0)
    | 2 =>
      if !([24, 32, 40].contains d.length) || (o.slot == 2 && d.length != 24) then (s, gBadarg, 0)
      else match kwUnwrap kekBytes d with
        | some k => (s.loadKey o.slot k, gOk, 0)
        | none => (s, gMismatch, 0)
    | 5 => (s.setOut (hmac key d), gOk, 0)
    | 6 => (s.setOut (hmac key d), if hmac key d = o.input then gOk else gMismatch, 0)
    | 7 => if key.length = 16 then (s.setOut (cmac key d), gOk, 0) else (s, gBadarg, 0)
    | 8 => (s.setOut (sha256 d), gOk, 0)
    | 9 =>
      match s.sysBytes (o.addr + o.len) 64 with
      | some sig => (s, if ecdsaVerify ((s.keyBytes 4).getD []) o.input sig then gOk else gMismatch, 0)
      | none => (s, gBadarg, 0)
    | 12 => install o.slot d flashOk s
    | 13 => rboot d s
    | _ => gkpNoData o s
where
  /-- The operations that read no data. -/
  gkpNoData (o : GkpOp) (s : State) : State × Nat × Nat :=
    match o.op with
    | 3 =>
      (if s.slotBusy o.slot then s.setGkp fun g => { g with erases := g.erases ++ [o.slot] } else s.dropKey o.slot, gOk, 0)
    | 4 =>
      let k := s.flashBytes 0x20000 64
      if sha256 k = beBytes 32 Config.carmakerHash.toNat then (s.loadKey 4 k, gOk, 0) else (s.dropKey 4, gMismatch, 0)
    | 10 => (s.extend o.slot o.input, gOk, 0)
    | 11 => (s.setOut (hmac ((s.keyBytes 5).getD []) (quoteMessage o s)), gOk, 0)
    | _ => if leNat (o.input.take 1) ≤ 63 then (svnup (leNat (o.input.take 1)) s, gOk, 0) else (s, gBadarg, 0)

/-- Carry out the deferred erases of slots that are no longer busy (R887). -/
def State.doErases (s : State) : State :=
  let go := s.gkp.erases.filter fun n => !s.slotBusy n
  go.foldl State.dropKey (s.setGkp fun g => { g with erases := g.erases.filter fun n => s.slotBusy n })

/-- The IMAGE command that waits in the Warden's hands is answered (R916, R922; 12 R644). -/
def answerImage (status detail : Nat) (s : State) : State :=
  (s.flightsOf 0x07 fun f => f.wait == .image).foldl (fun s f => s.answerCmd f status detail 0 0 0) s

/-- An operation completes; flashOk: the flash took what it was given (R891). -/
def gkpComplete (flashOk : Bool) (s : State) : State :=
  match s.gkp.op with
  | none => s
  | some o =>
    let fresh := o.op = 12 ∧ s.bootRecord.isNone
    let s := s.setGkp fun g => { g with op := none }
    let (s, r, reason) := gkpEffect o flashOk s
    let s := if (o.op = 12 ∨ o.op = 13) ∧ r ≠ gOk then s.setReg 0x1040 (BitVec.ofNat 32 reason) else s
    let s := (s.gkpResult r).doErases
    let s := if o.host then answerImage (if r = gOk then stOk else stBadimage) reason s else s
    if r = gOk ∧ fresh then chipReset 8 0 (settle s)
    else if r = gOk ∧ o.op = 13 ∧ o.host then s.modCell wardenCell fun x => { x with pc := 0 }
    else s

/-! ### IMAGE and CONFIRM (R902, R911, R912, R916; 12 R644, R645) -/

/-- The slot that is neither ACTIVE nor booted; slot 0 with no valid record (R916, R921). -/
def State.inactiveSlot (s : State) : Option Nat :=
  match s.bootRecord with
  | none => some 0
  | some (_, b) => (List.range 2).find? fun n => n != field b 8 1 && n != s.fld F.GKP_BOOT_SLOT

/-- IMAGE goes to the Warden, which runs INSTALL or RBOOT on it. While another operation runs it waits its turn. -/
def cmdImage (ring : Nat) (s : State) : State :=
  withTodo ring 0x07 s fun f s =>
    let start (op slot : Nat) (s : State) : State :=
      match s.gkpRefusal op slot with
      | some _ => s.answerCmd f stBadimage 0 0 0 0
      | none => gkpStart op slot (f.field 16 8) (f.field 24 4) true (s.setFlight f .image)
    if !(s.flightsOf 0x07 fun g => g.wait == .image).isEmpty then s.answerBad f stBusy
    else if f.field 8 1 = 0 ∧ s.bit F.GKP_BOOT_TRIAL ∧ !s.gkp.confirmed then s.answerCmd f stBusy 1 0 0 0
    else if s.bit F.GKP_STATUS_BUSY then s
    else if f.field 8 1 = 1 then start 13 0 s
    else match s.inactiveSlot with
      | some n => start 12 n s
      | none => s.answerCmd f stBusy 1 0 0 0

/-- The Warden carries out a confirm: true when a trial is now confirmed (R912). -/
def confirmTrial (s : State) : State × Bool :=
  if s.bit F.GKP_BOOT_TRIAL ∧ !s.gkp.confirmed then
    let slot := s.fld F.GKP_BOOT_SLOT
    let s := s.setGkp fun g => { g with trialAt := none, confirmed := true }
    match s.bootRecord with
    | some (_, b) =>
      let old := field b 8 1
      let img := s.flashBytes (field b (20 + 32 * slot) 4 + 0x1000) 128
      let s := writeRecord (fun b => putBytes (setSlotState slot 4 b) 8 1 slot) s
      let s := if field img 9 1 % 2 = 1 then svnup (imageSvn img) s else s
      (if old ≠ slot ∧ slotState b old = 4 then writeRecord (setSlotState old 5) s else s, true)
    | none => (s, true)
  else (s, false)

def cmdConfirm (ring : Nat) (s : State) : State :=
  withTodo ring 0x08 s fun f s =>
    let (s, ok) := confirmTrial s
    if ok then s.answerOk f 0 0 0 else s.answerBad f stNotrial

/-- Arm the trial watchdog (R910). -/
def armTrial (s : State) : State := s.setGkp fun g => { g with trialAt := some s.now }

/-- Its limit in seconds. -/
def State.trialLimit (s : State) : Nat :=
  let n := s.fld F.GKP_TRIAL_LIMIT
  if n < 30 ∨ 600 < n then 120 else n

/-- The trial watchdog expires (R910). -/
def trialExpire (s : State) : State :=
  match s.gkp.trialAt with
  | some t =>
    if s.power.powered ∧ t + s.trialLimit * 1000000000 ≤ s.now then chipReset 9 0 (settle (s.raise aGkpTrial 0)) else s
  | none => s

/-! ### Failed digest and zeroize (R888, R900, R901) -/

/-- A held cell is reset (R900): a sprig or a floating state that it still carries is lost as in 07 R358. -/
def resetHeld (s : State) (c : Nat) : State :=
  let x := s.cell c
  let own := match s.fpOwner c with
    | some m => if x.sprig = some m then none else some m
    | none => none
  let s := s.setCell c { Cell.reset with placed := x.placed, quar := x.quar }
  (x.sprig.toList ++ own.toList).foldl (fun s n => s.endSprig n (unb 2)) s

/-- The digest fails; keyGone: KEY_GONE has ended the check. -/
def digestFail (keyGone : Bool) (s : State) : State :=
  let s := (s.setFld F.GKP_STATUS_DIGEST 2).setGkp fun g => { g with stream := none }
  let s := ((discardHeld s).raise aGkpDigest 0).doErases
  let s := if keyGone then s
    else (s.setFld F.GKP_BOOTLATCH_FAIL (s.fld F.GKP_BOOTLATCH_FAIL ||| 2 ^ s.fld F.GKP_BOOT_SLOT)).count255
      F.GKP_BOOTLATCH_FAILS
  if s.mode = .saffron ∨ s.mode = .ochre then
    if keyGone ∨ s.fld F.GKP_BOOT_NEXT < 2 then chipReset 9 0 (settle s)
    else if s.mode = .saffron then
      let s := s.holdCells
      cobalt ((List.range 256).foldl resetHeld s)
    else s
  else s

/-- A tamper zeroize (R888). -/
def zeroize (s : State) : State :=
  let busy := s.gkp.op.isSome
  let image := match s.gkp.op with | some o => o.host | none => false
  let s := s.setGkp fun g => { g with keys := [], kek := false, op := none }
  let s := (s.setFld F.GKP_STATUS_TAMPER 1).raise aGkpTamper 0
  let s := if busy then (s.gkpResult gKeyGone).setOut (List.replicate 32 0#8) else s
  let s := if image then answerImage stBadimage 0 s else s
  if s.gkp.stream.isSome then digestFail true s else s

/-! ### The stream starts (R896) -/

/-- GKP_SCTL.GO. -/
def streamStart (s : State) : State :=
  if s.gkp.stream.isSome then s.reject 0x1400
  else (s.setFld F.GKP_STATUS_DIGEST 0).setGkp fun g => { g with stream := some (0, 0), written := [] }

end Sys2Proof.Machine
end

