-- ==== Sys2Proof/Machine/Platform.lean ====
section
/-!
DEFINITION. The control store's registers and scrubber (08 R384 to R433), the Warden's watchdog, the release of cells, the
scrubbers of memory, and the DRAM and flash controllers (19).
-/
namespace Sys2Proof.Machine

def State.setWarden (s : State) (f : Warden → Warden) : State := { s with warden := f s.warden }

/-! ### The control store -/

/-- Bits [119:0] of the microword that ALM_MC_DATA0 to ALM_MC_DATA3 hold. -/
def State.mcData (s : State) : BitVec 120 :=
  BitVec.ofNat 120 (((List.range 4).map fun k => (s.reg (0xEC04 + 4 * k)).toNat * 2 ^ (32 * k)).foldl (· + ·) 0)

/-- Store ALM_MC_DATA at ALM_MC_ADDR in all 16 control stores with fresh check bits (R385, R427). -/
def mcStore (s : State) : State :=
  let a := s.fld F.ALM_MC_ADDR_ADDR
  { s with cstore := AMap.put 0#120 s.cstore a s.mcData, cstoreBad := s.cstoreBad.filter fun p => p.2 ≠ a }

def mcWrite (req : Req) (s : State) : State :=
  if req = .host then s.hostRejected
  else if s.bit F.ALM_MC_CTL_MC_LOCK then s.reject 0xEC00
  else mcStore s

/-- R430. -/
def mcPatch (req : Req) (s : State) : State :=
  if req = .host then s.hostRejected
  else if s.mode = .cobalt ∧ s.cellsHeld then (mcStore s).setFld F.ALM_MC_STATUS_PATCHED 1
  else s.reject 0xEC00

/-- R429. What an uncorrectable microword reads as is a free value (log entry 66). -/
def mcRead (req : Req) (grove : Nat) (s : State) : State :=
  if req = .host then s.hostRejected
  else
    let s := s.setFld F.ALM_MC_CMD_GROVE grove
    let a := s.fld F.ALM_MC_ADDR_ADDR
    let (v, s) : BitVec 120 × State :=
      if s.cstoreBad.contains (grove, a) then
        let (lo, s) := s.takeFree
        let (hi, s) := s.takeFree
        (lo.setWidth 120 ||| hi.setWidth 120 <<< 64, s)
      else (AMap.get 0#120 s.cstore a, s)
    (List.range 4).foldl (fun s k => State.setReg s (0xEC04 + 4 * k) ((v >>> (32 * k)).setWidth 32)) s

/-- A corrected microword (R390). -/
def mcFixed (s : State) : State :=
  ((s.setFld F.ALM_MC_STATUS_FIX 1).bump F.ALM_MCFIX_CNT_COUNT F.ALM_MC_STATUS_MCFIX_SAT).raise aMcFix 0

/-- The first uncorrectable microword of a visit, in the order of groves and addresses (log entry 66). -/
def firstBad : List (Nat × Nat) → Option (Nat × Nat)
  | [] => none
  | p :: l => match firstBad l with
    | some q => if q.1 < p.1 ∨ (q.1 = p.1 ∧ q.2 < p.2) then some q else some p
    | none => some p

/-- One visit of every microword; upsets: the errors that have come since the last one, with grove, address and whether
uncorrectable (R390, R391). MC_ECC is raised for each word found so for the first time (19 R948). -/
def mcScrub (upsets : List (Nat × Nat × Bool)) (s : State) : State :=
  let s := upsets.foldl (fun (s : State) u =>
    if s.cstoreBad.contains (u.1, u.2.1) then s
    else if u.2.2 then { s with cstoreBad := s.cstoreBad ++ [(u.1, u.2.1)] }.raise aMcEcc (u.1 + 16 * u.2.1)
    else mcFixed s) s
  match firstBad s.cstoreBad with
  | some (g, a) =>
    if s.bit F.ALM_MC_STATUS_LOST then s
    else ((s.setFld F.ALM_MC_STATUS_LOST 1).setFld F.ALM_MC_STATUS_LOST_GROVE g).setFld F.ALM_MC_STATUS_LOST_ADDR a
  | none => s

/-- A routine that the current move of a cell started has run 65 536 microwords before its commit (R414, R417, R418). -/
def mcRunaway (c addr : Nat) (s : State) : State :=
  if s.running c then raiseSync c cMCABORT (addr + 7 * 4096) (s.cell c).pc (s.raise aMcAbort c) else s

/-! ### The Warden (19 R925, R928) -/

/-- W0 and W1 differ. What differs does not leave the pair. -/
def lockstepMismatch (s : State) : State := s.raise aWardenLock 0

/-- A write to ALM_WDOG.KICK. -/
def wdogKick (req : Req) (v : Nat) (s : State) : State :=
  if req = .host then (if v = 0 then s else s.hostRejected)
  else if v = 0x5A then s.setWarden fun w => { w with kick := true }
  else
    let done := s.warden.kick && v == 0xA5
    s.setWarden fun w => { w with kick := false, wdogAt := if done then s.now else w.wdogAt }

/-- The count reaches ALM_WDOG.PERIOD. -/
def wdogExpire (s : State) : State :=
  if s.bit F.ALM_WDOG_EN ∧ s.warden.wdogAt + s.fld F.ALM_WDOG_PERIOD * 1000000 ≤ s.now then s.raise aWardenWdog 0 else s

/-- A write to ALM_SWRAISE.NUM (R948). -/
def swRaise (req : Req) (num : Nat) (s : State) : State :=
  if req = .host then (if num = 0 then s else s.hostRejected) else s.raise (aSw0 + num) 0

/-- Clear PEND bits: each source's COUNT becomes 0 (R944). -/
def pendClear (req : Req) (word : Nat) (mask : W32) (s : State) : State :=
  let f := F.ALM_PEND_PEND word
  let old := s.reg f.off
  if req = .host then (if old &&& mask = 0#32 then s else s.hostRejected)
  else
    (List.range 32).foldl (fun (s : State) b =>
      if (old &&& mask).getLsbD b then s.setFld (F.ALM_SRC_COUNT (32 * word + b)) 0 else s)
      (s.setReg f.off (old &&& ~~~mask))

/-! ### Scrubbers (19 R950 to R954) -/

/-- A corrected single-bit error (R950). -/
def State.eccCorrected (s : State) (arg : Nat) : State :=
  (s.bump F.ALM_ECCCORR_CNT_COUNT F.ALM_STATUS_ECCCORR_SAT).raise aEccCorr arg

/-- A pass of the Larder scrubber finds errors in words of resident pages: address, and whether uncorrectable (R952). -/
def larderScrub (upsets : List (Nat × Bool)) (s : State) : State :=
  upsets.foldl (fun (s : State) u =>
    if !s.resident (pageOf u.1) || s.heap.badWords.contains u.1 then s
    else if u.2 then
      { s with heap := { s.heap with badWords := s.heap.badWords ++ [u.1] } }.raise aEccLarder u.1
    else s.eccCorrected u.1) s

/-- An uncorrectable error in DRAM (R954). -/
def State.dramError (s : State) (a : Nat) : State :=
  (((s.setFld F.ALM_DRAMUE_L_ADDR (a % 2 ^ 32)).setFld F.ALM_DRAMUE_H_ADDR (a / 2 ^ 32 % 4)).raise aEccDram a)

/-- A pass of the DRAM patrol finds errors: byte address, and whether uncorrectable (R954). -/
def dramPatrol (finds : List (Nat × Bool)) (s : State) : State :=
  finds.foldl (fun (s : State) u =>
    if s.dramSize ≤ u.1 then s else if u.2 then s.dramError u.1 else s.eccCorrected u.1) s

/-! ### Release of a quarantined cell (19 R958 to R961; 11 R589, R1026) -/

def State.quarantined (s : State) (c : Nat) : Bool := (s.fld (F.ALM_QUAR_QUAR (c / 32))).testBit (c % 32)

/-- ALM_CELLREL with GO. DEDUCED: RESULT reads 0, none, while the test runs (log entry 67). -/
def cellRelease (req : Req) (c : Nat) (s : State) : State :=
  if req = .host then s.hostRejected
  else
    let s := s.setFld F.ALM_CELLREL_CELL c
    if s.quarantined c && !s.bit F.ALM_CELLSTAT_BUSY then
      ((s.setFld F.ALM_CELLSTAT_BUSY 1).setFld F.ALM_CELLSTAT_RESULT 0).setWarden fun w => { w with test := some c }
    else s.reject 0xE050

/-- The words that remain quarantined for a cell become free (R589): fillers take their place. -/
def releaseQuar (c : Nat) (s : State) : State :=
  match (s.cell c).quar with
  | none => s
  | some x =>
    let s := fillRun 1 x.ptr x.lim s
    let s := s.setGran x.gran { s.gran x.gran with st := .used }
    (s.modCell c fun k => { k with quar := none }).reportMove 2 0 3 0 (x.lim - x.ptr)

/-- The self-test ends (R959). -/
def selfTestDone (pass : Bool) (s : State) : State :=
  match s.warden.test with
  | none => s
  | some c =>
    let s := (s.setFld F.ALM_CELLSTAT_BUSY 0).setWarden fun w => { w with test := none }
    if pass then
      let s := releaseQuar c (s.setFld F.ALM_CELLSTAT_RESULT 1)
      let f := F.ALM_QUAR_QUAR (c / 32)
      let s := s.setFld f (setBits (s.fld f) (c % 32) (c % 32) 0)
      let s := s.setFld F.TAL_QUAR_CELLS (s.fld F.TAL_QUAR_CELLS - 1)
      s.setCell c Cell.reset
    else (s.setFld F.ALM_CELLSTAT_RESULT 2).raise aCellBist c

/-! ### The DRAM controller (19 R935, R936) -/

/-- Channels enabled. -/
def State.ddrChannels (s : State) : Nat := b2n ((s.fld F.PLT_DDR_CFG_CHEN).testBit 0) + b2n ((s.fld F.PLT_DDR_CFG_CHEN).testBit 1)

/-- MiB of a die of 16 bits by its density (log entry 62). -/
def dieMib : Nat → Nat
  | 0 => 512 | 1 => 768 | 2 => 1024 | 3 => 1536 | _ => 2048

/-- Usable capacity in MiB: 7/8 of the fitted one with IECC (R936). -/
def State.ddrCap (s : State) : Nat :=
  let full := s.ddrChannels * (1 + s.fld F.PLT_DDR_CFG_RANK2) * dieMib (s.fld F.PLT_DDR_CFG_DENS)
  if s.bit F.PLT_DDR_CFG_IECC then full * 7 / 8 else full

/-- PLT_DDR_CMD.TRAIN (R935). A write while no channel is enabled starts nothing. -/
def ddrTrain (req : Req) (s : State) : State :=
  if req = .host then s
  else if s.bit F.PLT_DDR_STAT_READY then s.reject 0x10104
  else if s.fld F.PLT_DDR_CFG_CHEN = 0 ∨ s.bit F.PLT_DDR_STAT_BUSY then s
  else (s.setFld F.PLT_DDR_STAT_BUSY 1).setWarden fun w => { w with ddrReleased := true }

/-- Training ends; fail: the failing step and the channel. -/
def ddrTrainDone (fail : Option (Nat × Nat)) (s : State) : State :=
  if !s.bit F.PLT_DDR_STAT_BUSY then s
  else
    let s := s.setFld F.PLT_DDR_STAT_BUSY 0
    match fail with
    | none => ((s.setFld F.PLT_DDR_STAT_FAIL 0).setFld F.PLT_DDR_STAT_READY 1).setFld F.PLT_DDR_STAT_CAP s.ddrCap
    | some (step, ch) =>
      ((s.setFld F.PLT_DDR_STAT_FAIL 1).setFld F.PLT_DDR_STAT_STEP step).setFld F.PLT_DDR_STAT_FAILCH ch

/-! ### The flash controller (19 R937) -/

/-- PLT_XSP_CTL.EN rises; sfdp: the size in MiB that an accepted SFDP table gives. -/
def xspUp (sfdp : Option Nat) (s : State) : State :=
  match sfdp with
  | some mib => (s.setFld F.PLT_XSP_SIZE_SFDPOK 1).setFld F.PLT_XSP_SIZE_MIB mib
  | none => (s.setFld F.PLT_XSP_SIZE_SFDPOK 0).setFld F.PLT_XSP_SIZE_MIB 8

def xspEnable (req : Req) (sfdp : Option Nat) (s : State) : State :=
  if req = .host then s
  else if s.bit F.PLT_XSP_CTL_EN then s
  else xspUp sfdp (s.setFld F.PLT_XSP_CTL_EN 1)

/-- The bytes of the program buffer. -/
def State.xspBuffer (s : State) (n : Nat) : List Byte :=
  (List.range n).map fun k => ((s.reg (0x10300 + 4 * (k / 4))) >>> (8 * (k % 4))).setWidth 8

/-- A command at ADDR is aligned, and a program lies within one 256-byte page. -/
def State.xspAligned (s : State) (op : Nat) : Bool :=
  let a := s.fld F.PLT_XSP_ADDR_ADDR
  match op with
  | 1 => a % 4096 == 0
  | 2 => a % 65536 == 0
  | 3 => decide (a % 256 + s.fld F.PLT_XSP_LEN_LEN ≤ 256)
  | _ => false

/-- A write of PLT_XSP_CMD.OP. DEDUCED: with the controller disabled, a command is ignored with CFG_REJ (log entry 68). -/
def xspStart (req : Req) (op : Nat) (s : State) : State :=
  if req = .host then s
  else if s.bit F.PLT_XSP_CMD_BUSY ∨ !s.bit F.PLT_XSP_CTL_EN ∨ !s.xspAligned op then s.reject 0x10208
  else
    let data := if op = 3 then s.xspBuffer (s.fld F.PLT_XSP_LEN_LEN) else []
    (s.setFld F.PLT_XSP_CMD_BUSY 1).setWarden fun w => { w with flashOp := some ⟨op, s.fld F.PLT_XSP_ADDR_ADDR, data⟩ }

/-- The command's effect on the flash. -/
def FlashOp.apply (o : FlashOp) (s : State) : State :=
  match o.op with
  | 1 => s.flashErase o.addr 4096
  | 2 => s.flashErase o.addr 65536
  | _ => s.flashProgram o.addr o.data

/-- Bytes a command may change. -/
def FlashOp.length (o : FlashOp) : Nat :=
  match o.op with
  | 1 => 4096
  | 2 => 65536
  | _ => o.data.length

/-- The command completes. After a failure the bytes it names hold what the flash has made of them: left. -/
def xspDone (err : Bool) (left : List Byte) (s : State) : State :=
  match s.warden.flashOp with
  | none => s
  | some o =>
    let s := (s.setFld F.PLT_XSP_CMD_BUSY 0).setWarden fun w => { w with flashOp := none }
    if err then
      { s with flash := Memory.writeN 0xFF#8 s.flash o.addr (left.take o.length) }.setFld F.PLT_XSP_CMD_ERR 1
    else (o.apply s).setFld F.PLT_XSP_CMD_DONE 1

end Sys2Proof.Machine
end

