-- ==== Sys2Proof/Machine/RegWrite.lean ====
section
/-!
DEFINITION. A write to the register at an offset: its fields (RegCore.lean), and what the write does besides.
-/
namespace Sys2Proof.Machine

/-! ### Writes that the gates hold, and writes that are refused whole -/

/-- A host write to this register waits while the gates are closed (13 R703; 16 R798). -/
def heldOff (off : Nat) : Bool :=
  decide (0xB384 ≤ off ∧ off ≤ 0xB38C) || decide (0xB3C0 ≤ off ∧ off < 0xB400) || off == 0x6028 || off == 0x6128

def State.holdWrite (s : State) (off : Nat) (v : W32) : State :=
  s.setVio fun x => { x with heldWrites := x.heldWrites ++ [⟨off, v⟩] }

/-- The Mirror drives the PWM channel of this register (13 R702). -/
def State.pwmOwned (s : State) (off : Nat) : Bool :=
  decide (0xB3C0 ≤ off ∧ off < 0xB400) && s.blDrives ((off - 0xB3C0) / 8)

/-! ### Writes with an effect of their own -/

/-- Setting SPN_CTL.LOCK: ledger 2 is built and the ports are created (13 R668; 11 R579). -/
def spnBuilt (s : State) : State :=
  let s := buildHeapLedger s
  makePorts { s with heap := { s.heap with built := true, lastStart := s.now } }

/-- The row that sets SPN_CTL.LOCK (09 R437). -/
def spnLock (req : Req) (s : State) : State :=
  if s.bit F.SPN_CTL_LOCK then s
  else if req = .host then s.hostRejected
  else if s.fld F.SPN_HEAP_PAGES_COUNT < 4 then s.reject 0x4000
  else spnBuilt (s.setFld F.SPN_CTL_LOCK 1)

/-- GC_EN rises: the period counts from now while no cycle has started since the heap was built (09 R462). -/
def gcEnabled (s : State) : State :=
  let s : State := if s.heap.cycle = 0#32 then { s with heap := { s.heap with lastStart := s.now } } else s
  s.gcTrigger

/-- SPN_PIN_CMD (09 R446, R494). DEDUCED: both bits at once are a reserved encoding (log entry 60). -/
def pinCmd (req : Req) (pin unpin : Bool) (s : State) : State :=
  if !pin && !unpin then s
  else if req = .host then s.hostRejected
  else if pin && unpin then s.reject 0x4048
  else pinObject pin s

/-- FRY_PINn (09 R481, R495). -/
def fryPinWrite (req : Req) (n : Nat) (v : W32) (s : State) : State × Bool :=
  let old := s.reg (0x5100 + 4 * n)
  let v := v &&& 0xBFFFFFFF#32
  let page := bits v.toNat 29 0
  if req = .host then (if v = old then s else s.hostRejected, false)
  else if v.getLsbD 31 && (List.range 32).any fun k => k != n && s.bit (F.FRY_PIN_EN k) && s.fld (F.FRY_PIN_PAGE k) == page then
    (s.reject 0x5100, true)
  else (fryPin n v s, false)

/-- A write of MODECMD.TARGET (17 R846, R863). -/
def modeTarget (t : Nat) (s : State) : State :=
  match t with
  | 1 => modePark none s
  | 2 => if s.mode.awake then chipReset 8 0 s else s
  | 3 => modeSaffron s
  | 4 => modeIvory s
  | 7 => modeCobalt s
  | _ => s.modeReject

/-- WIT_STATUS: outside Vermilion mode a write that would clear AB or STEST is ignored (19 R967). -/
def witStatusRefused (mask : W32) (s : State) : Bool :=
  decide (s.mode ≠ .vermilion) && decide (s.reg 0x9010 &&& mask &&& 6#32 ≠ 0#32)

/-- ALM_MC_CMD (08 R427 to R433). -/
def mcCmd (n : Nat) (s : State) : State :=
  match n % 8 with
  | 0 => s
  | 1 => mcWrite .warden s
  | 2 => mcRead .warden (s.fld F.ALM_MC_CMD_GROVE) s
  | 4 => mcPatch .warden s
  | _ => s.reject 0xEC00

/-- PLT_XSP_CTL.EN rises by a plain register write: what SFDP gives is a free value (log entry 70). -/
def xspUpFree (s : State) : State :=
  let (f, s) := s.takeFree
  xspUp (if f.getLsbD 16 then some (f.toNat % 65536) else none) s

/-- QUAR_LIMIT is raised when its condition begins to hold (19 R948, R961). -/
def quarLimit (was : Nat) (s : State) : State :=
  let n := s.fld F.TAL_QUAR_CELLS
  if s.fld F.ALM_QUARLIM_LIMIT < n ∧ n ≤ was then s.raise aQuarLimit 0 else s

/-! ### What a write to a register does besides setting its fields -/

/-- A bit rose, or fell. -/
def rose (s0 s : State) (f : Fld) : Bool := !s0.bit f && s.bit f
def fell (s0 s : State) (f : Fld) : Bool := s0.bit f && !s.bit f

/-- Only where the Warden writes. -/
def byWarden (req : Req) (s t : State) : State := if req = .warden then t else s

def afterGkp (req : Req) (off n : Nat) (s0 s : State) : State :=
  if off = 0x1000 then byWarden req s (gkpCmd (bits n 3 0) (bits n 6 4) s)
  else if off = 0x1068 then byWarden req s (if n.testBit 0 then zeroize s else s)
  else if off = 0x1200 then
    let s := if rose s0 s F.GKP_BOOT_TRIAL then armTrial s else s
    if rose s0 s F.GKP_BOOT_TRIMBAD then s.raise aGkpTrim 0 else s
  else if off = 0x1400 then byWarden req s (if n.testBit 0 then streamStart s else s)
  else s

def afterEvr (off : Nat) (s0 s : State) : State :=
  if 0x2100 ≤ off ∧ off < 0x2300 ∧ off % 32 = 16 then
    let n := (off - 0x2100) / 32
    if fell s0 s (F.EVR_RCTL_EN n) then ringDrain n s
    else if s.bit (F.EVR_RCTL_EN n) && !(s.ring n).active then ringStart n s
    else s
  else if off = 0x2308 then (if rose s0 s F.EVR_ECTL_EN then entryEnable false s else s)
  else if off = 0x2328 then (if rose s0 s F.EVR_LCTL_EN then (entryEnable true s).flushRecords else s)
  else s

def afterSpn (req : Req) (off n : Nat) (s0 s : State) : State :=
  if off = 0x4000 then
    let s := if rose s0 s F.SPN_CTL_LOCK then spnBuilt s else s
    if rose s0 s F.SPN_CTL_GC_EN then gcEnabled s else s
  else if off = 0x4020 then s.gcTrigger
  else if off = 0x4028 then (if n.testBit 0 then gcStartCmd s else s)
  else if off = 0x4048 then byWarden req s (pinCmd .warden (n.testBit 0) (n.testBit 1) s)
  else s

def afterMir (off n : Nat) (s0 s : State) : State :=
  if off = 0x6000 ∨ off = 0x6100 then
    let k := (off - 0x6000) / 256
    if rose s0 s (F.MIR_CTL_EN k) then outputUp k s
    else if fell s0 s (F.MIR_CTL_EN k) then outputDown k s
    else s
  else if off = 0x6200 then (if n.testBit 16 then dcsSend s else s)
  else s

def afterLmp (off : Nat) (s0 s : State) : State :=
  if off = 0x8000 ∧ rose s0 s F.LMP_CTL_ARM then s.setLamps fun l => { l with checking := true } else s

def afterAdc (off n : Nat) (s0 s : State) : State :=
  if off = 0xA000 then refWritten (s0.bit F.ADC_REF_REFEN) s
  else if 0xA100 ≤ off ∧ off < 0xA400 then
    let k := (off - 0xA100) / 256
    let o := off % 256
    if o = 0 then (if fell s0 s (F.ADC_CTL_EN k) then convDisable k s else startNext k s)
    else if o = 4 then (if n.testBit 0 then seqTrigger k s else s)
    else if 0xC0 ≤ o ∧ o < 0xE0 ∧ o % 8 = 0 then (if n.testBit 16 then urgRequest k ((o - 0xC0) / 8) s else s)
    else s
  else if 0xA800 ≤ off ∧ off < 0xA980 ∧ off % 8 = 4 then
    let c := (off - 0xA800) / 8
    compWritten c (s0.reg off) (s0.compOut c) s
  else s

/-- The controller of a port is disabled by this write. -/
def disabledPort (off : Nat) : Option Nat :=
  if off = 0xB200 ∨ off = 0xB240 ∨ off = 0xB280 ∨ off = 0xB2C0 then some ((off - 0xB200) / 64)
  else if off = 0xBD00 ∨ off = 0xBE00 then some (4 + (off - 0xBD00) / 256)
  else if off = 0xBA80 ∨ off = 0xBA90 then some (7 + (off - 0xBA80) / 16)
  else if off = 0xBAA0 ∨ off = 0xBAB0 then some (9 + (off - 0xBAA0) / 16)
  else if off = 0xBAC0 then some 11
  else none

def afterVio (off n : Nat) (s0 s : State) : State :=
  let s := match disabledPort off with
    | some p => if fell s0 s ⟨off, 0, 0⟩ then abortReqs p 3 s else s
    | none => s
  if 0xB200 ≤ off ∧ off < 0xB300 ∧ off % 64 = 0 then (if n.testBit 4 then canRecover ((off - 0xB200) / 64) s else s)
  else if off = 0xBA88 ∨ off = 0xBA98 then (if n.testBit 0 then i3cDaa ((off - 0xBA88) / 16) s else s)
  else if 0xB400 ≤ off ∧ off < 0xBA00 then
    let k := (off - 0xB400) / 12
    slotChanged k (s0.actBit (F.VIO_LSB_EN k)) s
  else s

def afterPwr (req : Req) (off n : Nat) (s0 s : State) : State :=
  if off = 0xC000 then byWarden req s (modeTarget (bits n 2 0) s)
  else if off = 0xC008 then (if rose s0 s F.PWR_RWCTL_KLEN then klUpdate s else s)
  else s

def afterAlm (req : Req) (off n : Nat) (s0 s : State) : State :=
  if off = 0xE020 then byWarden req s (swRaise .warden (bits n 3 0) s)
  else if off = 0xE030 then
    let s := if rose s0 s F.ALM_WDOG_EN then s.setWarden fun w => { w with wdogAt := s.now } else s
    byWarden req s (wdogKick .warden (bits n 31 24) s)
  else if off = 0xE050 then byWarden req s (if n.testBit 8 then cellRelease .warden (s.fld F.ALM_CELLREL_CELL) s else s)
  else if off = 0xE080 then quarLimit (s0.fld F.ALM_QUARLIM_LIMIT) s
  else if off = 0xE884 then byWarden req s (irqRaise .warden (bits n 2 0) (bits n 31 8) s)
  else if off = 0xEC14 then byWarden req s (mcCmd n s)
  else s

def afterPlt (off n : Nat) (s0 s : State) : State :=
  if off = 0x10104 then (if n.testBit 0 then ddrTrain .warden s else s)
  else if off = 0x10200 then (if rose s0 s F.PLT_XSP_CTL_EN then xspUpFree s else s)
  else if off = 0x10208 then xspStart .warden (bits n 1 0) s
  else s

/-- The effects of a write, given the state before it and the state with its fields set. -/
def afterWrite (req : Req) (off n : Nat) (s0 s : State) : State :=
  match off / 4096 with
  | 0x1 => afterGkp req off n s0 s
  | 0x2 => afterEvr off s0 s
  | 0x4 => afterSpn req off n s0 s
  | 0x6 => afterMir off n s0 s
  | 0x8 => afterLmp off s0 s
  | 0xA => afterAdc off n s0 s
  | 0xB => afterVio off n s0 s
  | 0xC => afterPwr req off n s0 s
  | 0xE => afterAlm req off n s0 s
  | 0x10 => afterPlt off n s0 s
  | _ => s

/-! ### A register write -/

/-- Registers whose whole write is an operation of its own. -/
def ownWrite (req : Req) (off : Nat) (v : W32) (s : State) : Option (State × Bool) :=
  let just := fun (t : State) => some (t, false)
  match off with
  | 0x8028 => just (cflagWrite req true false v s)
  | 0x802C => just (cflagWrite req true true v s)
  | 0x8030 => just (cflagWrite req false false v s)
  | 0x8034 => just (cflagWrite req false true v s)
  | 0x8038 => just (unlatchWrite req false v s)
  | 0x803C => just (unlatchWrite req true v s)
  | 0x8044 => just (lampStoreWrite req v s)
  | 0xB388 => just (gpioWrite req off v s)
  | 0xB38C => just (gpioWrite req off v s)
  | 0xF034 => just (trimDataWrite req (v.setWidth 6) s)
  | _ =>
    if 0x5100 ≤ off ∧ off < 0x5180 ∧ off % 4 = 0 then some (fryPinWrite req ((off - 0x5100) / 4) v s)
    else if 0xE010 ≤ off ∧ off < 0xE020 ∧ off % 4 = 0 then just (pendClear req ((off - 0xE010) / 4) v s)
    else if off = 0x9010 ∧ req = .warden ∧ witStatusRefused v s then some (s.reject off, true)
    else none

/-- A write of v to the register at BAR0 offset off; a PLT register is reached by the Warden only (19 R934). atOnce: an
APPLY makes the write (12 R640). The flag says that the write, or a part of it, was refused with CFG_REJ. -/
def regWrite (req : Req) (atOnce : Bool) (off : Nat) (v : W32) (s : State) : State × Bool :=
  if req = .host ∧ 0x10000 ≤ off then (s, false)
  else if req = .host ∧ s.gated ∧ heldOff off then (s.holdWrite off v, false)
  else if s.pwmOwned off then (s.setFld F.VIO_STATUS_CFG_REJ 1, true)
  else match ownWrite req off v s with
    | some r => r
    | none =>
      let (t, rej) := writeFields req atOnce off v s
      (afterWrite req off v.toNat s t, rej)

/-- REGISTER_WRITE; the offset is that of a 32-bit register. -/
def registerWrite (req : Req) (off : Nat) (v : W32) (s : State) : State :=
  if off % 4 = 0 then (regWrite req false off v s).1 else s

/-- The held host writes take effect as the gates open (13 R703; 16 R798). -/
def releaseWrites (s : State) : State :=
  let ws := s.vio.heldWrites
  ws.foldl (fun s w => (regWrite .host false w.off w.val s).1) (s.setVio fun x => { x with heldWrites := [] })

end Sys2Proof.Machine
end

