-- ==== Sys2Proof/Machine/FrameLock.lean ====
section
/-!
DEFINITION. The frame lock point of an output (13 R685 to R696) and the APPLY commands that take effect at it
(12 R640 to R642).
-/
namespace Sys2Proof.Machine

/-- The EDGE fields whose boundary is this output's frame take effect (00 R19; 13 R686). The Witness follows OUT-A, or
OUT-B while OUT-A is disabled (14 R748). -/
def frameEdges (out : Nat) (s : State) : State :=
  let s := transfer 6 (.mir out) s
  if out = 0 ∨ !s.bit (F.MIR_CTL_EN 0) then transfer 9 .wit s else s

/-- The writes of a staged set, in entry order, and how many were refused (12 R640, R641). -/
def applySet (ws : List StagedWrite) (s : State) : State × Nat :=
  ws.foldl (fun (a : State × Nat) w =>
    let (t, rej) := regWrite .host true w.off w.val a.1
    (t, a.2 + b2n rej)) (s, 0)

/-- One APPLY takes effect at frame n. -/
def applyOne (n : Nat) (s : State) (f : Flight) : State :=
  match f.wait with
  | .apply ws hs _ true true =>
    let (s, bad) := applySet ws s
    let s := hs.foldl (fun s h => unhold f.order h s) s
    s.answerCmd f stOk bad n s.now 0
  | _ => s

/-- The APPLYs of an output take effect in ascending order of their rings (12 R642). -/
def applyAll (out n : Nat) (s : State) : State :=
  (List.range 16).foldl (fun (s : State) r =>
    (s.flightsOf 0x06 fun f => f.ring == r && f.field 8 1 == out).foldl (applyOne n) s) s

/-- The lock point of an output that streams. -/
def frameLock (out : Nat) (s : State) : State :=
  if !s.bit (F.MIR_CTL_EN out) ∨ !s.bit (F.MIR_STATUS_LINKUP out) then s
  else
    let n := s.pair (0x6030 + 256 * out) + 1
    let s := (s.setPair (0x6030 + 256 * out) n).setPair (0x6038 + 256 * out) s.now
    let s := countRepeat out s
    let s := purgeOutput out s
    let s := if s.gated then s else latchOutput out s
    let s := applyAll out n (frameEdges out s)
    let s := applyRetarget out s.startPainters
    let s := s.setPic fun p => p.setOut out { p.out out with underrun := [] }
    adcFire (14 + out) none (s.irq (2 + out) (n % 2 ^ 32))

end Sys2Proof.Machine
end

