-- ==== Sys2Proof/Machine/RegRead.lean ====
section
/-!
DEFINITION. What a read of a setup register returns (00 R10, R17, R25, R26), with the registers that show state held
elsewhere.
-/
namespace Sys2Proof.Machine

/-- The half of a 64-bit value that a register shows. -/
def half32 (v : Nat) (hi : Bool) : Nat := if hi then v / 2 ^ 32 % 2 ^ 32 else v % 2 ^ 32

def viewTbd (off : Nat) (s : State) : Nat :=
  match off with
  | 0xF000 => half32 s.now false
  | 0xF004 => half32 s.now true
  | 0xF008 => half32 s.time.wake.toNat false
  | 0xF00C => half32 s.time.wake.toNat true
  | 0xF010 => (s.reg 0xF010).toNat % 8 + s.time.wakeSrc.toNat * 8 + b2n s.time.porw * 32
  | 0xF034 => (s.trim s.trimSel).majority.toNat
  | _ => (s.reg off).toNat

def viewSpn (off : Nat) (s : State) : Nat :=
  match off with
  | 0x402C => (s.reg 0x402C).toNat / 16 * 16 + s.heap.phase.code + b2n s.heap.parity * 8
  | 0x4030 => s.heap.cycle.toNat
  | 0x4034 => s.freeGrans
  | _ => (s.reg off).toNat

/-- SHP_EPOCHn (10 R563). -/
def viewEpoch (n : Nat) (s : State) : Nat :=
  match s.shep.epochs.find? n with
  | some e => 1 + e.parent * 2 + e.opener * 32 + (s.shep.log.filter fun x => x.epoch == n).length * 2 ^ 17
  | none => 0

def viewShp (req : Req) (off : Nat) (s : State) : Nat :=
  if off = 0x3014 then (List.range 16).foldl (fun m e => m + b2n (e != 0 && s.epochOpen e) * 2 ^ e) 0
  else if off = 0x3018 then
    (s.shep.slots.filter fun e => e.2.state.live).length
      + (s.shep.slots.filter fun e => e.2.state = .ready).length * 2 ^ 16
  else if off = 0x3030 then (s.selReg req 0x3030).toNat
  else if off = 0x3034 then
    let x := s.slot (bits (s.selReg req 0x3030).toNat 11 0)
    x.state.code + x.epoch * 2 ^ 4 + x.pri * 2 ^ 8 + x.cls * 2 ^ 12 + x.gen * 2 ^ 14 + x.grove * 2 ^ 26
  else if 0x3104 ≤ off ∧ off < 0x3140 then viewEpoch ((off - 0x3100) / 4) s
  else (s.reg off).toNat

/-- The term that a value of TAL_SEL names (11 R591, R592). -/
def State.talTerm (s : State) (sel : Nat) : Nat :=
  let l := bits sel 2 0
  let i := bits sel 18 7
  if s.ledgerBuilt l i then s.tally.term l i (bits sel 6 3) else 0

def viewTal (req : Req) (off : Nat) (s : State) : Nat :=
  match off with
  | 0xD020 => (s.selReg req 0xD020).toNat
  | 0xD024 => half32 (s.talTerm (s.selReg req 0xD020).toNat) false
  | 0xD028 => half32 (s.talTerm (s.selReg req 0xD020).toNat) true
  | _ => (s.reg off).toNat

def viewEvr (off : Nat) (s : State) : Nat :=
  let r := s.ring ((off - 0x2100) / 32)
  if off = 0x230C then s.evr.evt.pi
  else if off = 0x232C then s.evr.log.pi
  else if 0x2100 ≤ off ∧ off < 0x2300 ∧ off % 32 = 20 then b2n r.active + r.ci * 2 ^ 16
  else if 0x2100 ≤ off ∧ off < 0x2300 ∧ off % 32 = 24 then (s.reg off).toNat % 2 ^ 16 + r.aw * 2 ^ 16
  else (s.reg off).toNat

def viewWit (req : Req) (off : Nat) (s : State) : Nat :=
  let sel := (s.selReg req 0x9040).toNat
  let sig := (s.lamps.sigs.find? (sel % 64)).getD (0, 0)
  match off with
  | 0x9040 => sel
  | 0x9044 => sig.1
  | 0x9048 => sig.2
  | 0x9014 => half32 s.failMap false
  | 0x9018 => half32 s.failMap true
  | 0x901C => half32 s.provenMap false
  | 0x9020 => half32 s.provenMap true
  | _ => (s.reg off).toNat

/-- Outputs of the window comparators, a bit each. -/
def State.compMap (s : State) : Nat := (List.range 48).foldl (fun m c => m + b2n (s.compOut c) * 2 ^ c) 0

def viewAdc (off : Nat) (s : State) : Nat :=
  if off = 0xA404 then (s.reg off).toNat % 2 ^ 16 + s.adc.fifo.length * 2 ^ 16
  else if off = 0xAA00 then half32 s.compMap false
  else if off = 0xAA04 then half32 s.compMap true
  else if 0xA100 ≤ off ∧ off < 0xA400 ∧ off % 256 = 12 then
    let x := s.conv ((off - 0xA100) / 256)
    (s.reg off).toNat / 2 ^ 16 * 2 ^ 16 + b2n x.running.isSome + x.entry * 2 ^ 8
  else (s.reg off).toNat

/-- State of a key slot. DEDUCED: LOADED is the lowest bit, in the order of the table (log entry 72). -/
def State.slotStat (s : State) (n : Nat) : Nat :=
  b2n (s.gkp.keys.find? n).isSome + 2 * b2n (s.slotBusy n) + 4 * b2n (s.ulock n) + 8 * b2n (s.wlock n)

/-- Seconds that the trial watchdog has left. -/
def State.trialLeft (s : State) : Nat :=
  match s.gkp.trialAt with
  | some t => s.trialLimit - (s.now - t) / 1000000000
  | none => 0

def viewGkp (off : Nat) (s : State) : Nat :=
  if off = 0x1060 then (List.range 8).foldl (fun m n => m + s.slotStat n * 16 ^ n) 0
  else if off = 0x106C then s.floor
  else if 0x1080 ≤ off ∧ off < 0x10C0 then leNat ((((s.keyBytes 4).getD []).drop (off - 0x1080)).take 4)
  else if off = 0x1208 then (s.reg off).toNat % 2 ^ 16 + s.trialLeft * 2 ^ 16
  else (s.reg off).toNat

/-- The value that the register at an offset shows a requester. -/
def regView (req : Req) (off : Nat) (s : State) : Nat :=
  match off / 4096 with
  | 0x1 => viewGkp off s
  | 0x2 => viewEvr off s
  | 0x3 => viewShp req off s
  | 0x4 => viewSpn off s
  | 0x5 => if off = 0x5014 then 2048 - s.heap.bins.length else (s.reg off).toNat
  | 0x7 => if off = 0x701C then s.freeTiles else (s.reg off).toNat
  | 0x8 => if off = 0x804C then romSetByte (s.fld F.LMP_ROMADDR_ADDR) else (s.reg off).toNat
  | 0x9 => viewWit req off s
  | 0xA => viewAdc off s
  | 0xD => viewTal req off s
  | 0xF => viewTbd off s
  | 0x10 => if off = 0x10200 then (s.reg off).toNat + b2n Config.octalFuse * 2 else (s.reg off).toNat
  | _ => (s.reg off).toNat

/-- The register is the half of a 64-bit one that a read of the other half latches (00 R25). -/
def snapOff (off : Nat) : Bool :=
  match regRow off with
  | some (r, _) => r.fields.any fun f => f.acc == .sn
  | none => false

/-- The value that a read of this register returns (00 R25, R26). -/
def readValue (req : Req) (off : Nat) (s : State) : W32 :=
  if snapOff off then AMap.get 0#32 (s.snap.get req) off else BitVec.ofNat 32 (regView req off s)

/-- A read by a requester: it returns a value, latches the high half of a 64-bit register, and pops ADC_FIFO. The PLT
window cannot be reached over BAR0 (19 R934). -/
def regRead (req : Req) (off : Nat) (s : State) : State :=
  if req = .host ∧ 0x10000 ≤ off then s
  else if off = 0xA400 then fifoRead req s
  else
    let high := BitVec.ofNat 32 (regView req (off + 4) s)
    let snap := AMap.put 0#32 (s.snap.get req) (off + 4) high
    let s : State := { s with rdata := s.rdata.set req (readValue req off s) }
    if snapOff (off + 4) && !snapOff off then { s with snap := s.snap.set req snap } else s

end Sys2Proof.Machine
end

