-- ==== Sys2Proof/Machine/SysAccess.lean ====
section
/-!
DEFINITION. The Warden's accesses to its system space (19 R930 to R933), and SY.CONFIRM (18 R902, R911).
-/
namespace Sys2Proof.Machine

/-- Byte address of the next access. -/
def State.sysa (s : State) (c : Nat) : Nat := (s.opnd c 0x700).p % 2 ^ 40

/-- SY.SYSA advances by the access size while SY.SYSINC is true. -/
def sysAdvance (c n : Nat) (s : State) : State :=
  if (s.opnd c 0x701).truth then
    s.modCell c fun x => x.setSock x.level 0x700 (rawW ((s.sysa c + n) % 2 ^ 40))
  else s

/-- An access of n bytes that R932 refuses. -/
def State.sysRefused (s : State) (c n : Nat) (store : Bool) : Bool :=
  decide (s.sysa c % n ≠ 0) || match s.sysAddr (s.sysa c) n with
    | .unmapped => true
    | .rom _ => store
    | .flash _ => store
    | .regs _ => decide (n ≠ 4)
    | _ => false

/-- An uncorrectable error in what a system load reads: of local memory it is not delivered and resets the chip (R926);
of DRAM it raises ECCU with structure 5 (R932). -/
def sysLoadError (a : SysAddr) (addr : BitVec 40) (s : State) : Option (Out Ctl) :=
  match a with
  | .localMem o => some (.wait (s.raise aEccWarden o))
  | .dram _ => some (.exc cECCU (5 + addr.toNat * 2 ^ 24) s)
  | _ => none

/-- SY.SYSLD. -/
def sysLoad (m : Mv) (ecc : Ecc) (w : TWord) (s : State) : Out Ctl :=
  let c := m.c
  if !(w.t == tFIX && (w.p == 4 || w.p == 8)) then tagmiss 0x702 w s
  else needOperands m 0x702 [0x700] s fun s =>
    let n := w.p
    if s.sysRefused c n false then badsock 1 0x702 s
    else
      let a := s.sysAddr (s.sysa c) n
      let read : Out Ctl := match a with
        | .regs o =>
          let s := regRead .warden o s
          okNext (sysAdvance c n (s.result c 0x70F (rawW (s.rdata.get .warden).toNat)))
        | .flash o =>
          if s.bit F.PLT_XSP_CMD_BUSY then .wait s
          else okNext (sysAdvance c n (s.result c 0x70F (rawW (leNat (s.flashBytes o n)))))
        | _ => okNext (sysAdvance c n (s.result c 0x70F (rawW (leNat ((s.sysBytes (s.sysa c) n).getD [])))))
      match ecc with
      | .bad _ addr => (sysLoadError a addr s).getD read
      | _ => read

/-- SY.SYSST4 and SY.SYSST8. A register write comes after everything else the move does, since it can reset the chip. -/
def sysStore (m : Mv) (n : Nat) (w : TWord) (s : State) : Out Ctl :=
  let c := m.c
  let t := if n = 4 then 0x703 else 0x704
  if !isBitsWord w then tagmiss t w s
  else needOperands m t [0x700] s fun s =>
    let bs := leBytes n w.p
    if s.sysRefused c n true then badsock 1 t s
    else
      let a := s.sysAddr (s.sysa c) n
      let s := sysAdvance c n s
      match a with
      | .localMem o => okNext { s with wmem := Memory.writeN 0#8 s.wmem o bs }
      | .dram o => okNext (s.dramWrite o bs)
      | .host h => okNext (s.post (.mem h bs))
      | .regs o =>
        let s := retire m (s.modCell c fun x => { x with pc := (m.pc + m.len) % 2 ^ 32 })
        .ok .gone (regWrite .warden false o (BitVec.ofNat 32 w.p) s).1
      | _ => okNext s

/-- SY.CONFIRM: it waits for the gates (18 R902), and stalls in an ochre epoch (10 R545). -/
def syConfirm (m : Mv) (s : State) : Out Ctl :=
  if s.ochre m.c then .stall s
  else if s.gated then .wait s
  else okNext (confirmTrial s).1

end Sys2Proof.Machine
end

