-- ==== Sys2Proof/Machine/Sequencer.lean ====
section
/-!
DEFINITION. The writes of trigger and operand sockets, the microwords of the control store and the sequencer that runs
them (08 R386 to R425), and the issue of a move.
-/
namespace Sys2Proof.Machine

/-! ### Writing a destination -/

/-- The write of a trigger socket. -/
def trigger (m : Mv) (ecc : Ecc) (n : Nat) (w : TWord) (s : State) : Out Ctl :=
  if n < 0x200 then gaTrigger m ((n - 0x101) / 2) w s
  else if n < 0x280 then fxTrigger m n w s
  else if n < 0x300 then lxTrigger m n w s
  else if n < 0x380 then mxTrigger m n w s
  else if n < 0x3C0 then tgTrigger m n w s
  else if n < 0x400 then brTrigger m n w s
  else if n < 0x440 then evTrigger m n w s
  else if n = 0x611 then cpset m w s
  else if n = 0x618 then syHold m w s
  else if n = 0x619 then syReti m s
  else if n = 0x650 then syConfirm m s
  else if n = 0x702 then sysLoad m ecc w s
  else sysStore m (if n = 0x703 then 4 else 8) w s

/-- The write of a destination whose number the checks allow. -/
def writeDst (m : Mv) (ecc : Ecc) (n : Nat) (w : TWord) (s : State) : Out Ctl :=
  if sockKind n = .trigger then trigger m ecc n w s
  else if accepts (s.cell m.c) n w then (writeOperand m.c n w s).andThen fun _ s => okNext s
  else tagmiss n w s

/-! ### The microword (R392 to R399) -/

structure Uword where
  seq : Nat
  target : Nat
  cond : Nat
  cneg : Bool
  cmt : Bool
  mem : Nat
  alu : Nat
  srca : Nat
  srcb : Nat
  dst : Nat
  ltag : Nat
  rsv : Nat
  lit : Nat
  deriving DecidableEq, Repr

def uword (w : BitVec 120) : Uword :=
  let n := w.toNat
  ⟨bits n 119 116, bits n 115 104, bits n 103 98, w.getLsbD 97, w.getLsbD 96, bits n 95 92, bits n 91 86, bits n 85 74,
    bits n 73 62, bits n 61 50, bits n 49 44, bits n 43 32, bits n 31 0⟩

/-- A selector in a range that R399 lists. -/
def selListed (n : Nat) : Bool :=
  decide (n < 0x824) || (decide (0x830 ≤ n) && decide (n < 0x84A)) || (decide (0x84C ≤ n) && decide (n < 0x84F))
    || decide (0xFFE ≤ n)

/-- A reserved encoding in a field other than SEQ, or a nonzero reserved field (R393). -/
def Uword.reserved (u : Uword) : Bool :=
  decide (u.cond ≥ 18) || decide (u.alu ≥ 12) || decide (u.mem ≥ 10) || decide (u.rsv ≠ 0)
    || !(selListed u.srca && selListed u.srcb && selListed u.dst)

/-- The literal (R392, R399). -/
def Uword.literal (u : Uword) : TWord :=
  Sys2Proof.mk u.ltag (if u.ltag = tFIX then (BitVec.ofNat 32 u.lit).signExtend 64 else BitVec.ofNat 64 u.lit)

/-- A micro-routine ends with MCABORT at the microword at addr (R417, R418). -/
def mcAbort {α : Type} (c addr reason : Nat) (s : State) : Out α :=
  .exc cMCABORT (addr + reason * 4096) (s.raise aMcAbort c)

/-! ### Selectors (R399 to R402) -/

/-- The context record in which a sprig's floating save block stands (06 R315), as a pointer. -/
def State.floatBlock (s : State) (n : Option Nat) : TWord :=
  match n with
  | some k => match (s.slot k).ctx with
    | some a => ptrTo kVec a
    | none => unb 0
  | none => unb 0

/-- The header word at MPTR; its page is waited for. -/
def mptrHeader (c sock : Nat) (q : Micro) (s : State) : Out TWord :=
  let a := addrOf q.mptr
  if !q.mptr.canonical then heapf 1 sock a s
  else if s.region (pageOf a) = .unmapped then heapf 5 sock a s
  else (needPage c a s).andThen fun _ s => .ok (s.memWord a) s

def headerLen (h : TWord) : Nat := if h.t = tHDR then hdrLen h else 0

/-- A micro read. A number of a tag that the spec does not give takes `Config.microTag` (log entry 145). -/
def readSel (m : Mv) (q : Micro) (u : Uword) (n : Nat) (s : State) : Out TWord :=
  let c := m.c
  let x := s.cell c
  let num := fun (v : Nat) => mkN (Config.microTag n).toNat v
  if n < 0x800 then
    if n ≥ 0x700 then .ok (unb 0) s
    else match sockKind n with
      | .trigger => .ok (unb 0) s
      | .unassigned => .ok (unb 0) s
      | _ => readSock m n 0xFFF s
  else if n < 0x820 then .ok (AMap.get (unb 0) q.temps (n - 0x800)) s
  else if n = 0x820 then
    let w := s.codeWord c q.pc
    .ok (rawW (w.toNat + if q.len = 8 then (s.codeWord c (q.pc + 4)).toNat * 2 ^ 32 else 0)) s
  else if n = 0x821 then .ok q.start.opa s
  else if n = 0x822 then .ok q.start.opb s
  else if n = 0x823 then .ok (fix (q.winsel : Int)) s
  else if n < 0x840 then .ok (x.reg (winKey q.winsel (n - 0x830))) s
  else if n = 0x840 then .ok (mk tRAW (x.link q.winsel)) s
  else if n = 0x841 then .ok (rawW (windowMap x none)) s
  else if n = 0x842 then .ok (x.sock ((x.owner q.winsel).getD x.level) 0x320) s
  else if n = 0x843 ∨ n = 0x844 then
    match x.slab with
    | some b => .ok (num (if n = 0x843 then b.ptr else b.lim)) s
    | none => .ok (mk (Config.microTag n).toNat s.takeFree.1) s.takeFree.2
  else if n = 0x845 then .ok (num (match x.mlPend with | some v => v.toNat | none => 0)) s
  else if n = 0x846 then .ok (fix (x.level.num : Int)) s
  else if n = 0x847 then .ok (s.cellHandle c) s
  else if n = 0x848 then .ok (s.floatBlock x.sprig) s
  else if n = 0x849 then .ok (s.floatBlock (s.fpOwner c)) s
  else if n = 0x84C then .ok q.mptr s
  else if n = 0x84D then .ok q.moff s
  else if n = 0x84E then (mptrHeader c q.sock q s).andThen fun h s => .ok (fix (headerLen h : Int)) s
  else if n = 0xFFE then .ok (unb 0) s
  else .ok u.literal s

/-- The window map is written (R399; 06 R321): owners, lent flags, ST.WIN. -/
def Cell.setWmap (x : Cell) (v : Nat) : Cell :=
  let x := { setWindowMap v x with lent := BitVec.ofNat 8 (v / 2 ^ 24) }
  x.setSt x.level 2 0 (bits v 34 32)

/-- MLREM is written: a group that leaves it is no longer dirty (R424). -/
def Cell.setMlrem (x : Cell) (v : BitVec 36) : Cell :=
  let old := x.mlPend.getD 0#36
  ((List.range 36).foldl (fun x g => if old.getLsbD g && !v.getLsbD g then x.markDirty g false else x) x).setMl (some v)

/-- SLABPTR advances: the words it passes belong to objects (R420; 09 R448, R492). -/
def setSlabPtr (c v : Nat) (s : State) : State :=
  match (s.cell c).slab with
  | some b =>
    if b.ptr ≤ v ∧ v ≤ b.lim then
      (s.modCell c fun x => { x with slab := some { b with ptr := v } }).reportObjects 1 b.epoch (v - b.ptr)
    else s
  | none => s

/-- What a microword's write comes to: the routine's own registers, and whether the cell has left the move. -/
structure Acted where
  q : Micro
  gone : Bool
  deriving DecidableEq, Repr

/-- A write of an architectural socket (R400). A trigger's PRIV, BADSOCK, FPUN and TAGMISS are not raised, and its write
then has no effect; nor has one that would start another routine (log entry 145). A result socket takes the word. -/
def writeArch (m : Mv) (q : Micro) (n : Nat) (w : TWord) (s : State) : Out Acted :=
  let c := m.c
  let done := fun (s : State) => (Out.ok ⟨q, false⟩ s : Out Acted)
  if n ≥ 0x700 then done s
  else match sockKind n with
    | .unassigned => done s
    | .result =>
      if n = 0x1F0 then
        done ((s.modCell c fun x => { x with ops := x.ops.map fun o =>
          if o.fx = false ∧ o.level = x.level then { o with res := w.plain } else o }).result c n w)
      else if n = 0x260 ∨ n = 0x2F0 ∨ n = 0x370 ∨ n = 0x3B0 ∨ n = 0x3F0 then done (s.result c n w)
      else done s
    | .trigger => match trigger m .none n w.plain s with
      | .ok .next t => done t
      | .ok (.goto p) t => .ok ⟨{ q with goto := some p }, false⟩ t
      | .ok .gone t => .ok ⟨q, true⟩ t
      | .exc cause info t =>
        if cause = cPRIV ∨ cause = cBADSOCK ∨ cause = cFPUN ∨ cause = cTAGMISS then done s else .exc cause info t
      | .wait t => .wait t
      | .stall t => .stall t
      | .start _ _ => done s
    | _ => match writeOperand c n w s with
      | .ok _ t => done t
      | .exc cause info t => .exc cause info t
      | .wait t => .wait t
      | .stall t => .stall t
      | .start _ _ => done s

/-- A micro write. A selector that names nothing to write discards the word. -/
def writeSel (m : Mv) (q : Micro) (n : Nat) (w : TWord) (s : State) : Out Acted :=
  let c := m.c
  let keep := fun (s : State) => (Out.ok ⟨q, false⟩ s : Out Acted)
  let own := fun (q : Micro) => (Out.ok ⟨q, false⟩ s : Out Acted)
  let cell := fun (f : Cell → Cell) => keep (s.modCell c f)
  if n < 0x800 then writeArch m q n w s
  else if n < 0x820 then own { q with temps := AMap.put (unb 0) q.temps (n - 0x800) w.plain }
  else if n = 0x823 then own { q with winsel := w.p % 8 }
  else if 0x830 ≤ n ∧ n < 0x840 then cell fun x => x.setReg (winKey q.winsel (n - 0x830)) w
  else if n = 0x840 then cell fun x => x.setLink q.winsel w.payload
  else if n = 0x841 then cell fun x => x.setWmap w.p
  else if n = 0x842 then cell fun x => x.setSock ((x.owner q.winsel).getD x.level) 0x320 w.plain
  else if n = 0x843 then keep (setSlabPtr c w.p s)
  else if n = 0x845 then cell fun x => x.setMlrem (w.payload.setWidth 36)
  else if n = 0x84C then own { q with mptr := w.plain }
  else if n = 0x84D then own { q with moff := w.plain }
  else keep s

/-! ### Micro-ALU (R403) -/

def microAlu (u : Uword) (a b : TWord) : TWord :=
  let lit := fun (p : W64) => mk u.ltag p
  if u.alu = 0 then a
  else if u.alu = 1 then lit (a.payload + b.payload)
  else if u.alu = 2 then lit (a.payload - b.payload)
  else if u.alu = 3 then lit (a.payload &&& b.payload)
  else if u.alu = 4 then lit (a.payload ||| b.payload)
  else if u.alu = 5 then lit (a.payload ^^^ b.payload)
  else if u.alu = 6 then lit (a.payload <<< (b.p % 64))
  else if u.alu = 7 then lit (a.payload >>> (b.p % 64))
  else if u.alu = 8 then mk (b.p % 64) a.payload
  else if u.alu = 9 then fix (a.t : Int)
  else if u.alu = 10 then fix (b2n (decide (a.p < b.p)) : Int)
  else fix (b2n (a.eqv b) : Int)

/-! ### Memory operations (R404 to R407) -/

/-- LDR: the word at a as the cell's epoch sees it, with no barrier. -/
def loadRaw (c sock a : Nat) (s : State) : Out TWord :=
  let e := s.cellEpoch c
  if s.region (pageOf a) = .unmapped then heapf 5 sock a s
  else match (s.cell c).buffered a with
  | some x => .ok x.word.plain s
  | none => (needPage c a s).andThen fun _ s =>
    if s.heap.badWords.contains a then .exc cECCU (4 + (a % 2 ^ 40) * 2 ^ 24) (s.raise aEccLarder a)
    else .ok (s.visible e a).plain s

/-- STR: a store with no barrier. -/
def storeRaw (c sock a : Nat) (w : TWord) (s : State) : Out Unit :=
  let e := s.cellEpoch c
  (storeCheck sock a s).andThen fun _ s =>
    if e ≠ 0 && s.sealed a then .stall s
    else if e ≠ 0 && !s.ownGran e a then logStore e a w.plain s
    else if (s.cell c).sbufFull then .wait s
    else .ok () (s.pushStore c false a w.plain)

/-- STI: a word of the cell's slab; a header is black with M as the slab's parity (09 R448). -/
def storeInit (c addr : Nat) (q : Micro) (w : TWord) (s : State) : Out Unit :=
  let a := (addrOf q.mptr : Int) + 1 + q.moff.i
  match (s.cell c).slab with
  | some b =>
    if (b.ptr : Int) ≤ a ∧ a < (b.lim : Int) then
      if (s.cell c).sbufFull then .wait s
      else (needPage c a.toNat s).andThen fun _ s =>
        .ok () (s.heapPut a.toNat (if w.t = tHDR then { hdrSet w 20 b.parity with colour := black } else w.plain))
    else mcAbort c addr 2 s
  | none => mcAbort c addr 2 s

/-- SPNQ: the slab is retired and another requested (R420; 09 R449 to R451). -/
def slabRequest (c : Nat) (s : State) : State :=
  if (s.spinReqOf (.cell c)).isSome then s
  else
    let s := (s.modCell c fun x => { x with answer := none }).retireSlab c
    (s.spinWait ⟨.cell c, kPair, 0, nil, nil, s.cellEpoch c, s.heap.cycle.toNat⟩).gcTrigger

/-- What a memory operation comes to: the word loaded, whether its CASH succeeded, and whether its barrier took the slow
path. -/
structure MemActed where
  loaded : Option TWord
  cash : Option Bool
  slow : Bool
  deriving DecidableEq, Repr

/-- A routine called from a microword as with CALL (R407). -/
def subRoutine {α : Type} (c entry : Nat) (q : Micro) (s : State) (f : State → Out α) : Out α :=
  if q.stack.length ≥ 4 then mcAbort c q.addr 3 s else nativeRoutine c entry s f

/-- The memory operation of a microword; `a` is the word of SRCA, `w` the ALU result. -/
def microMem (m : Mv) (q : Micro) (u : Uword) (a w : TWord) (s : State) : Out MemActed :=
  let c := m.c
  let e := s.cellEpoch c
  let i := q.moff.i
  let none' : MemActed := ⟨none, none, false⟩
  let field := fun (store : Bool) (f : Nat → State → Out MemActed) =>
    (objAt c q.sock q.mptr store s).andThen fun o s =>
      if 0 ≤ i ∧ i < (o.2 : Int) then f (o.1 + 1 + i.toNat) s else mcAbort c q.addr 2 s
  let word := fun (f : Nat → State → Out MemActed) =>
    (mptrHeader c q.sock q s).andThen fun h s =>
      if -1 ≤ i ∧ i < (headerLen h : Int) then f ((addrOf q.mptr : Int) + 1 + i).toNat s else mcAbort c q.addr 2 s
  if u.mem = 0 then .ok none' s
  else if u.mem = 1 then field false fun at' s =>
    if slowLoad s at' then
      subRoutine c 0x004 q s fun s => (loadWord c e q.sock at' s).andThen fun v s => .ok ⟨some v, none, true⟩ s
    else (loadWord c e q.sock at' s).andThen fun v s => .ok ⟨some v, none, false⟩ s
  else if u.mem = 2 then word fun at' s => (loadRaw c q.sock at' s).andThen fun v s => .ok ⟨some v, none, false⟩ s
  else if u.mem = 3 then field true fun at' s =>
    if slowStore s at' w then
      subRoutine c 0x003 q s fun s => (storeWord c e q.sock at' w s).andThen fun _ s => .ok ⟨none, none, true⟩ s
    else (storeWord c e q.sock at' w s).andThen fun _ s => .ok none' s
  else if u.mem = 4 then (storeInit c q.addr q w s).andThen fun _ s => .ok none' s
  else if u.mem = 5 then word fun at' s => (storeRaw c q.sock at' w s).andThen fun _ s => .ok none' s
  else if u.mem = 6 then (mptrHeader c q.sock q s).andThen fun h s =>
    let p := addrOf q.mptr
    if h.t = tHDR ∧ s.region (pageOf p) = .collected ∧ effWhite s.heap.parity h then
      .ok ⟨none, some true, false⟩ (s.heapPut p { (hdrSet h 20 s.heap.parity) with colour := grey })
    else .ok ⟨none, some false, false⟩ s
  else if u.mem = 7 then .ok none' (slabRequest c s)
  else if u.mem = 8 then .ok none' (s.greyPush (groveOf c) (addrOf q.mptr))
  else (codeLoad c (a.p % 2 ^ 32) s).andThen fun v s => .ok ⟨some (rawW v.toNat), none, false⟩ s

/-! ### Sequencing (R394 to R398) -/

/-- The unit of a socket accepts a trigger (04 R176): LX and MX while the store buffer has room, BR while no epoch
request waits for its answer. -/
def unitAccepts (c n : Nat) (s : State) : Bool :=
  if 0x280 ≤ n ∧ n < 0x380 then !(s.cell c).sbufFull
  else if 0x3C0 ≤ n ∧ n < 0x400 then !s.epochPending c
  else true

/-- The condition that COND selects, before CNEG; `a` is the word of SRCA. A load of this model has returned its word
when its microword is done. -/
def microCond (c : Nat) (q : Micro) (u : Uword) (a : TWord) (s : State) : Bool :=
  let x := s.cell c
  if u.cond = 0 then true
  else if u.cond = 1 then q.alu == 0#64
  else if u.cond = 2 then q.alu.getLsbD 63
  else if u.cond = 3 then a.t == u.ltag
  else if u.cond = 4 then isPtrTag a.t
  else if u.cond = 5 then true
  else if u.cond = 6 then s.resident (pageOf (addrOf q.mptr))
  else if u.cond = 7 then decide (u.lit ≤ (match x.slab with | some b => b.lim - b.ptr | none => 0))
  else if u.cond = 8 then (s.spinReqOf (.cell c)).isNone
  else if u.cond = 9 then !x.sbufFull
  else if u.cond = 10 then unitAccepts c u.dst s
  else if u.cond = 11 then
    let h := s.memWord (addrOf q.mptr)
    h.t == tHDR && effWhite s.heap.parity h
  else if u.cond = 12 then decide (s.heap.phase = .roots ∨ s.heap.phase = .mark)
  else if u.cond = 13 then (x.owner q.winsel).isNone
  else if u.cond = 14 then (s.fpOwner c).isSome
  else if u.cond = 15 then x.mlPend.getD 0#36 == 0#36
  else if u.cond = 16 then q.cash
  else q.fwd

def microHolds (c : Nat) (q : Micro) (u : Uword) (a : TWord) (s : State) : Bool := microCond c q u a s != u.cneg

/-- A register into which no FWD word may be written (R401). -/
def noFwd (n : Nat) : Bool := decide (n < 0x80) || (decide (0x830 ≤ n) && decide (n ≤ 0x840))

/-- The datapath and memory actions of a microword (R397, R401, R403, R405). -/
def microActs (m : Mv) (q : Micro) (u : Uword) (a : TWord) (s : State) : Out (Acted × Bool) :=
  (readSel m q u u.srcb s).andThen fun b s =>
    let w := microAlu u a b
    let load := u.mem == 1 || u.mem == 2 || u.mem == 9
    if !load && w.t == tFWD && noFwd u.dst then mcAbort m.c q.addr 9 s
    else (microMem m q u a w s).andThen fun r s =>
      let v := r.loaded.getD w
      if v.t == tFWD && noFwd u.dst then mcAbort m.c q.addr 9 s
      else
        let q := { q with alu := if load then q.alu else w.payload
                          fwd := match r.loaded with | some v => v.t == tFWD | none => q.fwd
                          cash := r.cash.getD q.cash }
        (writeSel m q u.dst v s).andThen fun k s => .ok (k, r.slow) s

/-- What a microword, or a run of them, comes to: on to the next microword; a wait at this one; END; REIS; the cell has
left the move; an exception of the starting move; a stall of an ochre sprig. -/
inductive MicroOut where
  | go (q : Micro) (s : State)
  | hold (q : Micro) (s : State)
  | ended (q : Micro) (s : State)
  | again (q : Micro) (s : State)
  | gone (s : State)
  | exc (cause info : Nat) (s : State)
  | stall (s : State)

def microBad (c addr reason : Nat) (s : State) : MicroOut := .exc cMCABORT (addr + reason * 4096) (s.raise aMcAbort c)

/-- The microword at an address of the control store. -/
def State.microAt (s : State) (a : Nat) : Uword := uword (AMap.get 0#120 s.cstore (a % 4096))

/-- A commit microword at address a marks a REOPEN (R416). -/
def reopens (q : Micro) (u : Uword) (s : State) : Bool :=
  let n := s.microAt (q.addr + 1)
  u.seq == 0 && n.seq == 1 && n.target == q.start.entry

/-- A microword's run counts (R408, R409, R412, R414 to R416). `d` says that it completes a WAIT. -/
def microCount (q : Micro) (u : Uword) (d : Bool) (s : State) : Micro :=
  match q.after with
  | some k => if q.reopen then { q with after := none, reopen := false, ran := 0 } else { q with after := some (k + 1) }
  | none =>
    if u.cmt && q.stack.isEmpty then { q with after := some 0, reopen := reopens q u s }
    else { q with ran := if d then 0 else q.ran + 1 }

/-- The sequencing operation of a microword whose actions are done (R394 to R397, R407, R413, R414). -/
def microSeq (c : Nat) (q0 q : Micro) (u : Uword) (a : TWord) (slow : Bool) (s : State) : MicroOut :=
  let next := (q0.addr + 1) % 4096
  let q := microCount q u (u.seq == 3) s
  let go := fun (q : Micro) (n : Nat) =>
    if q.after = none ∧ q.ran ≥ 65536 then microBad c q0.addr 7 s else MicroOut.go { q with addr := n % 4096 } s
  if slow then go q next
  else match u.seq with
    | 0 => go q next
    | 1 => go q u.target
    | 2 => go q (if microHolds c q u a s then u.target else next)
    | 3 => go q next
    | 4 => if q.stack.length ≥ 4 then microBad c q0.addr 3 s else go { q with stack := next :: q.stack } u.target
    | 5 => match q.stack with
      | [] => microBad c q0.addr 3 s
      | n :: ns => go { q with stack := ns } n
    | 6 => go q (u.target + a.p % 16)
    | 7 => .ended q s
    | 8 => .again q s
    | _ =>
      if q.after.isSome then microBad c q0.addr 4 s
      else .exc (u.lit % 256) (AMap.get (unb 0) q.temps 0).p s

/-- What is wrong with a microword before it does anything: the reason of MCABORT (R389, R393, R394, R412, R415). -/
def microFault (c : Nat) (q : Micro) (u : Uword) (s : State) : Option Nat :=
  if s.cstoreBad.contains (groveOf c, q.addr) then some 6
  else if u.seq ≥ 10 then some 1
  else if u.reserved then some 2
  else if q.after.isSome && (u.seq == 3 || u.seq == 4 || u.seq == 9 || u.mem != 0) then some 4
  else if q.after = some 32 then some 5
  else if q.after.isSome && u.cmt && q.stack.isEmpty then some 8
  else none

/-- One microword. -/
def microStep (m : Mv) (q : Micro) (s : State) : MicroOut :=
  let u := s.microAt q.addr
  match microFault m.c q u s with
  | some r => microBad m.c q.addr r s
  | none => match readSel m q u u.srca s with
    | .ok a t =>
      if u.seq == 3 && !microHolds m.c q u a t then .hold q t
      else match (microActs m q u a t).orBack m.c t with
        | .ok (k, slow) t => if k.gone then .gone t else microSeq m.c q k.q u a slow t
        | .exc cause info t => .exc cause info t
        | .wait t => .hold q t
        | .stall t => .stall t
        | .start _ t => .hold q t
    | .exc cause info t => .exc cause info t
    | .wait t => .hold q t
    | .stall t => .stall t
    | .start _ t => .hold q t

/-- Run microwords, n at most. A routine that has not committed goes on with a later command when fewer than 64 are
left; a committed one ends before that (R412). -/
def microRun (m : Mv) : Nat → Micro → State → MicroOut
  | 0, q, s => .hold q s
  | n + 1, q, s => match microStep m q s with
    | .go q s => if n < 64 ∧ q.after = none then .hold q s else microRun m n q s
    | r => r

/-- SPILL has stored the owner's data of window i: a window that was lent is lent no more (06 R296). -/
def unlend (c i : Nat) (give : Bool) (s : State) : State :=
  s.modCell c fun x =>
    match x.borrower i with
    | some l =>
      if bits (x.svWin l) 9 9 = 1 then x
      else
        let x := (x.setLent i false).setSvWin l 9 true
        if give then x.initWindow i l 0#64 else x
    | none => x.setLent i false

/-- The routine is over. -/
def Cell.noMicro (x : Cell) : Cell := { x with micro := none }

/-- END: after SPILL and FILL the move that needed the window issues again; after any other routine the cell goes on
after the move (R394, R422, R424). -/
def microEnd (m : Mv) (q : Micro) (s : State) : State :=
  let s := s.modCell m.c Cell.noMicro
  let on : Out Ctl := match q.goto with
    | some p => .ok (.goto p) s
    | none => okNext s
  if q.start.entry = 0x009 then unlend m.c q.start.win q.start.give s
  else if q.start.entry = 0x00A then s
  else if q.start.entry = 0x007 ∨ q.start.entry = 0x008 then
    finish m q.sock (deliverNil m 0x370 (endTransfer m.c (.ok () s)))
  else if q.start.entry = 0x00B then finish m q.sock (okNext (s.modCell m.c (fpaFor (s.cellHandle m.c))))
  else finish m q.sock on

/-- What the run of a routine comes to for its cell. -/
def microDone (m : Mv) (sock : Nat) (r : MicroOut) : State :=
  match r with
  | .go q s => s.modCell m.c fun x => { x with micro := some q }
  | .hold q s => s.modCell m.c fun x => { x with micro := some q }
  | .ended q s => microEnd m q s
  | .again q s =>
    let s := s.modCell m.c Cell.noMicro
    if q.start.entry = 0x00B then s.modCell m.c (fpaFor (s.cellHandle m.c)) else s
  | .gone s => s.modCell m.c Cell.noMicro
  | .exc cause info s =>
    raiseSync m.c cause info m.pc (s.modCell m.c fun x => { x.noMicro with mlPend := none, answer := none })
  | .stall s => stallMove m sock (s.modCell m.c Cell.noMicro)

/-- A routine starts at its entry (R396, R402, R419); a slab of another epoch is retired first when it allocates (09
R449). WINSEL is the window that SPILL or FILL is for; what the spec does not give is free (log entry 145). -/
def microStart (m : Mv) (sock : Nat) (r : MicroStart) (s : State) : State :=
  let s := if r.entry ≤ 2 ∧ (s.cell m.c).slab.any (fun b => b.epoch != s.cellEpoch m.c) then s.retireSlab m.c else s
  let (f, s) := s.takeFree
  let (p, s) := s.takeFree
  let (o, s) := s.takeFree
  let (v, s) := s.takeFree
  let win := if r.entry = 0x009 ∨ r.entry = 0x00A then r.win else f.toNat % 8
  let q : Micro := { start := r, pc := m.pc, len := m.len, sock := sock, addr := r.entry, stack := [], temps := [],
                     winsel := win, mptr := mk (bits f.toNat 8 3) p, moff := mk (bits f.toNat 14 9) o, alu := v,
                     fwd := f.getLsbD 15, cash := f.getLsbD 16, ran := 0, after := none, reopen := false, goto := none }
  microDone m sock (microRun m 65600 q s)

/-- A routine that waits goes on. -/
def microGoOn (c : Nat) (q : Micro) (s : State) : State :=
  let m : Mv := ⟨c, q.pc, q.len⟩
  microDone m q.sock (microRun m 65600 q s)

/-! ### Ending and issuing a move -/

/-- End the issue of a move, or start the routine that it needs. -/
def finishMove (m : Mv) (sock : Nat) (o : Out Ctl) : State :=
  match o with
  | .start r s => microStart m sock r s
  | .exc cause info s =>
    if cause = cFPUN ∧ (s.cell m.c).level = .l0 ∧ (s.cell m.c).sprig.isSome ∧ s.loaded m.c 0x00B then
      microStart m sock ⟨0x00B, unb 0, unb 0, 0, false⟩ s
    else finish m sock (.exc cause info s)
  | o => finish m sock o

/-- Issue one move of a cell. First come, in this order: events that can be taken (07 R343, R347), a hold bound that is
reached (R365), a routine that has not ended (08 R410), the 17th move past an operation (04 R177), the window of a
resumed level (06 R298). -/
def issue (c : Nat) (f : State → State) (s : State) : State :=
  if !s.running c then s
  else if s.mayTake c && (s.cell c).takeable.isSome then takeEvents c s
  else if holdReached s c % 2 = 1 then holdEnds c (holdReached s c) s
  else match (s.cell c).micro with
  | some q => microGoOn c q s
  | none =>
    if (s.cell c).ops.any fun o => decide (o.level = s.lvl c) && decide (o.issued ≥ 17) then s
    else match obtainFirst c s with
      | .ok _ s => f s
      | .exc cause info s => raiseSync c cause info (s.cell c).pc s
      | .wait s => s
      | .stall s => stallMove ⟨c, (s.cell c).pc, 4⟩ 0x320 s
      | .start r s => microStart ⟨c, (s.cell c).pc, 4⟩ 0x320 r s

end Sys2Proof.Machine
end

