-- ==== Sys2Proof/Machine/Move.lean ====
section
/-!
DEFINITION. The move: fetch, encoding, guard, early issue, checks, transfer (04 R158 to R200, R204, R211; 05 R219,
R220; 19 R950, R951).
-/
namespace Sys2Proof.Machine

/-! ### Fetch -/

/-- The addresses that a fetch at a brings into the fetch buffer: 8 moves from there on, as far as code can be fetched
(log entry 74). -/
def State.fetchLine (s : State) (c a : Nat) : List Nat :=
  ((List.range 8).map fun k => a + 4 * k).takeWhile fun b => s.fetchable c b && s.execPage c b

/-- The 32-bit word at a code address, through the fetch buffer (R202, R204, R211). -/
def fetchWord (c a : Nat) (s : State) : Out W32 :=
  let a := a / 4 * 4
  match (s.cell c).fetch.find? a with
  | some w => .ok w s
  | none =>
    if !s.fetchable c a then .exc cCODEW (codewInfo 0 a false) s
    else if !s.execPage c a then .wait s
    else .ok (s.codeWord c a)
      (s.modCell c fun x => { x with fetch := (s.fetchLine c a).map fun b => (b, s.codeWord c b) })

/-! ### Encoding (R158 to R164) -/

/-- Fields of a move. -/
def mvInv (w : W32) : Bool := w.getLsbD 31
def mvGuard (w : W32) : Nat := bits w.toNat 30 28
def mvImm (w : W32) : Bool := w.getLsbD 27
def mvSrc (w : W32) : Nat := bits w.toNat 26 16
def mvDst (w : W32) : Nat := bits w.toNat 15 4
def mvLong (w : W32) : Bool := w.getLsbD 3
def mvLen (w : W32) : Nat := if mvLong w then 8 else 4

/-- An encoding fault (R160, R162). -/
def mvBad (w : W32) : Bool :=
  decide (bits w.toNat 2 0 ≠ 0) || decide (mvDst w ≥ 0x800)
    || (mvLong w && (!mvImm w || decide (bits w.toNat 26 23 ≠ 0)))

/-- Tag of the long immediate. -/
def mvTag (w : W32) : Nat := bits w.toNat 21 16

/-- A short immediate (R161). -/
def shortImm (w : W32) : TWord := mk tFIX ((BitVec.ofNat 11 (mvSrc w)).signExtend 64)

/-- A long immediate (R163). -/
def longImm (w v : W32) : TWord :=
  let p : W64 := if w.getLsbD 22 then v.setWidth 64 <<< 32
    else if mvTag w = tFIX then v.signExtend 64
    else v.setWidth 64
  produce (mvTag w) p

/-! ### Errors that a move meets (19 R950, R951, R954, R926) -/

/-- Fetch structures: instruction cache or fetch buffer, code cache, DRAM. -/
def Ecc.onFetch : Ecc → Bool
  | .bad k _ => k.val == 2 || k.val == 3 || k.val == 5
  | _ => false

/-- The move meets an error in a structure: its effect on the alarms, and ECCU. -/
def eccError (m : Mv) (k : Nat) (addr : Nat) (s : State) : Out Ctl :=
  if m.c ≥ wardenCell ∧ (k = 2 ∨ k = 3 ∨ k = 5) then .wait (s.raise aEccWarden addr)
  else
    let s : State :=
      if k = 4 then
        if s.resident (pageOf addr) && !s.heap.badWords.contains addr then
          { s with heap := { s.heap with badWords := s.heap.badWords ++ [addr] } }.raise aEccLarder addr
        else s
      else if k = 5 then s.dramError (s.codeAt m.pc)
      else s.raise aEccCell m.c
    .exc cECCU (k + addr * 2 ^ 24) s

/-- Meet an error, if there is one that `here` selects; a corrected one is counted. -/
def withEcc (m : Mv) (ecc : Ecc) (here : Bool) (s : State) (f : State → Out Ctl) : Out Ctl :=
  match ecc with
  | .bad k a => if here then eccError m k.val a.toNat s else f s
  | _ => f s

/-! ### The transfer -/

/-- A predicate write from a result socket whose operation is in flight: the predicate's guards are unresolved from now
on (R191). -/
def deferWrite (m : Mv) (dst src : Nat) (s : State) : Out Ctl :=
  let fx := decide (src = 0x260)
  .ok .gone (s.modCell m.c fun x =>
    { x with
      ops := x.ops.map fun o => if o.fx = fx ∧ o.level = x.level ∧ o.readDst = none then { o with readDst := some dst } else o
      defer := some ⟨dst, src, m.pc⟩
      pc := (m.pc + m.len) % 2 ^ 32 })

/-- A move that acts, from its encoding on (R220). -/
def moveBody (m : Mv) (ecc : Ecc) (w : W32) (s : State) : Out Ctl :=
  let c := m.c
  let dst := mvDst w
  let sup := (s.cell c).sup
  if mvBad w then badsock 0 dst s
  else (if mvLong w then fetchWord c (m.pc + 4) s else .ok 0#32 s).andThen fun v s =>
    let tag := if mvLong w then tagCheck (mvTag w) sup else 0
    let src := if mvImm w then (if tag = 1 then some (5, cPRIV, sockInfo 2 dst) else none)
      else sockCheck c (mvSrc w) true s
    match firstFault src (sockCheck c dst false s) with
    | some (_, cause, info) => .exc cause info s
    | none =>
      if tag = 2 then .exc cTAGMISS (dst + mvTag w * 2 ^ 12 + 0x3F * 2 ^ 18 + 2 * 2 ^ 24) s
      else withEcc m ecc (dst != 0x702) s fun s =>
        if mvImm w then writeDst m ecc dst (if mvLong w then longImm w v else shortImm w) s
        else
          let n := mvSrc w
          if 0x441 ≤ dst ∧ dst ≤ 0x447 ∧ ((n = 0x1F0 ∧ (s.cell c).busyOp false) ∨ (n = 0x260 ∧ (s.cell c).busyOp true)) then
            deferWrite m dst n s
          else (readSock m n dst s).andThen fun x s => writeDst m ecc dst x s

/-! ### Guards and early issue (R188 to R200) -/

/-- The guard of a move: none while it is unresolved. -/
def guardOf (x : Cell) (w : W32) : Option Bool :=
  let g := mvGuard w
  if g = 0 then some (!mvInv w)
  else match x.defer with
    | some d => if d.sock = 0x440 + g then none else some ((x.preds.get x.level).getLsbD g != mvInv w)
    | none => some ((x.preds.get x.level).getLsbD g != mvInv w)

/-- The move at hand, whose word is w. Behind a predicate write that waits, a move with that guard may issue early into
a cancellable socket; every other move waits (R171, R193 to R195; log entry 75). -/
def guardedMove (m : Mv) (ecc : Ecc) (w : W32) (s : State) : State :=
  let x := s.cell m.c
  match guardOf x w with
  | none =>
    if cancellable (mvDst w) && decide (x.early.length < 4) then
      s.modCell m.c fun x => { x with early := x.early ++ [m.pc], pc := (m.pc + m.len) % 2 ^ 32 }
    else s
  | some acts =>
    if x.defer.isSome then s
    else if acts then finishMove m (mvDst w) (moveBody m ecc w s)
    else finishMove m 0 (okNext s)

/-- Fetch and issue one move. -/
def issueMove (c : Nat) (ecc : Ecc) (s : State) : State :=
  let pc := (s.cell c).pc
  let s := match ecc with
    | .corrected => s.eccCorrected c
    | _ => s
  match fetchWord c pc s with
  | .ok w s =>
    let m : Mv := ⟨c, pc, mvLen w⟩
    if ecc.onFetch then finishMove m 0 (withEcc m ecc true s okNext) else guardedMove m ecc w s
  | .exc cause info s => finishMove ⟨c, pc, 4⟩ 0 (.exc cause info s)
  | .wait s => s
  | .stall s => s
  | .start _ s => s

/-- Early-issued moves take effect in their turn, as far as none of them waits or raises (R197, R198). -/
def replay (c : Nat) (l : Level) (pcs : List Nat) (s : State) : State :=
  pcs.foldl (fun (s : State) p =>
    if (s.cell c).pc = p ∧ s.lvl c = l then issue c (issueMove c .none) s else s) s

/-- The predicate write that waited completes, once the operation it reads has; the early-issued moves behind it retire
or are squashed. -/
def guardResolve (c : Nat) (s : State) : State :=
  let x := s.cell c
  match x.defer with
  | none => s
  | some d =>
    if x.busyOp (d.src == 0x260) then s
    else
      let s := retire ⟨c, d.pc, 4⟩ (settleDefer c s)
      let s := s.modCell c fun y => { y with early := [], pc := x.boundaryPc }
      replay c x.level x.early s

/-- MOVE. A waiting predicate write whose operation has completed completes first. -/
def moveRow (c : Nat) (ecc : Ecc) (s : State) : State :=
  let x := s.cell c
  match x.defer with
  | some d => if x.busyOp (d.src == 0x260) then issue c (issueMove c ecc) s else guardResolve c s
  | none => issue c (issueMove c ecc) s

/-! ### A move that writes a given word to a given socket -/

/-- The move at hand writes w to socket n: the row of that socket. -/
def sockRow (c n : Nat) (ecc : Ecc) (w : TWord) (s : State) : State :=
  issue c (fun s =>
    if (s.cell c).defer.isSome then s
    else
      let m : Mv := ⟨c, (s.cell c).pc, 4⟩
      finishMove m n (match sockCheck c n false s with
        | some (_, cause, info) => .exc cause info s
        | none => writeDst m ecc n w.plain s)) s

/-- A corrected error is counted before the move. -/
def sysldRow (c : Nat) (ecc : Ecc) (w : TWord) (s : State) : State :=
  sockRow c 0x702 ecc w (match ecc with
    | .corrected => s.eccCorrected c
    | _ => s)

end Sys2Proof.Machine
end

