-- ==== Sys2Proof/Machine/Query.lean ====
section
/-!
DEFINITION. QUERY (12 R646; 18 R923, boot slot states).
-/
namespace Sys2Proof.Machine

/-- VALUE0 of selector 4 (18 R923). -/
def State.bootStates (s : State) : Nat :=
  let rec' := match s.bootRecord with
    | some (_, b) => slotState b 0 % 8 + slotState b 1 % 8 * 2 ^ 8 + field b 8 1 % 2 * 2 ^ 16
    | none => 0
  rec' + s.fld F.GKP_BOOT_SLOT * 2 ^ 17 + s.fld F.GKP_BOOT_TRIAL * 2 ^ 18 + s.fld F.GKP_BOOT_RECOVERY * 2 ^ 19
    + s.floor % 64 * 2 ^ 32

/-- The values that a selector answers. -/
def State.queryValues (s : State) (sel arg : Nat) : Nat × Nat × Nat :=
  match sel with
  | 0 => ((s.reg 0x0).toNat + (s.reg 0x4).toNat * 2 ^ 32, s.now, 0)
  | 1 =>
    let r := s.ring arg
    (r.ci + r.aw * 2 ^ 16 + r.pi * 2 ^ 32 + r.aci * 2 ^ 48, r.staged.length, s.credit arg + r.aw * 2 ^ 16)
  | 2 => (s.talTerm arg, (s.reg 0xD000).toNat, 0)
  | 3 => (s.pair 0x8008, s.pair 0x8010, (s.reg 0x801C).toNat)
  | _ => (s.bootStates, 0, 0)

/-- QUERY at the front of a ring. -/
def cmdQuery (ring : Nat) (s : State) : State :=
  withTodo ring 0x09 s fun f s =>
    let v := s.queryValues (f.field 8 1) (f.field 12 4)
    s.answerOk f v.1 v.2.1 v.2.2

end Sys2Proof.Machine
end

