-- ==== Sys2Proof/Machine/Stream.lean ====
section
/-!
DEFINITION. The Stage-2 stream: pages, sections and the decision of the digest (18 R896 to R901).
-/
namespace Sys2Proof.Machine

/-- A stream entry, GKP_SQn: flash offset, length, type, destination, index (R896; log entry 58). -/
structure StreamEntry where
  off : Nat
  len : Nat
  type' : Nat
  index : Nat
  dest : Nat
  deriving DecidableEq, Repr

def State.streamEntry (s : State) (n : Nat) : StreamEntry :=
  let w := fun (k : Nat) => (s.reg (0x1300 + 16 * n + 4 * k)).toNat
  ⟨w 0, w 1, w 2 % 256, bits (w 2) 15 8, w 3⟩

def State.streamCount (s : State) : Nat := s.fld ⟨0x1400, 4, 1⟩ + 1

/-- Bytes of the section that one page takes: 16 KiB of code, or a payload with its sidecar (R871). -/
def StreamEntry.pageSize (e : StreamEntry) : Nat := if e.type' = 6 then 16384 else 9216

def StreamEntry.pages (e : StreamEntry) : Nat := (e.len + e.pageSize - 1) / e.pageSize

/-- The heap page of a backing index of the image region (09 R485). -/
def State.imagePage (s : State) (idx : Nat) : Nat := s.fld F.SPN_IMG_BASE_PAGE + idx - s.fld F.SPN_HEAP_PAGES_COUNT

/-- Page k of an entry is written into DRAM. A code page becomes EXEC (R896, R897). -/
def writePage (e : StreamEntry) (k : Nat) (s : State) : State :=
  let bs := s.flashBytes (e.off + k * e.pageSize) (min e.pageSize (e.len - k * e.pageSize))
  if e.type' = 6 then
    let a := e.dest + k * 16384
    (s.dramWrite (s.codeAt a) bs).setExec (a / 16384)
  else if e.type' = 7 then
    let i := e.dest + k
    let s := s.dramWrite (s.fld F.FRY_HEAP_DBASE_BASE * 2 ^ 20 + i * 8192) (bs.take 8192)
    let s := s.dramWrite (s.fld F.FRY_SIDE_DBASE_BASE * 2 ^ 20 + i * 1024) (bs.drop 8192)
    s.setGkp fun g => { g with written := g.written ++ [s.imagePage i] }
  else s

/-- The engine finishes writing a page. -/
def streamPage (s : State) : State :=
  match s.gkp.stream with
  | some (i, k) =>
    let e := s.streamEntry i
    if k < e.pages then (writePage e k s).setGkp fun g => { g with stream := some (i, k + 1) } else s
  | none => s

/-- An image-region page has its bytes, or no entry of the running stream covers it (R898). -/
def State.pageReady (s : State) (page : Nat) : Bool :=
  s.gkp.stream.isNone || s.gkp.written.contains page ||
    !((List.range s.streamCount).any fun n =>
      let e := s.streamEntry n
      e.type' == 7 && (List.range e.pages).any fun k => s.imagePage (e.dest + k) == page)

/-- The hash of the booted slot's manifest, as its binding block holds it (R873). -/
def State.manifestHash (s : State) : List Byte := s.flashBytes ((s.slotArea (s.fld F.GKP_BOOT_SLOT)).1 + 4) 32

/-- The tag of an entry under K3, where the key can be used (R874, R886). -/
def State.streamTag (s : State) (e : StreamEntry) : Option (List Byte) :=
  match s.keyBytes 3 with
  | some k => if s.ulock 3 then none else some (sectionTag k s.manifestHash e.index (s.flashBytes e.off e.len))
  | none => none

/-- What the open gates let go (R899; 13 R703; 16 R798). -/
def gatesOpened (s : State) : State := releaseWrites s.openGates.releasePosts.flushRecords

/-- Every tag matches (R899, R901). -/
def digestPass (s : State) : State :=
  let s := ((s.setFld F.GKP_STATUS_DIGEST 1).setFld F.GKP_STATUS_M3DONE 1).setGkp fun g => { g with stream := none }
  let s := gatesOpened s.doErases
  if s.mode = .saffron then enterMode s.runMode s else s

/-- The engine finishes a section: its tag is measured and compared (R892, R896). DEDUCED: without K3 the check ends as
on KEY_GONE (log entry 59). -/
def streamSection (s : State) : State :=
  match s.gkp.stream with
  | none => s
  | some (i, k) =>
    let e := s.streamEntry i
    if k < e.pages then s
    else match s.streamTag e with
      | none => digestFail (s.keyBytes 3).isNone s
      | some t =>
        let s := s.extend 3 t
        if t ≠ s.regBytes (0x1420 + 32 * i) 8 then digestFail false s
        else if i + 1 < s.streamCount then s.setGkp fun g => { g with stream := some (i + 1, 0) }
        else digestPass s

end Sys2Proof.Machine
end

