-- ==== Sys2Proof/Machine/RowOps.lean ====
section
/-!
DEFINITION. How a row's effect becomes a step: the Alarm board acts before it ends (19 R939), and a row of the switched
domain has none while that domain is off (17 R851, R855). With them the rows that are one write of a bit of a register.
-/
namespace Sys2Proof.Machine

/-- A row that moves the timebase. A command has its effect on everything but the queue. -/
def clocked (f : State → State) (s : State) : Host.Outcome State Fault Refusal :=
  .next { settle (f s) with pending := s.pending }

/-- A row of the always-on domain that does not move the timebase. -/
def always (f : State → State) (s : State) : Host.Outcome State Fault Refusal :=
  let t := settle (f s)
  .next { t with pending := s.pending, time := { t.time with ns := s.time.ns, frac := s.time.frac } }

/-- A row of the switched domain. It has its effect on everything but the queue and the timebase (02 R90). -/
def run (f : State → State) (s : State) : Host.Outcome State Fault Refusal :=
  if s.power.powered then
    let t := settle (f s)
    .next { t with pending := s.pending, time := { t.time with ns := s.time.ns, frac := s.time.frac } }
  else .next s

/-- One write of the host sets CMD_PIn, with ANS_CIn beside it where it is 64 bits wide (12 R610); what the host has
written to its own memory before arrives with it (log entry 76). -/
def piDoorbell (n : Nat) (v : BitVec 16) (aci : Option (BitVec 16)) (mem : List (Nat × Byte)) (s : State) : State :=
  let s : State := { s with host := mem.foldl (fun m w => Memory.write 0#8 m w.1 w.2) s.host }
  let s := match aci with
    | some a => ansCi n a.toNat s
    | none => s
  cmdPi n v.toNat s

/-- A write that sets bits of a register and leaves its other fields as they are. -/
def setBitsOf (req : Req) (off : Nat) (m : W32) (s : State) : State := registerWrite req off (s.reg off ||| m) s

/-- A write that clears bits of a register and leaves its other fields as they are. -/
def clearBitsOf (req : Req) (off : Nat) (m : W32) (s : State) : State := registerWrite req off (s.reg off &&& ~~~m) s

/-- A PG input falls (17 R846, R854). -/
def pgFall (which : Nat) (s : State) : State :=
  emergencyPark 5 (s.setFld F.PWR_STATUS_PG (setBits (s.fld F.PWR_STATUS_PG) which which 0))

/-- An orderly park, requested by the Warden; a host write is refused (01 R55). -/
def parkRequest (req : Req) (nack : Option (Fin 8)) (s : State) : State :=
  match req with
  | .warden => modePark (nack.map Fin.val) s
  | .host => s.hostRejected

end Sys2Proof.Machine
end

