-- ==== Sys2Proof/Machine/RowsCell.lean ====
section
/-!
DEFINITION. The meanings of the rows: Moves and the arithmetic units (04, 05).
-/
namespace Sys2Proof.Machine

/-- MOVE (R171). -/
def execMove (cell : CellId) (ecc : Ecc) (s : State) : Host.Outcome State Fault Refusal :=
  run (moveRow cell.val ecc) s

/-- SY_ST_WRITE (R327). -/
def execSyStWrite (cell : CellId) (w : TWord) (s : State) : Host.Outcome State Fault Refusal :=
  run (sockRow cell.val 0x600 .none w) s

/-- GUARD_RESOLVE (R197). -/
def execGuardResolve (cell : CellId) (s : State) : Host.Outcome State Fault Refusal := run (guardResolve cell.val) s

/-- ARITH_OP_COMPLETE (R177). -/
def execArithOpComplete (cell : CellId) (fx : Bool) (s : State) : Host.Outcome State Fault Refusal :=
  run (completeOp cell.val fx) s

/-- GA_ADD (R121). -/
def execGaAdd (cell : CellId) (w : TWord) (s : State) : Host.Outcome State Fault Refusal :=
  run (sockRow cell.val 0x101 .none w) s

/-- GA_SUB (R121). -/
def execGaSub (cell : CellId) (w : TWord) (s : State) : Host.Outcome State Fault Refusal :=
  run (sockRow cell.val 0x103 .none w) s

/-- GA_MUL (R122). -/
def execGaMul (cell : CellId) (w : TWord) (s : State) : Host.Outcome State Fault Refusal :=
  run (sockRow cell.val 0x105 .none w) s

/-- GA_DIV (R123). -/
def execGaDiv (cell : CellId) (w : TWord) (s : State) : Host.Outcome State Fault Refusal :=
  run (sockRow cell.val 0x107 .none w) s

/-- GA_REM (R133). -/
def execGaRem (cell : CellId) (w : TWord) (s : State) : Host.Outcome State Fault Refusal :=
  run (sockRow cell.val 0x109 .none w) s

/-- GA_NEG (R124). -/
def execGaNeg (cell : CellId) (w : TWord) (s : State) : Host.Outcome State Fault Refusal :=
  run (sockRow cell.val 0x10B .none w) s

/-- GA_ABS (R124). -/
def execGaAbs (cell : CellId) (w : TWord) (s : State) : Host.Outcome State Fault Refusal :=
  run (sockRow cell.val 0x10D .none w) s

/-- GA_LT (R136). -/
def execGaLt (cell : CellId) (w : TWord) (s : State) : Host.Outcome State Fault Refusal :=
  run (sockRow cell.val 0x10F .none w) s

/-- GA_LE (R136). -/
def execGaLe (cell : CellId) (w : TWord) (s : State) : Host.Outcome State Fault Refusal :=
  run (sockRow cell.val 0x111 .none w) s

/-- GA_GT (R136). -/
def execGaGt (cell : CellId) (w : TWord) (s : State) : Host.Outcome State Fault Refusal :=
  run (sockRow cell.val 0x113 .none w) s

/-- GA_GE (R136). -/
def execGaGe (cell : CellId) (w : TWord) (s : State) : Host.Outcome State Fault Refusal :=
  run (sockRow cell.val 0x115 .none w) s

/-- GA_NUMEQ (R136). -/
def execGaNumeq (cell : CellId) (w : TWord) (s : State) : Host.Outcome State Fault Refusal :=
  run (sockRow cell.val 0x117 .none w) s

/-- GA_EQ (R137). -/
def execGaEq (cell : CellId) (w : TWord) (s : State) : Host.Outcome State Fault Refusal :=
  run (sockRow cell.val 0x119 .none w) s

/-- GA_MIN (R136). -/
def execGaMin (cell : CellId) (w : TWord) (s : State) : Host.Outcome State Fault Refusal :=
  run (sockRow cell.val 0x11B .none w) s

/-- GA_MAX (R136). -/
def execGaMax (cell : CellId) (w : TWord) (s : State) : Host.Outcome State Fault Refusal :=
  run (sockRow cell.val 0x11D .none w) s

/-- GA_AND (R126). -/
def execGaAnd (cell : CellId) (w : TWord) (s : State) : Host.Outcome State Fault Refusal :=
  run (sockRow cell.val 0x11F .none w) s

/-- GA_OR (R126). -/
def execGaOr (cell : CellId) (w : TWord) (s : State) : Host.Outcome State Fault Refusal :=
  run (sockRow cell.val 0x121 .none w) s

/-- GA_XOR (R126). -/
def execGaXor (cell : CellId) (w : TWord) (s : State) : Host.Outcome State Fault Refusal :=
  run (sockRow cell.val 0x123 .none w) s

/-- GA_NOT (R126). -/
def execGaNot (cell : CellId) (w : TWord) (s : State) : Host.Outcome State Fault Refusal :=
  run (sockRow cell.val 0x125 .none w) s

/-- GA_SHL (R141). -/
def execGaShl (cell : CellId) (w : TWord) (s : State) : Host.Outcome State Fault Refusal :=
  run (sockRow cell.val 0x127 .none w) s

/-- GA_SHR (R142). -/
def execGaShr (cell : CellId) (w : TWord) (s : State) : Host.Outcome State Fault Refusal :=
  run (sockRow cell.val 0x129 .none w) s

/-- GA_SHRL (R142). -/
def execGaShrl (cell : CellId) (w : TWord) (s : State) : Host.Outcome State Fault Refusal :=
  run (sockRow cell.val 0x12B .none w) s

/-- GA_TOFIX (R131). -/
def execGaTofix (cell : CellId) (w : TWord) (s : State) : Host.Outcome State Fault Refusal :=
  run (sockRow cell.val 0x12D .none w) s

/-- GA_TOFIXQ (R132). -/
def execGaTofixq (cell : CellId) (w : TWord) (s : State) : Host.Outcome State Fault Refusal :=
  run (sockRow cell.val 0x12F .none w) s

/-- GA_TOFLO (R130). -/
def execGaToflo (cell : CellId) (w : TWord) (s : State) : Host.Outcome State Fault Refusal :=
  run (sockRow cell.val 0x131 .none w) s

/-- FX_ADD (R227). -/
def execFxAdd (cell : CellId) (w : TWord) (s : State) : Host.Outcome State Fault Refusal :=
  run (sockRow cell.val 0x201 .none w) s

/-- FX_SUB (R227). -/
def execFxSub (cell : CellId) (w : TWord) (s : State) : Host.Outcome State Fault Refusal :=
  run (sockRow cell.val 0x203 .none w) s

/-- FX_MUL (R227). -/
def execFxMul (cell : CellId) (w : TWord) (s : State) : Host.Outcome State Fault Refusal :=
  run (sockRow cell.val 0x205 .none w) s

/-- FX_DIV (R229). -/
def execFxDiv (cell : CellId) (w : TWord) (s : State) : Host.Outcome State Fault Refusal :=
  run (sockRow cell.val 0x207 .none w) s

/-- FX_SQRT (R227). -/
def execFxSqrt (cell : CellId) (w : TWord) (s : State) : Host.Outcome State Fault Refusal :=
  run (sockRow cell.val 0x209 .none w) s

/-- FX_FMA (R225). -/
def execFxFma (cell : CellId) (w : TWord) (s : State) : Host.Outcome State Fault Refusal :=
  run (sockRow cell.val 0x20C .none w) s

/-- FX_MIN (R225). -/
def execFxMin (cell : CellId) (w : TWord) (s : State) : Host.Outcome State Fault Refusal :=
  run (sockRow cell.val 0x20F .none w) s

/-- FX_MAX (R225). -/
def execFxMax (cell : CellId) (w : TWord) (s : State) : Host.Outcome State Fault Refusal :=
  run (sockRow cell.val 0x211 .none w) s

/-- FX_NEG (R228). -/
def execFxNeg (cell : CellId) (w : TWord) (s : State) : Host.Outcome State Fault Refusal :=
  run (sockRow cell.val 0x213 .none w) s

/-- FX_ABS (R228). -/
def execFxAbs (cell : CellId) (w : TWord) (s : State) : Host.Outcome State Fault Refusal :=
  run (sockRow cell.val 0x215 .none w) s

/-- FX_RINT (R225). -/
def execFxRint (cell : CellId) (w : TWord) (s : State) : Host.Outcome State Fault Refusal :=
  run (sockRow cell.val 0x217 .none w) s

/-- FX_TOFIX (R231). -/
def execFxTofix (cell : CellId) (w : TWord) (s : State) : Host.Outcome State Fault Refusal :=
  run (sockRow cell.val 0x219 .none w) s

/-- FX_FROMFIX (R225). -/
def execFxFromfix (cell : CellId) (w : TWord) (s : State) : Host.Outcome State Fault Refusal :=
  run (sockRow cell.val 0x21B .none w) s

/-- FX_LT (R230). -/
def execFxLt (cell : CellId) (w : TWord) (s : State) : Host.Outcome State Fault Refusal :=
  run (sockRow cell.val 0x21D .none w) s

/-- FX_LE (R230). -/
def execFxLe (cell : CellId) (w : TWord) (s : State) : Host.Outcome State Fault Refusal :=
  run (sockRow cell.val 0x21F .none w) s

/-- FX_EQ (R230). -/
def execFxEq (cell : CellId) (w : TWord) (s : State) : Host.Outcome State Fault Refusal :=
  run (sockRow cell.val 0x221 .none w) s

/-- FX_UN (R230). -/
def execFxUn (cell : CellId) (w : TWord) (s : State) : Host.Outcome State Fault Refusal :=
  run (sockRow cell.val 0x223 .none w) s

/-- TG_SETTAG (R235). -/
def execTgSettag (cell : CellId) (w : TWord) (s : State) : Host.Outcome State Fault Refusal :=
  run (sockRow cell.val 0x381 .none w) s

/-- TG_GETTAG (R233). -/
def execTgGettag (cell : CellId) (w : TWord) (s : State) : Host.Outcome State Fault Refusal :=
  run (sockRow cell.val 0x383 .none w) s

/-- TG_RAW (R233). -/
def execTgRaw (cell : CellId) (w : TWord) (s : State) : Host.Outcome State Fault Refusal :=
  run (sockRow cell.val 0x385 .none w) s

/-- TG_IS (R233). -/
def execTgIs (cell : CellId) (w : TWord) (s : State) : Host.Outcome State Fault Refusal :=
  run (sockRow cell.val 0x387 .none w) s

/-- TG_CLASS (R234). -/
def execTgClass (cell : CellId) (w : TWord) (s : State) : Host.Outcome State Fault Refusal :=
  run (sockRow cell.val 0x389 .none w) s

/-- TG_ISPTR (R233). -/
def execTgIsptr (cell : CellId) (w : TWord) (s : State) : Host.Outcome State Fault Refusal :=
  run (sockRow cell.val 0x38B .none w) s

end Sys2Proof.Machine
end

