-- ==== Sys2Proof/Machine/RowsCore.lean ====
section
/-!
DEFINITION. The meanings of the rows: Setup registers, the Weave, the trims and the timebase (00, 02).
-/
namespace Sys2Proof.Machine

/-- REGISTER_WRITE (R10). -/
def execRegisterWrite (req : Req) (off : Nat) (v : W32) (s : State) : Host.Outcome State Fault Refusal :=
  run (registerWrite req off v) s

/-- SNAPSHOT_READ_LO (R25). -/
def execSnapshotReadLo (req : Req) (off : Nat) (s : State) : Host.Outcome State Fault Refusal :=
  run (regRead req off) s

/-- WEAVE_PACKET (R65). -/
def execWeavePacket (src dst : Node) (vc : VC) (words : Nat) (taken : Bool)
    (s : State) : Host.Outcome State Fault Refusal :=
  run (weavePacket src.val dst.val vc words taken) s

/-- WEAVE_STALL (R74). -/
def execWeaveStall (node : Node) (port : Fin 5) (vc : VC) (s : State) : Host.Outcome State Fault Refusal :=
  run (weaveStall node.val port.val vc) s

/-- TRIM_DATA_WRITE (R85). -/
def execTrimDataWrite (req : Req) (code : BitVec 6) (s : State) : Host.Outcome State Fault Refusal :=
  run (trimDataWrite req code) s

/-- TRIM_SCRUB (R86). -/
def execTrimScrub (upsets : List (Nat × Trim)) (s : State) : Host.Outcome State Fault Refusal :=
  run (trimScrub upsets) s

/-- SYSPLL_LOCK (R78). -/
def execSyspllLock (s : State) : Host.Outcome State Fault Refusal := always pllLocks s

/-- TB_CHANGEOVER_TO_FAST (R93). -/
def execTbChangeoverToFast (s : State) : Host.Outcome State Fault Refusal := clocked tbToFast s

/-- TB_CHANGEOVER_TO_SLOW (R94). -/
def execTbChangeoverToSlow (s : State) : Host.Outcome State Fault Refusal := clocked tbToSlow s

/-- TB_RC_FALLBACK (R95). -/
def execTbRcFallback (s : State) : Host.Outcome State Fault Refusal := always tbFallback s

/-- TB_SOURCE_RESUME (R95). -/
def execTbSourceResume (s : State) : Host.Outcome State Fault Refusal := clocked tbResume s

/-- AON_POR (R90). -/
def execAonPor (s : State) : Host.Outcome State Fault Refusal := clocked aonPor s

/-- TIMEBASE_TICK (R91). -/
def execTimebaseTick (wake : BitVec 4) (s : State) : Host.Outcome State Fault Refusal := clocked (tick wake) s

end Sys2Proof.Machine
end

