-- ==== Sys2Proof/Machine/RowsFault.lean ====
section
/-!
DEFINITION. The meanings of the rows: The Warden, the Alarm board, the scrubbers and the memory controllers (19).
-/
namespace Sys2Proof.Machine

/-- WARDEN_LOCKSTEP_MISMATCH (R925). -/
def execWardenLockstepMismatch (s : State) : Host.Outcome State Fault Refusal := run lockstepMismatch s

/-- WDOG_KICK (R928). -/
def execWdogKick (req : Req) (v : BitVec 8) (s : State) : Host.Outcome State Fault Refusal :=
  run (wdogKick req v.toNat) s

/-- WARDEN_WDOG_EXPIRE (R928). -/
def execWardenWdogExpire (s : State) : Host.Outcome State Fault Refusal := run wdogExpire s

/-- ALM_SWRAISE (R948). -/
def execAlmSwraise (req : Req) (num : Fin 16) (s : State) : Host.Outcome State Fault Refusal :=
  run (swRaise req num.val) s

/-- ALM_PEND_CLEAR (R944). -/
def execAlmPendClear (req : Req) (word : Fin 4) (mask : W32) (s : State) : Host.Outcome State Fault Refusal :=
  run (pendClear req word.val mask) s

/-- WIT_STATUS_CLEAR (R967). -/
def execWitStatusClear (req : Req) (mask : W32) (s : State) : Host.Outcome State Fault Refusal :=
  run (registerWrite req 0x9010 mask) s

/-- LARDER_SCRUB (R952). -/
def execLarderScrub (upsets : List (Nat × Bool)) (s : State) : Host.Outcome State Fault Refusal :=
  run (larderScrub upsets) s

/-- DRAM_PATROL (R954). -/
def execDramPatrol (finds : List (Nat × Bool)) (s : State) : Host.Outcome State Fault Refusal :=
  run (dramPatrol finds) s

/-- CELL_RELEASE (R958). -/
def execCellRelease (req : Req) (c : Fin 256) (s : State) : Host.Outcome State Fault Refusal :=
  run (cellRelease req c.val) s

/-- CELL_SELF_TEST_DONE (R959). -/
def execCellSelfTestDone (pass : Bool) (s : State) : Host.Outcome State Fault Refusal := run (selfTestDone pass) s

/-- DDR_TRAIN (R935). -/
def execDdrTrain (req : Req) (s : State) : Host.Outcome State Fault Refusal := run (ddrTrain req) s

/-- DDR_TRAIN_DONE (R935). -/
def execDdrTrainDone (fail : Option (Fin 7 × Fin 2)) (s : State) : Host.Outcome State Fault Refusal :=
  run (ddrTrainDone (fail.map fun f => (f.1.val + 1, f.2.val))) s

/-- XSPI_ENABLE (R937). -/
def execXspiEnable (req : Req) (sfdp : Option (BitVec 16)) (s : State) : Host.Outcome State Fault Refusal :=
  run (xspEnable req (sfdp.map BitVec.toNat)) s

/-- XSPI_ERASE_4K (R937). -/
def execXspiErase4k (req : Req) (s : State) : Host.Outcome State Fault Refusal := run (xspStart req 1) s

/-- XSPI_ERASE_64K (R937). -/
def execXspiErase64k (req : Req) (s : State) : Host.Outcome State Fault Refusal := run (xspStart req 2) s

/-- XSPI_PROGRAM (R937). -/
def execXspiProgram (req : Req) (s : State) : Host.Outcome State Fault Refusal := run (xspStart req 3) s

/-- XSPI_CMD_DONE (R937). -/
def execXspiCmdDone (err : Bool) (left : List (BitVec 8)) (s : State) : Host.Outcome State Fault Refusal :=
  run (xspDone err left) s

end Sys2Proof.Machine
end

