-- ==== Sys2Proof/Machine/RowsHeap.lean ====
section
/-!
DEFINITION. The meanings of the rows: The control store, the heap, the Shepherd, the epochs and the Tally (08 to 11).
-/
namespace Sys2Proof.Machine

/-- MC_WRITE (R427). -/
def execMcWrite (req : Req) (s : State) : Host.Outcome State Fault Refusal := run (mcWrite req) s

/-- MC_READ (R429). -/
def execMcRead (req : Req) (grove : Grove) (s : State) : Host.Outcome State Fault Refusal :=
  run (mcRead req grove.val) s

/-- MC_PATCH (R430). -/
def execMcPatch (req : Req) (s : State) : Host.Outcome State Fault Refusal := run (mcPatch req) s

/-- MC_SCRUB (R390). -/
def execMcScrub (upsets : List (Fin 16 × Fin 4096 × Bool)) (s : State) : Host.Outcome State Fault Refusal :=
  run (mcScrub (upsets.map fun u => (u.1.val, u.2.1.val, u.2.2))) s

/-- MCABORT_RUNAWAY (R414). -/
def execMcabortRunaway (cell : CellId) (addr : Fin 4096) (s : State) : Host.Outcome State Fault Refusal :=
  run (mcRunaway cell.val addr.val) s

/-- SPN_LOCK (R668). -/
def execSpnLock (req : Req) (s : State) : Host.Outcome State Fault Refusal := run (spnLock req) s

/-- SLAB_REFILL (R447). -/
def execSlabRefill (s : State) : Host.Outcome State Fault Refusal := run slabRefill s

/-- LARGE_ALLOC (R450). -/
def execLargeAlloc (s : State) : Host.Outcome State Fault Refusal := run largeAlloc s

/-- HEAP_EXHAUSTED (R451). -/
def execHeapExhausted (s : State) : Host.Outcome State Fault Refusal := run heapExhausted s

/-- GC_START_CMD (R462). -/
def execGcStartCmd (req : Req) (s : State) : Host.Outcome State Fault Refusal := run (registerWrite req 0x4028 1#32) s

/-- GC_PERIOD_EXPIRE (R462). -/
def execGcPeriodExpire (s : State) : Host.Outcome State Fault Refusal := run gcPeriod s

/-- ROOT_SCAN_PAUSE (R465). -/
def execRootScanPause (cell : CellId) (s : State) : Host.Outcome State Fault Refusal := run (rootPause cell.val) s

/-- CONCURRENT_ROOT_SCAN (R468). -/
def execConcurrentRootScan (root : Root) (s : State) : Host.Outcome State Fault Refusal := run (rootScan root) s

/-- GLEANER_SCAN_OBJECT (R469). -/
def execGleanerScanObject (grove : Grove) (s : State) : Host.Outcome State Fault Refusal :=
  run (gleanerScan grove.val) s

/-- GREY_QUEUE_STEAL (R470). -/
def execGreyQueueSteal (grove : Grove) (s : State) : Host.Outcome State Fault Refusal := run (greySteal grove.val) s

/-- GC_MARK_TERMINATE (R471). -/
def execGcMarkTerminate (s : State) : Host.Outcome State Fault Refusal := run markEnd s

/-- GC_RELOCATE_OBJECT (R472). -/
def execGcRelocateObject (page : Nat) (s : State) : Host.Outcome State Fault Refusal := run (relocate page) s

/-- GC_SWEEP_PAGE (R473). -/
def execGcSweepPage (page : Nat) (s : State) : Host.Outcome State Fault Refusal := run (sweepPage page) s

/-- GC_SELECT (R474). -/
def execGcSelect (s : State) : Host.Outcome State Fault Refusal := run gcSelect s

/-- PIN_OBJECT (R446). -/
def execPinObject (req : Req) (s : State) : Host.Outcome State Fault Refusal := run (pinCmd req true false) s

/-- UNPIN_OBJECT (R446). -/
def execUnpinObject (req : Req) (s : State) : Host.Outcome State Fault Refusal := run (pinCmd req false true) s

/-- PAGE_IN_REQUEST (R477). -/
def execPageInRequest (grove : Grove) (page : Nat) (s : State) : Host.Outcome State Fault Refusal :=
  run (pageInRequest grove.val page) s

/-- PAGE_IN_COMPLETE (R480). -/
def execPageInComplete (f : Fin 4) (bad : Bool) (s : State) : Host.Outcome State Fault Refusal :=
  run (fun s => pageInComplete s.pageReady f.val bad s) s

/-- PAGE_WRITE_BACK (R479). -/
def execPageWriteBack (f : Fin 4) (s : State) : Host.Outcome State Fault Refusal := run (pageWriteBack f.val) s

/-- BIN_WAIT_TIMEOUT (R482). -/
def execBinWaitTimeout (cell : CellId) (s : State) : Host.Outcome State Fault Refusal := run (binTimeout cell.val) s

/-- FRY_PIN_WRITE (R481). -/
def execFryPinWrite (req : Req) (n : Fin 32) (v : W32) (s : State) : Host.Outcome State Fault Refusal :=
  run (fun s => (fryPinWrite req n.val v s).1) s

/-- SPRIG_PLACE (R512). -/
def execSprigPlace (grove : Grove) (s : State) : Host.Outcome State Fault Refusal := run (sprigPlace grove.val) s

/-- SPRIG_PREEMPT (R514). -/
def execSprigPreempt (grove : Grove) (s : State) : Host.Outcome State Fault Refusal := run (sprigPreempt grove.val) s

/-- SLICE_EXPIRE (R515). -/
def execSliceExpire (cell : CellId) (s : State) : Host.Outcome State Fault Refusal := run (sliceExpire cell.val) s

/-- SPRIG_STEAL (R517). -/
def execSprigSteal (grove : Grove) (s : State) : Host.Outcome State Fault Refusal := run (sprigSteal grove.val) s

/-- DEADLINE_MISS (R526). -/
def execDeadlineMiss (n : Fin 4096) (s : State) : Host.Outcome State Fault Refusal := run (deadlineMiss n.val) s

/-- APPLY_MARGIN_EXPIRE (R528). -/
def execApplyMarginExpire (ring : Fin 16) (out : Fin 2) (s : State) : Host.Outcome State Fault Refusal :=
  run (marginExpire ring.val out.val) s

/-- EPOCH_CONFIRM_INSTANT (R549). -/
def execEpochConfirmInstant (s : State) : Host.Outcome State Fault Refusal := run epochConfirm s

/-- LOG_WRITE_BACK (R554). -/
def execLogWriteBack (s : State) : Host.Outcome State Fault Refusal := run logWriteBack s

/-- EPOCH_SQUASH_COMPLETE (R560). -/
def execEpochSquashComplete (s : State) : Host.Outcome State Fault Refusal := run epochSquash s

/-- TALLY_REPORT (R581). -/
def execTallyReport (s : State) : Host.Outcome State Fault Refusal := run tallyReport s

/-- TALLY_AUDIT (R583). -/
def execTallyAudit (s : State) : Host.Outcome State Fault Refusal := run tallyAudit s

end Sys2Proof.Machine
end

