-- ==== Sys2Proof/Machine/RowsPicture.lean ====
section
/-!
DEFINITION. The meanings of the rows: The Painters, the Mirror, the lamps and the Witness (13, 14).
-/
namespace Sys2Proof.Machine

/-- PAINTER_TAKE_JOB (R671). -/
def execPainterTakeJob (port : Fin 16) (s : State) : Host.Outcome State Fault Refusal := run (takeJob port.val) s

/-- TILE_COMPLETE (R674). -/
def execTileComplete (painter : Fin 8) (s : State) : Host.Outcome State Fault Refusal :=
  run (tileComplete painter.val) s

/-- FRAME_LOCK (R687). -/
def execFrameLock (out : Fin 2) (s : State) : Host.Outcome State Fault Refusal := run (frameLock out.val) s

/-- SCANOUT_UNDERRUN (R692). -/
def execScanoutUnderrun (out : Fin 2) (col row : Fin 256) (s : State) : Host.Outcome State Fault Refusal :=
  run (underrun out.val col.val row.val) s

/-- OUTPUT_ENABLE (R699). -/
def execOutputEnable (req : Req) (out : Fin 2) (s : State) : Host.Outcome State Fault Refusal :=
  run (setBitsOf req (0x6000 + 0x100 * out.val) 1#32) s

/-- EDP_HPD_IRQ (R697). -/
def execEdpHpdIrq (level : Bool) (s : State) : Host.Outcome State Fault Refusal := run (hpdIrq level) s

/-- DCS_SEND (R701). -/
def execDcsSend (req : Req) (s : State) : Host.Outcome State Fault Refusal := run (setBitsOf req 0x6200 0x10000#32) s

/-- DCS_SENT (R701). -/
def execDcsSent (s : State) : Host.Outcome State Fault Refusal := run dcsSent s

/-- OUTPUT_LINKUP (R697). -/
def execOutputLinkup (out : Fin 2) (s : State) : Host.Outcome State Fault Refusal := run (outputLinkup out.val) s

/-- LAMP_STORE_WRITE (R709). -/
def execLampStoreWrite (req : Req) (v : W32) (s : State) : Host.Outcome State Fault Refusal :=
  run (lampStoreWrite req v) s

/-- LAMP_ARM (R713). -/
def execLampArm (req : Req) (s : State) : Host.Outcome State Fault Refusal := run (lampArm req) s

/-- LAMP_BOOK_CHECKS_DONE (R713). -/
def execLampBookChecksDone (s : State) : Host.Outcome State Fault Refusal := run bookChecksDone s

/-- LAMP_PASS (R720). -/
def execLampPass (s : State) : Host.Outcome State Fault Refusal := run lampPass s

/-- LAMP_MINON_EXPIRE (R721). -/
def execLampMinonExpire (lamp : Fin 64) (s : State) : Host.Outcome State Fault Refusal := run (minonExpire lamp.val) s

/-- BULB_CHECK_END (R724). -/
def execBulbCheckEnd (s : State) : Host.Outcome State Fault Refusal := run bulbEnd s

/-- LAMP_DEBOUNCE_EXPIRE (R717). -/
def execLampDebounceExpire (pin : Fin 32) (s : State) : Host.Outcome State Fault Refusal :=
  run (debounceExpire pin.val) s

/-- LAMP_UNLATCH (R722). -/
def execLampUnlatch (req : Req) (hi : Bool) (v : W32) (s : State) : Host.Outcome State Fault Refusal :=
  run (unlatchWrite req hi v) s

/-- CFLAG_SET (R718). -/
def execCflagSet (req : Req) (hi : Bool) (v : W32) (s : State) : Host.Outcome State Fault Refusal :=
  run (cflagWrite req true hi v) s

/-- CFLAG_CLR (R718). -/
def execCflagClr (req : Req) (hi : Bool) (v : W32) (s : State) : Host.Outcome State Fault Refusal :=
  run (cflagWrite req false hi v) s

/-- LAMP_BOX_START (R708). -/
def execLampBoxStart (lamp : Fin 64) (s : State) : Host.Outcome State Fault Refusal := run (boxStart lamp.val) s

/-- WITNESS_BOX_COMPARE (R728). -/
def execWitnessBoxCompare (lamp : Fin 64) (ua ub : W32) (s : State) : Host.Outcome State Fault Refusal :=
  run (boxCompare lamp.val ua ub) s

/-- LAMP_STALE (R729). -/
def execLampStale (lamp : Fin 64) (s : State) : Host.Outcome State Fault Refusal := run (lampStale lamp.val) s

/-- WITNESS_SELF_TEST (R732). -/
def execWitnessSelfTest (out : Fin 2) (ub : W32) (s : State) : Host.Outcome State Fault Refusal :=
  run (witSelfTest out.val ub) s

/-- PROOF_FRAME_PERIODIC (R736). -/
def execProofFramePeriodic (s : State) : Host.Outcome State Fault Refusal := run proofPeriodic s

/-- BACKUP_LED_UPDATE (R744). -/
def execBackupLedUpdate (s : State) : Host.Outcome State Fault Refusal := run ledUpdate s

/-- LED_TEST_PULSE (R745). -/
def execLedTestPulse (driver : Fin 16) (reaches : Bool) (volts : Nat)
    (s : State) : Host.Outcome State Fault Refusal :=
  run (ledCheck driver.val reaches volts) s

end Sys2Proof.Machine
end

