-- ==== Sys2Proof/Machine/RowsPorts.lean ====
section
/-!
DEFINITION. The meanings of the rows: The converters and the vehicle buses (15, 16).
-/
namespace Sys2Proof.Machine

/-- ADC_REF_READY (R753). -/
def execAdcRefReady (s : State) : Host.Outcome State Fault Refusal := run refReady s

/-- ADC_SWTRIG (R759). -/
def execAdcSwtrig (req : Req) (k : Fin 3) (s : State) : Host.Outcome State Fault Refusal :=
  run (registerWrite req (0xA104 + 0x100 * k.val) 1#32) s

/-- ADC_TRIG_EDGE (R760). -/
def execAdcTrigEdge (pin : Fin 4) (rising : Bool) (s : State) : Host.Outcome State Fault Refusal :=
  run (adcFire (1 + pin.val) (some rising)) s

/-- ADC_PERIOD_TRIGGER (R759). -/
def execAdcPeriodTrigger (k : Fin 3) (s : State) : Host.Outcome State Fault Refusal := run (periodTrigger k.val) s

/-- ADC_URGENT_GO (R763). -/
def execAdcUrgentGo (req : Req) (k : Fin 3) (slot : Fin 4) (s : State) : Host.Outcome State Fault Refusal :=
  run (setBitsOf req (0xA1C0 + 0x100 * k.val + 8 * slot.val) 0x10000#32) s

/-- ADC_CONVERSION_COMPLETE (R751). -/
def execAdcConversionComplete (k : Fin 3) (v : Int) (s : State) : Host.Outcome State Fault Refusal :=
  run (convComplete k.val v) s

/-- ADC_RECOVERY_END (R777). -/
def execAdcRecoveryEnd (k : Fin 3) (s : State) : Host.Outcome State Fault Refusal := run (recoveryEnd k.val) s

/-- ADC_COMPARATOR_STALE (R784). -/
def execAdcComparatorStale (c : Fin 48) (s : State) : Host.Outcome State Fault Refusal := run (compStale c.val) s

/-- ADC_FIFO_READ (R769). -/
def execAdcFifoRead (req : Req) (s : State) : Host.Outcome State Fault Refusal := run (fifoRead req) s

/-- ADC_DMA_TRANSFER (R772). -/
def execAdcDmaTransfer (s : State) : Host.Outcome State Fault Refusal := run adcDma s

/-- ADC_DISABLE (R787). -/
def execAdcDisable (req : Req) (k : Fin 3) (s : State) : Host.Outcome State Fault Refusal :=
  run (clearBitsOf req (0xA100 + 0x100 * k.val) 1#32) s

/-- VIO_TAKE_REQUEST (R792). -/
def execVioTakeRequest (port : Fin 12) (s : State) : Host.Outcome State Fault Refusal := run (vioTake port.val) s

/-- CAN_SEND (R803). -/
def execCanSend (ctrl : Fin 4) (s : State) : Host.Outcome State Fault Refusal := run (canSend ctrl.val) s

/-- LIN_FRAME (R812). -/
def execLinFrame (ctrl : Fin 2) (s : State) : Host.Outcome State Fault Refusal := run (linFrame ctrl.val) s

/-- LIN_WAKEUP (R794). -/
def execLinWakeup (ctrl : Fin 2) (s : State) : Host.Outcome State Fault Refusal := run (linWakeup ctrl.val) s

/-- GPIO_PINS (R794). -/
def execGpioPins (s : State) : Host.Outcome State Fault Refusal := run gpioPins s

/-- PWM_DUTY (R794). -/
def execPwmDuty (s : State) : Host.Outcome State Fault Refusal := run pwmDuty s

/-- I3C_XFER (R794). -/
def execI3cXfer (ctrl : Fin 2) (s : State) : Host.Outcome State Fault Refusal := run (i3cXfer ctrl.val) s

/-- SPI_XFER (R794). -/
def execSpiXfer (ctrl : Fin 2) (s : State) : Host.Outcome State Fault Refusal := run (spiXfer ctrl.val) s

/-- UART_SEND (R794). -/
def execUartSend (s : State) : Host.Outcome State Fault Refusal := run uartSend s

/-- VIO_REQUEST_COMPLETE (R795). -/
def execVioRequestComplete (port : Fin 12) (how : VioEnd) (data : List (BitVec 8))
    (s : State) : Host.Outcome State Fault Refusal :=
  run (vioComplete port.val how data) s

/-- CAN_TX_COMPLETE (R803). -/
def execCanTxComplete (ctrl : Fin 4) (s : State) : Host.Outcome State Fault Refusal := run (canTxComplete ctrl.val) s

/-- CAN_FRAME_RECEIVE (R806). -/
def execCanFrameReceive (ctrl : Fin 4) (f : CanFrame) (s : State) : Host.Outcome State Fault Refusal :=
  run (canReceive ctrl.val f) s

/-- CAN_ERROR_PASSIVE (R821). -/
def execCanErrorPassive (ctrl : Fin 4) (tec rec' : BitVec 8) (s : State) : Host.Outcome State Fault Refusal :=
  run (canErrors ctrl.val tec.toNat rec'.toNat) s

/-- LISTENER_TIMEOUT (R811). -/
def execListenerTimeout (slot : Fin 128) (s : State) : Host.Outcome State Fault Refusal :=
  run (listenerTimeout slot.val) s

/-- CAN_BUS_OFF (R805). -/
def execCanBusOff (ctrl : Fin 4) (s : State) : Host.Outcome State Fault Refusal := run (canBusOff ctrl.val) s

/-- CAN_RECOVER (R800). -/
def execCanRecover (req : Req) (ctrl : Fin 4) (s : State) : Host.Outcome State Fault Refusal :=
  run (setBitsOf req (0xB200 + 0x40 * ctrl.val) 0x10#32) s

/-- CAN_BUSOFF_RECOVERY (R800). -/
def execCanBusoffRecovery (ctrl : Fin 4) (s : State) : Host.Outcome State Fault Refusal :=
  run (canRecovered ctrl.val) s

/-- LIN_HEADER_RX (R812). -/
def execLinHeaderRx (ctrl : Fin 2) (id : Fin 64) (inSync : Bool) (seen : LinSeen)
    (s : State) : Host.Outcome State Fault Refusal :=
  run (linHeader ctrl.val id.val inSync seen) s

/-- LIN_RESPONSE_TIMEOUT (R813). -/
def execLinResponseTimeout (ctrl : Fin 2) (s : State) : Host.Outcome State Fault Refusal :=
  run (linTimeout ctrl.val) s

/-- LIN_WAKEUP_RX (R812). -/
def execLinWakeupRx (ctrl : Fin 2) (s : State) : Host.Outcome State Fault Refusal := run (linWakeRx ctrl.val) s

/-- GPIO_EDGE (R814). -/
def execGpioEdge (pin : Fin 32) (s : State) : Host.Outcome State Fault Refusal := run (gpioEdge pin.val) s

/-- GPIO_SET_WRITE (R814). -/
def execGpioSetWrite (req : Req) (v : W32) (s : State) : Host.Outcome State Fault Refusal :=
  run (registerWrite req 0xB388 v) s

/-- GPIO_CLR_WRITE (R814). -/
def execGpioClrWrite (req : Req) (v : W32) (s : State) : Host.Outcome State Fault Refusal :=
  run (registerWrite req 0xB38C v) s

/-- GPIO_LEVEL_CHANGE (R717). -/
def execGpioLevelChange (pin : Fin 32) (level : Bool) (s : State) : Host.Outcome State Fault Refusal :=
  always (gpioLevel pin.val level) s

/-- PWM_PERIOD_START (R815). -/
def execPwmPeriodStart (ch : Fin 8) (s : State) : Host.Outcome State Fault Refusal := run (pwmPeriod ch.val) s

/-- UART_RX_BYTE (R796). -/
def execUartRxByte (b : BitVec 8) (parity framing : Bool) (s : State) : Host.Outcome State Fault Refusal :=
  run (uartRx b parity framing) s

/-- UART_IDLE_CLOSE (R796). -/
def execUartIdleClose (s : State) : Host.Outcome State Fault Refusal := run uartIdleClose s

/-- I3C_IBI (R816). -/
def execI3cIbi (ctrl : Fin 2) (addr : BitVec 7) (s : State) : Host.Outcome State Fault Refusal :=
  run (i3cIbi ctrl.val addr.toNat) s

/-- I3C_DAA (R823). -/
def execI3cDaa (req : Req) (ctrl : Fin 2) (s : State) : Host.Outcome State Fault Refusal :=
  run (setBitsOf req (0xBA88 + 0x10 * ctrl.val) 1#32) s

/-- I3C_DAA_COMPLETE (R823). -/
def execI3cDaaComplete (ctrl : Fin 2) (n : Fin 32) (s : State) : Host.Outcome State Fault Refusal :=
  run (i3cDaaDone ctrl.val n.val) s

end Sys2Proof.Machine
end

