-- ==== Sys2Proof/Machine/RowsPower.lean ====
section
/-!
DEFINITION. The meanings of the rows: Supply, modes, the Gatekeeper and the stream (17, 18).
-/
namespace Sys2Proof.Machine

/-- WAKE_ACCEPT (R819). -/
def execWakeAccept (n : Fin 4) (s : State) : Host.Outcome State Fault Refusal := always (wakeAccept n.val) s

/-- PG_ALL_HIGH (R851). -/
def execPgAllHigh (s : State) : Host.Outcome State Fault Refusal := always pgAllHigh s

/-- PG_WAIT_TIMEOUT (R852). -/
def execPgWaitTimeout (s : State) : Host.Outcome State Fault Refusal := always pgTimeout s

/-- PG_FALL (R844). -/
def execPgFall (which : Fin 3) (s : State) : Host.Outcome State Fault Refusal := run (pgFall which.val) s

/-- PMIC_INT (R826). -/
def execPmicInt (low : Bool) (s : State) : Host.Outcome State Fault Refusal := always (pmicInt low) s

/-- PMIC_SCRIPT (R829). -/
def execPmicScript (nack : Option (Fin 8)) (s : State) : Host.Outcome State Fault Refusal :=
  run (pmicScript (nack.map Fin.val)) s

/-- SYS_RST (R828). -/
def execSysRst (s : State) : Host.Outcome State Fault Refusal := run sysRst s

/-- VCORE_VLOW (R835). -/
def execVcoreVlow (mv : Nat) (s : State) : Host.Outcome State Fault Refusal := run (vcoreVlow mv) s

/-- VCORE_FAIL (R836). -/
def execVcoreFail (s : State) : Host.Outcome State Fault Refusal := run (emergencyPark 2) s

/-- VCORE_OVER (R835). -/
def execVcoreOver (s : State) : Host.Outcome State Fault Refusal := run (emergencyPark 3) s

/-- VSRAM_FAIL (R835). -/
def execVsramFail (s : State) : Host.Outcome State Fault Refusal := run (emergencyPark 4) s

/-- VAON_POR (R846). -/
def execVaonPor (s : State) : Host.Outcome State Fault Refusal := clocked vaonPor s

/-- KL30_MICRO_EXPIRE (R838). -/
def execKl30MicroExpire (s : State) : Host.Outcome State Fault Refusal := run (klExpire 1) s

/-- KL30_OV_EXPIRE (R838). -/
def execKl30OvExpire (s : State) : Host.Outcome State Fault Refusal := run (klExpire 2) s

/-- SHED_RECOVER_EXPIRE (R840). -/
def execShedRecoverExpire (s : State) : Host.Outcome State Fault Refusal := run shedRecover s

/-- TEMP_SAMPLE (R859). -/
def execTempSample (t : Int) (s : State) : Host.Outcome State Fault Refusal := run (tempSample t) s

/-- MODECMD_PARK (R853). -/
def execModecmdPark (req : Req) (nack : Option (Fin 8)) (s : State) : Host.Outcome State Fault Refusal :=
  run (parkRequest req nack) s

/-- MODECMD_RESET (R858). -/
def execModecmdReset (req : Req) (s : State) : Host.Outcome State Fault Refusal :=
  run (registerWrite req 0xC000 2#32) s

/-- MODECMD_SAFFRON (R846). -/
def execModecmdSaffron (req : Req) (s : State) : Host.Outcome State Fault Refusal :=
  run (registerWrite req 0xC000 3#32) s

/-- MODECMD_IVORY (R966). -/
def execModecmdIvory (req : Req) (s : State) : Host.Outcome State Fault Refusal :=
  run (registerWrite req 0xC000 4#32) s

/-- MODECMD_COBALT (R846). -/
def execModecmdCobalt (req : Req) (s : State) : Host.Outcome State Fault Refusal :=
  run (registerWrite req 0xC000 7#32) s

/-- PARK_HOLD_END (R856). -/
def execParkHoldEnd (s : State) : Host.Outcome State Fault Refusal := always parkHoldEnd s

/-- GKP_DERIVE (R883). -/
def execGkpDerive (req : Req) (slot : Fin 8) (s : State) : Host.Outcome State Fault Refusal :=
  run (registerWrite req 0x1000 (BitVec.ofNat 32 (1 + 16 * slot.val))) s

/-- GKP_UNWRAP (R884). -/
def execGkpUnwrap (req : Req) (slot : Fin 8) (s : State) : Host.Outcome State Fault Refusal :=
  run (registerWrite req 0x1000 (BitVec.ofNat 32 (2 + 16 * slot.val))) s

/-- GKP_ERASE (R887). -/
def execGkpErase (req : Req) (slot : Fin 8) (s : State) : Host.Outcome State Fault Refusal :=
  run (registerWrite req 0x1000 (BitVec.ofNat 32 (3 + 16 * slot.val))) s

/-- GKP_LOADPUB (R885). -/
def execGkpLoadpub (req : Req) (slot : Fin 8) (s : State) : Host.Outcome State Fault Refusal :=
  run (registerWrite req 0x1000 (BitVec.ofNat 32 (4 + 16 * slot.val))) s

/-- GKP_HMAC (R890). -/
def execGkpHmac (req : Req) (slot : Fin 8) (s : State) : Host.Outcome State Fault Refusal :=
  run (registerWrite req 0x1000 (BitVec.ofNat 32 (5 + 16 * slot.val))) s

/-- GKP_HMACV (R890). -/
def execGkpHmacv (req : Req) (slot : Fin 8) (s : State) : Host.Outcome State Fault Refusal :=
  run (registerWrite req 0x1000 (BitVec.ofNat 32 (6 + 16 * slot.val))) s

/-- GKP_CMAC (R890). -/
def execGkpCmac (req : Req) (slot : Fin 8) (s : State) : Host.Outcome State Fault Refusal :=
  run (registerWrite req 0x1000 (BitVec.ofNat 32 (7 + 16 * slot.val))) s

/-- GKP_SHA (R890). -/
def execGkpSha (req : Req) (slot : Fin 8) (s : State) : Host.Outcome State Fault Refusal :=
  run (registerWrite req 0x1000 (BitVec.ofNat 32 (8 + 16 * slot.val))) s

/-- GKP_ECDSAV (R890). -/
def execGkpEcdsav (req : Req) (slot : Fin 8) (s : State) : Host.Outcome State Fault Refusal :=
  run (registerWrite req 0x1000 (BitVec.ofNat 32 (9 + 16 * slot.val))) s

/-- GKP_EXTEND (R892). -/
def execGkpExtend (req : Req) (slot : Fin 8) (s : State) : Host.Outcome State Fault Refusal :=
  run (registerWrite req 0x1000 (BitVec.ofNat 32 (10 + 16 * slot.val))) s

/-- GKP_QUOTE (R894). -/
def execGkpQuote (req : Req) (slot : Fin 8) (s : State) : Host.Outcome State Fault Refusal :=
  run (registerWrite req 0x1000 (BitVec.ofNat 32 (11 + 16 * slot.val))) s

/-- GKP_INSTALL (R915). -/
def execGkpInstall (req : Req) (slot : Fin 8) (s : State) : Host.Outcome State Fault Refusal :=
  run (registerWrite req 0x1000 (BitVec.ofNat 32 (12 + 16 * slot.val))) s

/-- GKP_RBOOT (R922). -/
def execGkpRboot (req : Req) (slot : Fin 8) (s : State) : Host.Outcome State Fault Refusal :=
  run (registerWrite req 0x1000 (BitVec.ofNat 32 (13 + 16 * slot.val))) s

/-- GKP_SVNUP (R917). -/
def execGkpSvnup (req : Req) (slot : Fin 8) (s : State) : Host.Outcome State Fault Refusal :=
  run (registerWrite req 0x1000 (BitVec.ofNat 32 (14 + 16 * slot.val))) s

/-- GKP_OP_COMPLETE (R891). -/
def execGkpOpComplete (flashOk : Bool) (s : State) : Host.Outcome State Fault Refusal := run (gkpComplete flashOk) s

/-- GKP_ZEROIZE (R888). -/
def execGkpZeroize (req : Req) (s : State) : Host.Outcome State Fault Refusal := run (registerWrite req 0x1068 1#32) s

/-- TAMPER_DETECT (R888). -/
def execTamperDetect (s : State) : Host.Outcome State Fault Refusal := run zeroize s

/-- STREAM_START (R896). -/
def execStreamStart (req : Req) (s : State) : Host.Outcome State Fault Refusal := run (setBitsOf req 0x1400 1#32) s

/-- STREAM_SECTION_DONE (R896). -/
def execStreamSectionDone (s : State) : Host.Outcome State Fault Refusal := run streamSection s

/-- STREAM_PAGE_WRITTEN (R897). -/
def execStreamPageWritten (s : State) : Host.Outcome State Fault Refusal := run streamPage s

/-- TRIAL_WATCHDOG_EXPIRE (R910). -/
def execTrialWatchdogExpire (s : State) : Host.Outcome State Fault Refusal := run trialExpire s

end Sys2Proof.Machine
end

