-- ==== Sys2Proof/Machine/RowsRing.lean ====
section
/-!
DEFINITION. The meanings of the rows: The Evoser endpoint (12).
-/
namespace Sys2Proof.Machine

/-- PCIE_LINK_UP (R599). -/
def execPcieLinkUp (s : State) : Host.Outcome State Fault Refusal := run pcieLinkUp s

/-- PCIE_LINK_DOWN (R947). -/
def execPcieLinkDown (s : State) : Host.Outcome State Fault Refusal := run pcieLinkDown s

/-- PCIE_RESET (R652). -/
def execPcieReset (s : State) : Host.Outcome State Fault Refusal := run pcieReset s

/-- CMD_PI_DOORBELL (R610). -/
def execCmdPiDoorbell (ring : Fin 16) (v : BitVec 16) (aci : Option (BitVec 16)) (host : List (Nat × BitVec 8))
    (s : State) : Host.Outcome State Fault Refusal :=
  run (piDoorbell ring.val v aci host) s

/-- ANS_CI_DOORBELL (R603). -/
def execAnsCiDoorbell (ring : Fin 16) (v : BitVec 16) (s : State) : Host.Outcome State Fault Refusal :=
  run (ansCi ring.val v.toNat) s

/-- EVT_CI_DOORBELL (R603). -/
def execEvtCiDoorbell (v : BitVec 16) (s : State) : Host.Outcome State Fault Refusal := run (entryCi false v.toNat) s

/-- LOG_CI_DOORBELL (R603). -/
def execLogCiDoorbell (v : BitVec 16) (s : State) : Host.Outcome State Fault Refusal := run (entryCi true v.toNat) s

/-- DESCRIPTOR_CONSUME (R611). -/
def execDescriptorConsume (ring : Fin 16) (err : Bool) (s : State) : Host.Outcome State Fault Refusal :=
  run (descriptorConsume ring.val err) s

/-- NOP (R622). -/
def execNop (ring : Fin 16) (s : State) : Host.Outcome State Fault Refusal := run (cmdNop ring.val) s

/-- SIGNALS (R625). -/
def execSignals (ring : Fin 16) (s : State) : Host.Outcome State Fault Refusal := run (cmdSignals ring.val) s

/-- SCENE (R629). -/
def execScene (ring : Fin 16) (err : Bool) (s : State) : Host.Outcome State Fault Refusal :=
  run (cmdScene ring.val err) s

/-- SCENE_HANDOFF (R632). -/
def execSceneHandoff (ring : Fin 16) (s : State) : Host.Outcome State Fault Refusal := run (sceneHandoff ring.val) s

/-- INBOX_ANSWER (R633). -/
def execInboxAnswer (record : Fin 256) (s : State) : Host.Outcome State Fault Refusal :=
  run (inboxAnswer record.val) s

/-- PICTURE (R636). -/
def execPicture (ring : Fin 16) (err : Bool) (s : State) : Host.Outcome State Fault Refusal :=
  run (cmdPicture ring.val err) s

/-- PICTURE_COPY_COMPLETE (R693). -/
def execPictureCopyComplete (ring : Fin 16) (s : State) : Host.Outcome State Fault Refusal :=
  run (pictureComplete ring.val) s

/-- LAMPREQ (R627). -/
def execLampreq (ring : Fin 16) (s : State) : Host.Outcome State Fault Refusal := run (cmdLampreq ring.val) s

/-- STAGE (R637). -/
def execStage (ring : Fin 16) (s : State) : Host.Outcome State Fault Refusal := run (cmdStage ring.val) s

/-- APPLY (R639). -/
def execApply (ring : Fin 16) (s : State) : Host.Outcome State Fault Refusal := run (cmdApply ring.val) s

/-- IMAGE (R644). -/
def execImage (ring : Fin 16) (s : State) : Host.Outcome State Fault Refusal := run (cmdImage ring.val) s

/-- CONFIRM (R645). -/
def execConfirm (ring : Fin 16) (s : State) : Host.Outcome State Fault Refusal := run (cmdConfirm ring.val) s

/-- QUERY (R646). -/
def execQuery (ring : Fin 16) (s : State) : Host.Outcome State Fault Refusal := run (cmdQuery ring.val) s

/-- PROOF (R647). -/
def execProof (ring : Fin 16) (s : State) : Host.Outcome State Fault Refusal := run (cmdProof ring.val) s

/-- DRAINLOG (R624). -/
def execDrainlog (ring : Fin 16) (s : State) : Host.Outcome State Fault Refusal := run (cmdDrainlog ring.val) s

/-- FENCE (R623). -/
def execFence (ring : Fin 16) (s : State) : Host.Outcome State Fault Refusal := run (cmdFence ring.val) s

/-- RING_ENABLE (R650). -/
def execRingEnable (req : Req) (ring : Fin 16) (k : Fin 32) (s : State) : Host.Outcome State Fault Refusal :=
  run (registerWrite req (0x2110 + 0x20 * ring.val) (BitVec.ofNat 32 (1 + 16 * k.val))) s

/-- RING_DRAIN (R651). -/
def execRingDrain (req : Req) (ring : Fin 16) (s : State) : Host.Outcome State Fault Refusal :=
  run (clearBitsOf req (0x2110 + 0x20 * ring.val) 1#32) s

/-- RING_DRAIN_COMPLETE (R651). -/
def execRingDrainComplete (ring : Fin 16) (s : State) : Host.Outcome State Fault Refusal :=
  run (ringDrained ring.val) s

end Sys2Proof.Machine
end

