-- ==== Sys2Proof/Machine/RowsUnit.lean ====
section
/-!
DEFINITION. The meanings of the rows: Loads, stores, control flow, events and supervisor sockets (04 to 07).
-/
namespace Sys2Proof.Machine

/-- LX_CAR (R236). -/
def execLxCar (cell : CellId) (w : TWord) (s : State) : Host.Outcome State Fault Refusal :=
  run (sockRow cell.val 0x281 .none w) s

/-- LX_CDR (R236). -/
def execLxCdr (cell : CellId) (w : TWord) (s : State) : Host.Outcome State Fault Refusal :=
  run (sockRow cell.val 0x283 .none w) s

/-- LX_REF (R236). -/
def execLxRef (cell : CellId) (w : TWord) (s : State) : Host.Outcome State Fault Refusal :=
  run (sockRow cell.val 0x285 .none w) s

/-- LX_LEN (R236). -/
def execLxLen (cell : CellId) (w : TWord) (s : State) : Host.Outcome State Fault Refusal :=
  run (sockRow cell.val 0x287 .none w) s

/-- LX_UNBOX (R236). -/
def execLxUnbox (cell : CellId) (w : TWord) (s : State) : Host.Outcome State Fault Refusal :=
  run (sockRow cell.val 0x289 .none w) s

/-- LX_CODE (R249). -/
def execLxCode (cell : CellId) (w : TWord) (s : State) : Host.Outcome State Fault Refusal :=
  run (sockRow cell.val 0x28B .none w) s

/-- LX_SETCAR (R236). -/
def execLxSetcar (cell : CellId) (w : TWord) (s : State) : Host.Outcome State Fault Refusal :=
  run (sockRow cell.val 0x291 .none w) s

/-- LX_SETCDR (R236). -/
def execLxSetcdr (cell : CellId) (w : TWord) (s : State) : Host.Outcome State Fault Refusal :=
  run (sockRow cell.val 0x293 .none w) s

/-- LX_SET (R236). -/
def execLxSet (cell : CellId) (w : TWord) (s : State) : Host.Outcome State Fault Refusal :=
  run (sockRow cell.val 0x296 .none w) s

/-- LX_SETBOX (R236). -/
def execLxSetbox (cell : CellId) (w : TWord) (s : State) : Host.Outcome State Fault Refusal :=
  run (sockRow cell.val 0x298 .none w) s

/-- LX_CONS (R420). -/
def execLxCons (cell : CellId) (w : TWord) (s : State) : Host.Outcome State Fault Refusal :=
  run (sockRow cell.val 0x2A1 .none w) s

/-- LX_MKVEC (R420). -/
def execLxMkvec (cell : CellId) (w : TWord) (s : State) : Host.Outcome State Fault Refusal :=
  run (sockRow cell.val 0x2A3 .none w) s

/-- LX_MKSTR (R420). -/
def execLxMkstr (cell : CellId) (w : TWord) (s : State) : Host.Outcome State Fault Refusal :=
  run (sockRow cell.val 0x2A5 .none w) s

/-- LX_MKBOX (R420). -/
def execLxMkbox (cell : CellId) (w : TWord) (s : State) : Host.Outcome State Fault Refusal :=
  run (sockRow cell.val 0x2A7 .none w) s

/-- LX_MKCLO (R420). -/
def execLxMkclo (cell : CellId) (w : TWord) (s : State) : Host.Outcome State Fault Refusal :=
  run (sockRow cell.val 0x2A9 .none w) s

/-- MX_LD (R243). -/
def execMxLd (cell : CellId) (w : TWord) (s : State) : Host.Outcome State Fault Refusal :=
  run (sockRow cell.val 0x301 .none w) s

/-- MX_ST (R243). -/
def execMxSt (cell : CellId) (w : TWord) (s : State) : Host.Outcome State Fault Refusal :=
  run (sockRow cell.val 0x304 .none w) s

/-- MX_CAS (R244). -/
def execMxCas (cell : CellId) (w : TWord) (s : State) : Host.Outcome State Fault Refusal :=
  run (sockRow cell.val 0x308 .none w) s

/-- MX_FENCE (R184). -/
def execMxFence (cell : CellId) (w : TWord) (s : State) : Host.Outcome State Fault Refusal :=
  run (sockRow cell.val 0x30A .none w) s

/-- MX_CODEST (R206). -/
def execMxCodest (cell : CellId) (w : TWord) (s : State) : Host.Outcome State Fault Refusal :=
  run (sockRow cell.val 0x311 .none w) s

/-- MX_CODELD (R207). -/
def execMxCodeld (cell : CellId) (w : TWord) (s : State) : Host.Outcome State Fault Refusal :=
  run (sockRow cell.val 0x313 .none w) s

/-- MX_SAVE (R306). -/
def execMxSave (cell : CellId) (w : TWord) (s : State) : Host.Outcome State Fault Refusal :=
  run (sockRow cell.val 0x319 .none w) s

/-- MX_REST (R307). -/
def execMxRest (cell : CellId) (w : TWord) (s : State) : Host.Outcome State Fault Refusal :=
  run (sockRow cell.val 0x31B .none w) s

/-- STORE_PERFORM (R181). -/
def execStorePerform (cell : CellId) (k : Fin 16) (s : State) : Host.Outcome State Fault Refusal :=
  run (storePerform cell.val k.val) s

/-- LATEBUS_FAIL (R352). -/
def execLatebusFail (cell : CellId) (k : Fin 16) (s : State) : Host.Outcome State Fault Refusal :=
  run (latebusFail cell.val k.val) s

/-- BR_JMP (R248). -/
def execBrJmp (cell : CellId) (w : TWord) (s : State) : Host.Outcome State Fault Refusal :=
  run (sockRow cell.val 0x3C0 .none w) s

/-- BR_CALL (R279). -/
def execBrCall (cell : CellId) (w : TWord) (s : State) : Host.Outcome State Fault Refusal :=
  run (sockRow cell.val 0x3C1 .none w) s

/-- BR_RET (R281). -/
def execBrRet (cell : CellId) (w : TWord) (s : State) : Host.Outcome State Fault Refusal :=
  run (sockRow cell.val 0x3C2 .none w) s

/-- BR_TRET (R283). -/
def execBrTret (cell : CellId) (w : TWord) (s : State) : Host.Outcome State Fault Refusal :=
  run (sockRow cell.val 0x3C3 .none w) s

/-- BR_ENTER (R382). -/
def execBrEnter (cell : CellId) (w : TWord) (s : State) : Host.Outcome State Fault Refusal :=
  run (sockRow cell.val 0x3C4 .none w) s

/-- BR_RESYNC (R211). -/
def execBrResync (cell : CellId) (w : TWord) (s : State) : Host.Outcome State Fault Refusal :=
  run (sockRow cell.val 0x3C5 .none w) s

/-- BR_SPAWN (R502). -/
def execBrSpawn (cell : CellId) (w : TWord) (s : State) : Host.Outcome State Fault Refusal :=
  run (sockRow cell.val 0x3CA .none w) s

/-- BR_CANCEL (R503). -/
def execBrCancel (cell : CellId) (w : TWord) (s : State) : Host.Outcome State Fault Refusal :=
  run (sockRow cell.val 0x3CB .none w) s

/-- BR_YIELD (R516). -/
def execBrYield (cell : CellId) (w : TWord) (s : State) : Host.Outcome State Fault Refusal :=
  run (sockRow cell.val 0x3CC .none w) s

/-- BR_EXIT (R501). -/
def execBrExit (cell : CellId) (w : TWord) (s : State) : Host.Outcome State Fault Refusal :=
  run (sockRow cell.val 0x3CD .none w) s

/-- BR_SPECULATE (R531). -/
def execBrSpeculate (cell : CellId) (w : TWord) (s : State) : Host.Outcome State Fault Refusal :=
  run (sockRow cell.val 0x3D0 .none w) s

/-- BR_ECONFIRM (R549). -/
def execBrEconfirm (cell : CellId) (w : TWord) (s : State) : Host.Outcome State Fault Refusal :=
  run (sockRow cell.val 0x3D1 .none w) s

/-- BR_ESQUASH (R556). -/
def execBrEsquash (cell : CellId) (w : TWord) (s : State) : Host.Outcome State Fault Refusal :=
  run (sockRow cell.val 0x3D2 .none w) s

/-- EV_WAIT (R262). -/
def execEvWait (cell : CellId) (w : TWord) (s : State) : Host.Outcome State Fault Refusal :=
  run (sockRow cell.val 0x400 .none w) s

/-- EV_UNTIL (R263). -/
def execEvUntil (cell : CellId) (w : TWord) (s : State) : Host.Outcome State Fault Refusal :=
  run (sockRow cell.val 0x402 .none w) s

/-- EV_SEND (R267). -/
def execEvSend (cell : CellId) (w : TWord) (s : State) : Host.Outcome State Fault Refusal :=
  run (sockRow cell.val 0x404 .none w) s

/-- EV_CLR (R261). -/
def execEvClr (cell : CellId) (w : TWord) (s : State) : Host.Outcome State Fault Refusal :=
  run (sockRow cell.val 0x405 .none w) s

/-- WAIT_WAKE (R265). -/
def execWaitWake (w : Waiter) (s : State) : Host.Outcome State Fault Refusal := run (endWait false w) s

/-- UNTIL_STAMP_REACHED (R263). -/
def execUntilStampReached (w : Waiter) (s : State) : Host.Outcome State Fault Refusal := run (endWait true w) s

/-- EVTO (R266). -/
def execEvto (cell : CellId) (s : State) : Host.Outcome State Fault Refusal := run (evto cell.val) s

/-- RESYNC_EVENT (R211). -/
def execResyncEvent (cell : CellId) (s : State) : Host.Outcome State Fault Refusal := run (resyncEvent cell.val) s

/-- SY_CPSET (R208). -/
def execSyCpset (cell : CellId) (w : TWord) (s : State) : Host.Outcome State Fault Refusal :=
  run (sockRow cell.val 0x611 .none w) s

/-- CPSET_PATCH_COMPLETE (R209). -/
def execCpsetPatchComplete (page : Nat) (s : State) : Host.Outcome State Fault Refusal := run (patchComplete page) s

/-- SY_HOLD (R361). -/
def execSyHold (cell : CellId) (w : TWord) (s : State) : Host.Outcome State Fault Refusal :=
  run (sockRow cell.val 0x618 .none w) s

/-- HOLD_MOVE_BOUND (R363). -/
def execHoldMoveBound (cell : CellId) (s : State) : Host.Outcome State Fault Refusal := run (holdBound 0 cell.val) s

/-- HOLD_TIME_BOUND (R363). -/
def execHoldTimeBound (cell : CellId) (s : State) : Host.Outcome State Fault Refusal := run (holdBound 1 cell.val) s

/-- SY_RETI (R347). -/
def execSyReti (cell : CellId) (w : TWord) (s : State) : Host.Outcome State Fault Refusal :=
  run (sockRow cell.val 0x619 .none w) s

/-- SY_CONFIRM (R911). -/
def execSyConfirm (cell : CellId) (w : TWord) (s : State) : Host.Outcome State Fault Refusal :=
  run (sockRow cell.val 0x650 .none w) s

/-- SY_SYSLD (R932). -/
def execSySysld (cell : CellId) (w : TWord) (ecc : Ecc) (s : State) : Host.Outcome State Fault Refusal :=
  run (sysldRow cell.val ecc w) s

/-- SY_SYSST4 (R932). -/
def execSySysst4 (cell : CellId) (w : TWord) (s : State) : Host.Outcome State Fault Refusal :=
  run (sockRow cell.val 0x703 .none w) s

/-- SY_SYSST8 (R932). -/
def execSySysst8 (cell : CellId) (w : TWord) (s : State) : Host.Outcome State Fault Refusal :=
  run (sockRow cell.val 0x704 .none w) s

/-- IRQ_ARRIVE (R371). -/
def execIrqArrive (cell : CellId) (s : State) : Host.Outcome State Fault Refusal := run (irqDeliver cell.val) s

/-- INTERRUPT_ENTRY (R341). -/
def execInterruptEntry (cell : CellId) (s : State) : Host.Outcome State Fault Refusal :=
  run (interruptEntry cell.val) s

/-- NMI_PIN_EDGE (R375). -/
def execNmiPinEdge (s : State) : Host.Outcome State Fault Refusal := run (fun s => s.nmiAll true 0) s

/-- IRQ_RAISE_WRITE (R374). -/
def execIrqRaiseWrite (req : Req) (num : Fin 8) (payload : BitVec 24)
    (s : State) : Host.Outcome State Fault Refusal :=
  run (irqRaise req num.val payload.toNat) s

end Sys2Proof.Machine
end

