-- ==== Sys2Proof/Machine/Dispatch.lean ====
section
/-!
DEFINITION. One arm for each command: a direct call of its meaning.
-/
namespace Sys2Proof.Machine

open Host

def exec (i : Instr) (s : State) : Host.Outcome State Fault Refusal :=
  match i with
  | .registerWrite req off v => Sys2Proof.Machine.execRegisterWrite req off v s
  | .snapshotReadLo req off => Sys2Proof.Machine.execSnapshotReadLo req off s
  | .weavePacket src dst vc words taken => Sys2Proof.Machine.execWeavePacket src dst vc words taken s
  | .weaveStall node port vc => Sys2Proof.Machine.execWeaveStall node port vc s
  | .trimDataWrite req code => Sys2Proof.Machine.execTrimDataWrite req code s
  | .trimScrub upsets => Sys2Proof.Machine.execTrimScrub upsets s
  | .syspllLock => Sys2Proof.Machine.execSyspllLock s
  | .tbChangeoverToFast => Sys2Proof.Machine.execTbChangeoverToFast s
  | .tbChangeoverToSlow => Sys2Proof.Machine.execTbChangeoverToSlow s
  | .tbRcFallback => Sys2Proof.Machine.execTbRcFallback s
  | .tbSourceResume => Sys2Proof.Machine.execTbSourceResume s
  | .aonPor => Sys2Proof.Machine.execAonPor s
  | .move cell ecc => Sys2Proof.Machine.execMove cell ecc s
  | .syStWrite cell w => Sys2Proof.Machine.execSyStWrite cell w s
  | .guardResolve cell => Sys2Proof.Machine.execGuardResolve cell s
  | .arithOpComplete cell fx => Sys2Proof.Machine.execArithOpComplete cell fx s
  | .gaAdd cell w => Sys2Proof.Machine.execGaAdd cell w s
  | .gaSub cell w => Sys2Proof.Machine.execGaSub cell w s
  | .gaMul cell w => Sys2Proof.Machine.execGaMul cell w s
  | .gaDiv cell w => Sys2Proof.Machine.execGaDiv cell w s
  | .gaRem cell w => Sys2Proof.Machine.execGaRem cell w s
  | .gaNeg cell w => Sys2Proof.Machine.execGaNeg cell w s
  | .gaAbs cell w => Sys2Proof.Machine.execGaAbs cell w s
  | .gaLt cell w => Sys2Proof.Machine.execGaLt cell w s
  | .gaLe cell w => Sys2Proof.Machine.execGaLe cell w s
  | .gaGt cell w => Sys2Proof.Machine.execGaGt cell w s
  | .gaGe cell w => Sys2Proof.Machine.execGaGe cell w s
  | .gaNumeq cell w => Sys2Proof.Machine.execGaNumeq cell w s
  | .gaEq cell w => Sys2Proof.Machine.execGaEq cell w s
  | .gaMin cell w => Sys2Proof.Machine.execGaMin cell w s
  | .gaMax cell w => Sys2Proof.Machine.execGaMax cell w s
  | .gaAnd cell w => Sys2Proof.Machine.execGaAnd cell w s
  | .gaOr cell w => Sys2Proof.Machine.execGaOr cell w s
  | .gaXor cell w => Sys2Proof.Machine.execGaXor cell w s
  | .gaNot cell w => Sys2Proof.Machine.execGaNot cell w s
  | .gaShl cell w => Sys2Proof.Machine.execGaShl cell w s
  | .gaShr cell w => Sys2Proof.Machine.execGaShr cell w s
  | .gaShrl cell w => Sys2Proof.Machine.execGaShrl cell w s
  | .gaTofix cell w => Sys2Proof.Machine.execGaTofix cell w s
  | .gaTofixq cell w => Sys2Proof.Machine.execGaTofixq cell w s
  | .gaToflo cell w => Sys2Proof.Machine.execGaToflo cell w s
  | .fxAdd cell w => Sys2Proof.Machine.execFxAdd cell w s
  | .fxSub cell w => Sys2Proof.Machine.execFxSub cell w s
  | .fxMul cell w => Sys2Proof.Machine.execFxMul cell w s
  | .fxDiv cell w => Sys2Proof.Machine.execFxDiv cell w s
  | .fxSqrt cell w => Sys2Proof.Machine.execFxSqrt cell w s
  | .fxFma cell w => Sys2Proof.Machine.execFxFma cell w s
  | .fxMin cell w => Sys2Proof.Machine.execFxMin cell w s
  | .fxMax cell w => Sys2Proof.Machine.execFxMax cell w s
  | .fxNeg cell w => Sys2Proof.Machine.execFxNeg cell w s
  | .fxAbs cell w => Sys2Proof.Machine.execFxAbs cell w s
  | .fxRint cell w => Sys2Proof.Machine.execFxRint cell w s
  | .fxTofix cell w => Sys2Proof.Machine.execFxTofix cell w s
  | .fxFromfix cell w => Sys2Proof.Machine.execFxFromfix cell w s
  | .fxLt cell w => Sys2Proof.Machine.execFxLt cell w s
  | .fxLe cell w => Sys2Proof.Machine.execFxLe cell w s
  | .fxEq cell w => Sys2Proof.Machine.execFxEq cell w s
  | .fxUn cell w => Sys2Proof.Machine.execFxUn cell w s
  | .tgSettag cell w => Sys2Proof.Machine.execTgSettag cell w s
  | .tgGettag cell w => Sys2Proof.Machine.execTgGettag cell w s
  | .tgRaw cell w => Sys2Proof.Machine.execTgRaw cell w s
  | .tgIs cell w => Sys2Proof.Machine.execTgIs cell w s
  | .tgClass cell w => Sys2Proof.Machine.execTgClass cell w s
  | .tgIsptr cell w => Sys2Proof.Machine.execTgIsptr cell w s
  | .lxCar cell w => Sys2Proof.Machine.execLxCar cell w s
  | .lxCdr cell w => Sys2Proof.Machine.execLxCdr cell w s
  | .lxRef cell w => Sys2Proof.Machine.execLxRef cell w s
  | .lxLen cell w => Sys2Proof.Machine.execLxLen cell w s
  | .lxUnbox cell w => Sys2Proof.Machine.execLxUnbox cell w s
  | .lxCode cell w => Sys2Proof.Machine.execLxCode cell w s
  | .lxSetcar cell w => Sys2Proof.Machine.execLxSetcar cell w s
  | .lxSetcdr cell w => Sys2Proof.Machine.execLxSetcdr cell w s
  | .lxSet cell w => Sys2Proof.Machine.execLxSet cell w s
  | .lxSetbox cell w => Sys2Proof.Machine.execLxSetbox cell w s
  | .lxCons cell w => Sys2Proof.Machine.execLxCons cell w s
  | .lxMkvec cell w => Sys2Proof.Machine.execLxMkvec cell w s
  | .lxMkstr cell w => Sys2Proof.Machine.execLxMkstr cell w s
  | .lxMkbox cell w => Sys2Proof.Machine.execLxMkbox cell w s
  | .lxMkclo cell w => Sys2Proof.Machine.execLxMkclo cell w s
  | .mxLd cell w => Sys2Proof.Machine.execMxLd cell w s
  | .mxSt cell w => Sys2Proof.Machine.execMxSt cell w s
  | .mxCas cell w => Sys2Proof.Machine.execMxCas cell w s
  | .mxFence cell w => Sys2Proof.Machine.execMxFence cell w s
  | .mxCodest cell w => Sys2Proof.Machine.execMxCodest cell w s
  | .mxCodeld cell w => Sys2Proof.Machine.execMxCodeld cell w s
  | .mxSave cell w => Sys2Proof.Machine.execMxSave cell w s
  | .mxRest cell w => Sys2Proof.Machine.execMxRest cell w s
  | .storePerform cell k => Sys2Proof.Machine.execStorePerform cell k s
  | .latebusFail cell k => Sys2Proof.Machine.execLatebusFail cell k s
  | .brJmp cell w => Sys2Proof.Machine.execBrJmp cell w s
  | .brCall cell w => Sys2Proof.Machine.execBrCall cell w s
  | .brRet cell w => Sys2Proof.Machine.execBrRet cell w s
  | .brTret cell w => Sys2Proof.Machine.execBrTret cell w s
  | .brEnter cell w => Sys2Proof.Machine.execBrEnter cell w s
  | .brResync cell w => Sys2Proof.Machine.execBrResync cell w s
  | .brSpawn cell w => Sys2Proof.Machine.execBrSpawn cell w s
  | .brCancel cell w => Sys2Proof.Machine.execBrCancel cell w s
  | .brYield cell w => Sys2Proof.Machine.execBrYield cell w s
  | .brExit cell w => Sys2Proof.Machine.execBrExit cell w s
  | .brSpeculate cell w => Sys2Proof.Machine.execBrSpeculate cell w s
  | .brEconfirm cell w => Sys2Proof.Machine.execBrEconfirm cell w s
  | .brEsquash cell w => Sys2Proof.Machine.execBrEsquash cell w s
  | .evWait cell w => Sys2Proof.Machine.execEvWait cell w s
  | .evUntil cell w => Sys2Proof.Machine.execEvUntil cell w s
  | .evSend cell w => Sys2Proof.Machine.execEvSend cell w s
  | .evClr cell w => Sys2Proof.Machine.execEvClr cell w s
  | .waitWake w => Sys2Proof.Machine.execWaitWake w s
  | .untilStampReached w => Sys2Proof.Machine.execUntilStampReached w s
  | .evto cell => Sys2Proof.Machine.execEvto cell s
  | .resyncEvent cell => Sys2Proof.Machine.execResyncEvent cell s
  | .syCpset cell w => Sys2Proof.Machine.execSyCpset cell w s
  | .cpsetPatchComplete page => Sys2Proof.Machine.execCpsetPatchComplete page s
  | .syHold cell w => Sys2Proof.Machine.execSyHold cell w s
  | .holdMoveBound cell => Sys2Proof.Machine.execHoldMoveBound cell s
  | .holdTimeBound cell => Sys2Proof.Machine.execHoldTimeBound cell s
  | .syReti cell w => Sys2Proof.Machine.execSyReti cell w s
  | .syConfirm cell w => Sys2Proof.Machine.execSyConfirm cell w s
  | .sySysld cell w ecc => Sys2Proof.Machine.execSySysld cell w ecc s
  | .sySysst4 cell w => Sys2Proof.Machine.execSySysst4 cell w s
  | .sySysst8 cell w => Sys2Proof.Machine.execSySysst8 cell w s
  | .irqArrive cell => Sys2Proof.Machine.execIrqArrive cell s
  | .interruptEntry cell => Sys2Proof.Machine.execInterruptEntry cell s
  | .nmiPinEdge => Sys2Proof.Machine.execNmiPinEdge s
  | .irqRaiseWrite req num payload => Sys2Proof.Machine.execIrqRaiseWrite req num payload s
  | .mcWrite req => Sys2Proof.Machine.execMcWrite req s
  | .mcRead req grove => Sys2Proof.Machine.execMcRead req grove s
  | .mcPatch req => Sys2Proof.Machine.execMcPatch req s
  | .mcScrub upsets => Sys2Proof.Machine.execMcScrub upsets s
  | .mcabortRunaway cell addr => Sys2Proof.Machine.execMcabortRunaway cell addr s
  | .spnLock req => Sys2Proof.Machine.execSpnLock req s
  | .slabRefill => Sys2Proof.Machine.execSlabRefill s
  | .largeAlloc => Sys2Proof.Machine.execLargeAlloc s
  | .heapExhausted => Sys2Proof.Machine.execHeapExhausted s
  | .gcStartCmd req => Sys2Proof.Machine.execGcStartCmd req s
  | .gcPeriodExpire => Sys2Proof.Machine.execGcPeriodExpire s
  | .rootScanPause cell => Sys2Proof.Machine.execRootScanPause cell s
  | .gleanerScanObject grove => Sys2Proof.Machine.execGleanerScanObject grove s
  | .greyQueueSteal grove => Sys2Proof.Machine.execGreyQueueSteal grove s
  | .gcMarkTerminate => Sys2Proof.Machine.execGcMarkTerminate s
  | .gcRelocateObject page => Sys2Proof.Machine.execGcRelocateObject page s
  | .gcSweepPage page => Sys2Proof.Machine.execGcSweepPage page s
  | .gcSelect => Sys2Proof.Machine.execGcSelect s
  | .pinObject req => Sys2Proof.Machine.execPinObject req s
  | .unpinObject req => Sys2Proof.Machine.execUnpinObject req s
  | .pageInRequest grove page => Sys2Proof.Machine.execPageInRequest grove page s
  | .pageInComplete f bad => Sys2Proof.Machine.execPageInComplete f bad s
  | .pageWriteBack f => Sys2Proof.Machine.execPageWriteBack f s
  | .binWaitTimeout cell => Sys2Proof.Machine.execBinWaitTimeout cell s
  | .fryPinWrite req n v => Sys2Proof.Machine.execFryPinWrite req n v s
  | .sprigPlace grove => Sys2Proof.Machine.execSprigPlace grove s
  | .sprigPreempt grove => Sys2Proof.Machine.execSprigPreempt grove s
  | .sliceExpire cell => Sys2Proof.Machine.execSliceExpire cell s
  | .sprigSteal grove => Sys2Proof.Machine.execSprigSteal grove s
  | .deadlineMiss n => Sys2Proof.Machine.execDeadlineMiss n s
  | .applyMarginExpire ring out => Sys2Proof.Machine.execApplyMarginExpire ring out s
  | .epochConfirmInstant => Sys2Proof.Machine.execEpochConfirmInstant s
  | .logWriteBack => Sys2Proof.Machine.execLogWriteBack s
  | .epochSquashComplete => Sys2Proof.Machine.execEpochSquashComplete s
  | .tallyReport => Sys2Proof.Machine.execTallyReport s
  | .tallyAudit => Sys2Proof.Machine.execTallyAudit s
  | .pcieLinkUp => Sys2Proof.Machine.execPcieLinkUp s
  | .pcieLinkDown => Sys2Proof.Machine.execPcieLinkDown s
  | .pcieReset => Sys2Proof.Machine.execPcieReset s
  | .cmdPiDoorbell ring v aci host => Sys2Proof.Machine.execCmdPiDoorbell ring v aci host s
  | .ansCiDoorbell ring v => Sys2Proof.Machine.execAnsCiDoorbell ring v s
  | .evtCiDoorbell v => Sys2Proof.Machine.execEvtCiDoorbell v s
  | .logCiDoorbell v => Sys2Proof.Machine.execLogCiDoorbell v s
  | .descriptorConsume ring err => Sys2Proof.Machine.execDescriptorConsume ring err s
  | .nop ring => Sys2Proof.Machine.execNop ring s
  | .signals ring => Sys2Proof.Machine.execSignals ring s
  | .scene ring err => Sys2Proof.Machine.execScene ring err s
  | .sceneHandoff ring => Sys2Proof.Machine.execSceneHandoff ring s
  | .inboxAnswer record => Sys2Proof.Machine.execInboxAnswer record s
  | .picture ring err => Sys2Proof.Machine.execPicture ring err s
  | .pictureCopyComplete ring => Sys2Proof.Machine.execPictureCopyComplete ring s
  | .lampreq ring => Sys2Proof.Machine.execLampreq ring s
  | .stage ring => Sys2Proof.Machine.execStage ring s
  | .apply ring => Sys2Proof.Machine.execApply ring s
  | .image ring => Sys2Proof.Machine.execImage ring s
  | .confirm ring => Sys2Proof.Machine.execConfirm ring s
  | .query ring => Sys2Proof.Machine.execQuery ring s
  | .proof ring => Sys2Proof.Machine.execProof ring s
  | .drainlog ring => Sys2Proof.Machine.execDrainlog ring s
  | .fence ring => Sys2Proof.Machine.execFence ring s
  | .ringEnable req ring k => Sys2Proof.Machine.execRingEnable req ring k s
  | .ringDrain req ring => Sys2Proof.Machine.execRingDrain req ring s
  | .ringDrainComplete ring => Sys2Proof.Machine.execRingDrainComplete ring s
  | .painterTakeJob port => Sys2Proof.Machine.execPainterTakeJob port s
  | .tileComplete painter => Sys2Proof.Machine.execTileComplete painter s
  | .frameLock out => Sys2Proof.Machine.execFrameLock out s
  | .scanoutUnderrun out col row => Sys2Proof.Machine.execScanoutUnderrun out col row s
  | .outputEnable req out => Sys2Proof.Machine.execOutputEnable req out s
  | .edpHpdIrq level => Sys2Proof.Machine.execEdpHpdIrq level s
  | .dcsSend req => Sys2Proof.Machine.execDcsSend req s
  | .dcsSent => Sys2Proof.Machine.execDcsSent s
  | .lampStoreWrite req v => Sys2Proof.Machine.execLampStoreWrite req v s
  | .lampArm req => Sys2Proof.Machine.execLampArm req s
  | .lampBookChecksDone => Sys2Proof.Machine.execLampBookChecksDone s
  | .lampPass => Sys2Proof.Machine.execLampPass s
  | .lampMinonExpire lamp => Sys2Proof.Machine.execLampMinonExpire lamp s
  | .bulbCheckEnd => Sys2Proof.Machine.execBulbCheckEnd s
  | .lampDebounceExpire pin => Sys2Proof.Machine.execLampDebounceExpire pin s
  | .lampUnlatch req hi v => Sys2Proof.Machine.execLampUnlatch req hi v s
  | .cflagSet req hi v => Sys2Proof.Machine.execCflagSet req hi v s
  | .cflagClr req hi v => Sys2Proof.Machine.execCflagClr req hi v s
  | .lampBoxStart lamp => Sys2Proof.Machine.execLampBoxStart lamp s
  | .witnessBoxCompare lamp ua ub => Sys2Proof.Machine.execWitnessBoxCompare lamp ua ub s
  | .lampStale lamp => Sys2Proof.Machine.execLampStale lamp s
  | .witnessSelfTest out ub => Sys2Proof.Machine.execWitnessSelfTest out ub s
  | .proofFramePeriodic => Sys2Proof.Machine.execProofFramePeriodic s
  | .backupLedUpdate => Sys2Proof.Machine.execBackupLedUpdate s
  | .ledTestPulse driver reaches volts => Sys2Proof.Machine.execLedTestPulse driver reaches volts s
  | .adcRefReady => Sys2Proof.Machine.execAdcRefReady s
  | .adcSwtrig req k => Sys2Proof.Machine.execAdcSwtrig req k s
  | .adcTrigEdge pin rising => Sys2Proof.Machine.execAdcTrigEdge pin rising s
  | .adcPeriodTrigger k => Sys2Proof.Machine.execAdcPeriodTrigger k s
  | .adcUrgentGo req k slot => Sys2Proof.Machine.execAdcUrgentGo req k slot s
  | .adcConversionComplete k v => Sys2Proof.Machine.execAdcConversionComplete k v s
  | .adcRecoveryEnd k => Sys2Proof.Machine.execAdcRecoveryEnd k s
  | .adcComparatorStale c => Sys2Proof.Machine.execAdcComparatorStale c s
  | .adcFifoRead req => Sys2Proof.Machine.execAdcFifoRead req s
  | .adcDmaTransfer => Sys2Proof.Machine.execAdcDmaTransfer s
  | .adcDisable req k => Sys2Proof.Machine.execAdcDisable req k s
  | .vioTakeRequest port => Sys2Proof.Machine.execVioTakeRequest port s
  | .canSend ctrl => Sys2Proof.Machine.execCanSend ctrl s
  | .linFrame ctrl => Sys2Proof.Machine.execLinFrame ctrl s
  | .linWakeup ctrl => Sys2Proof.Machine.execLinWakeup ctrl s
  | .gpioPins => Sys2Proof.Machine.execGpioPins s
  | .pwmDuty => Sys2Proof.Machine.execPwmDuty s
  | .i3cXfer ctrl => Sys2Proof.Machine.execI3cXfer ctrl s
  | .spiXfer ctrl => Sys2Proof.Machine.execSpiXfer ctrl s
  | .uartSend => Sys2Proof.Machine.execUartSend s
  | .vioRequestComplete port how data => Sys2Proof.Machine.execVioRequestComplete port how data s
  | .canTxComplete ctrl => Sys2Proof.Machine.execCanTxComplete ctrl s
  | .canFrameReceive ctrl f => Sys2Proof.Machine.execCanFrameReceive ctrl f s
  | .listenerTimeout slot => Sys2Proof.Machine.execListenerTimeout slot s
  | .canBusOff ctrl => Sys2Proof.Machine.execCanBusOff ctrl s
  | .canRecover req ctrl => Sys2Proof.Machine.execCanRecover req ctrl s
  | .canBusoffRecovery ctrl => Sys2Proof.Machine.execCanBusoffRecovery ctrl s
  | .linHeaderRx ctrl id inSync seen => Sys2Proof.Machine.execLinHeaderRx ctrl id inSync seen s
  | .linResponseTimeout ctrl => Sys2Proof.Machine.execLinResponseTimeout ctrl s
  | .linWakeupRx ctrl => Sys2Proof.Machine.execLinWakeupRx ctrl s
  | .gpioEdge pin => Sys2Proof.Machine.execGpioEdge pin s
  | .gpioSetWrite req v => Sys2Proof.Machine.execGpioSetWrite req v s
  | .gpioClrWrite req v => Sys2Proof.Machine.execGpioClrWrite req v s
  | .pwmPeriodStart ch => Sys2Proof.Machine.execPwmPeriodStart ch s
  | .uartRxByte b parity framing => Sys2Proof.Machine.execUartRxByte b parity framing s
  | .uartIdleClose => Sys2Proof.Machine.execUartIdleClose s
  | .i3cIbi ctrl addr => Sys2Proof.Machine.execI3cIbi ctrl addr s
  | .i3cDaa req ctrl => Sys2Proof.Machine.execI3cDaa req ctrl s
  | .wakeAccept n => Sys2Proof.Machine.execWakeAccept n s
  | .pgAllHigh => Sys2Proof.Machine.execPgAllHigh s
  | .pgWaitTimeout => Sys2Proof.Machine.execPgWaitTimeout s
  | .pgFall which => Sys2Proof.Machine.execPgFall which s
  | .pmicInt low => Sys2Proof.Machine.execPmicInt low s
  | .pmicScript nack => Sys2Proof.Machine.execPmicScript nack s
  | .sysRst => Sys2Proof.Machine.execSysRst s
  | .vcoreVlow mv => Sys2Proof.Machine.execVcoreVlow mv s
  | .vcoreFail => Sys2Proof.Machine.execVcoreFail s
  | .vcoreOver => Sys2Proof.Machine.execVcoreOver s
  | .vsramFail => Sys2Proof.Machine.execVsramFail s
  | .vaonPor => Sys2Proof.Machine.execVaonPor s
  | .kl30MicroExpire => Sys2Proof.Machine.execKl30MicroExpire s
  | .kl30OvExpire => Sys2Proof.Machine.execKl30OvExpire s
  | .shedRecoverExpire => Sys2Proof.Machine.execShedRecoverExpire s
  | .tempSample t => Sys2Proof.Machine.execTempSample t s
  | .modecmdPark req nack => Sys2Proof.Machine.execModecmdPark req nack s
  | .modecmdReset req => Sys2Proof.Machine.execModecmdReset req s
  | .modecmdSaffron req => Sys2Proof.Machine.execModecmdSaffron req s
  | .modecmdIvory req => Sys2Proof.Machine.execModecmdIvory req s
  | .modecmdCobalt req => Sys2Proof.Machine.execModecmdCobalt req s
  | .parkHoldEnd => Sys2Proof.Machine.execParkHoldEnd s
  | .gkpDerive req slot => Sys2Proof.Machine.execGkpDerive req slot s
  | .gkpUnwrap req slot => Sys2Proof.Machine.execGkpUnwrap req slot s
  | .gkpErase req slot => Sys2Proof.Machine.execGkpErase req slot s
  | .gkpLoadpub req slot => Sys2Proof.Machine.execGkpLoadpub req slot s
  | .gkpHmac req slot => Sys2Proof.Machine.execGkpHmac req slot s
  | .gkpHmacv req slot => Sys2Proof.Machine.execGkpHmacv req slot s
  | .gkpCmac req slot => Sys2Proof.Machine.execGkpCmac req slot s
  | .gkpSha req slot => Sys2Proof.Machine.execGkpSha req slot s
  | .gkpEcdsav req slot => Sys2Proof.Machine.execGkpEcdsav req slot s
  | .gkpExtend req slot => Sys2Proof.Machine.execGkpExtend req slot s
  | .gkpQuote req slot => Sys2Proof.Machine.execGkpQuote req slot s
  | .gkpInstall req slot => Sys2Proof.Machine.execGkpInstall req slot s
  | .gkpRboot req slot => Sys2Proof.Machine.execGkpRboot req slot s
  | .gkpSvnup req slot => Sys2Proof.Machine.execGkpSvnup req slot s
  | .gkpOpComplete flashOk => Sys2Proof.Machine.execGkpOpComplete flashOk s
  | .gkpZeroize req => Sys2Proof.Machine.execGkpZeroize req s
  | .tamperDetect => Sys2Proof.Machine.execTamperDetect s
  | .streamStart req => Sys2Proof.Machine.execStreamStart req s
  | .streamSectionDone => Sys2Proof.Machine.execStreamSectionDone s
  | .trialWatchdogExpire => Sys2Proof.Machine.execTrialWatchdogExpire s
  | .wardenLockstepMismatch => Sys2Proof.Machine.execWardenLockstepMismatch s
  | .wdogKick req v => Sys2Proof.Machine.execWdogKick req v s
  | .wardenWdogExpire => Sys2Proof.Machine.execWardenWdogExpire s
  | .almSwraise req num => Sys2Proof.Machine.execAlmSwraise req num s
  | .almPendClear req word mask => Sys2Proof.Machine.execAlmPendClear req word mask s
  | .witStatusClear req mask => Sys2Proof.Machine.execWitStatusClear req mask s
  | .larderScrub upsets => Sys2Proof.Machine.execLarderScrub upsets s
  | .dramPatrol finds => Sys2Proof.Machine.execDramPatrol finds s
  | .cellRelease req c => Sys2Proof.Machine.execCellRelease req c s
  | .cellSelfTestDone pass => Sys2Proof.Machine.execCellSelfTestDone pass s
  | .ddrTrain req => Sys2Proof.Machine.execDdrTrain req s
  | .ddrTrainDone fail => Sys2Proof.Machine.execDdrTrainDone fail s
  | .xspiEnable req sfdp => Sys2Proof.Machine.execXspiEnable req sfdp s
  | .xspiErase4k req => Sys2Proof.Machine.execXspiErase4k req s
  | .xspiErase64k req => Sys2Proof.Machine.execXspiErase64k req s
  | .xspiProgram req => Sys2Proof.Machine.execXspiProgram req s
  | .xspiCmdDone err left => Sys2Proof.Machine.execXspiCmdDone err left s
  | .timebaseTick wake => Sys2Proof.Machine.execTimebaseTick wake s
  | .streamPageWritten => Sys2Proof.Machine.execStreamPageWritten s
  | .concurrentRootScan root => Sys2Proof.Machine.execConcurrentRootScan root s
  | .canErrorPassive ctrl tec rec' => Sys2Proof.Machine.execCanErrorPassive ctrl tec rec' s
  | .i3cDaaComplete ctrl n => Sys2Proof.Machine.execI3cDaaComplete ctrl n s
  | .outputLinkup out => Sys2Proof.Machine.execOutputLinkup out s
  | .gpioLevelChange pin level => Sys2Proof.Machine.execGpioLevelChange pin level s

end Sys2Proof.Machine
end

