-- ==== Sys2Proof/Safety.lean ====
section
/-!
DEFINITION. The terms in which statements about the block are made: a chip that runs, a cell at an ordinary move
boundary, the memories' canonical form, and what a move of a cell leaves alone.
-/
namespace Sys2Proof.Machine

/-- The switched domain runs and the Alarm board has acted on everything raised: the state between two commands of a
running chip. -/
def State.Live (s : State) : Prop := s.power.powered = true ∧ s.raised = []

/-- A cell at a move boundary at which nothing comes before the next move: it issues moves (07 R359; 10 R519), no event
can be taken (07 R343), no hold window is open (R361), no operation waits for its 16th move (04 R177), no predicate
write waits (R191), its window is there (06 R298) and no micro-routine is under way (08 R410). -/
def State.Ready (s : State) (c : Nat) : Prop :=
  s.Live ∧ s.running c = true ∧ (s.cell c).takeable = none ∧ (s.cell c).hold = none
    ∧ (∀ o ∈ (s.cell c).ops, o.level = (s.cell c).level → o.issued < 17)
    ∧ (s.cell c).defer = none ∧ (s.cell c).obtain = false ∧ (s.cell c).micro = none

/-- The four memories are in canonical form. -/
def State.MemoriesOk (s : State) : Prop :=
  Memory.wf 0#8 s.dram = true ∧ Memory.wf 0#8 s.wmem = true ∧ Memory.wf 0xFF#8 s.flash = true
    ∧ Memory.wf 0#8 s.host = true

/-- Nothing outside cell c differs between two states. -/
def State.OnlyCell (s : State) (c : Nat) (t : State) : Prop :=
  t = { s with cells := t.cells } ∧ ∀ d, d ≠ c → t.cell d = s.cell d

/-- Of a cell, only the program counter, the unit sockets, USTAT, the operations in flight and the records of a wait or a
hold may differ: its registers, links, window map, floating registers, predicates, status words, save sets, base
registers, store buffer and pending events are the same. -/
def Cell.OnlyUnits (x y : Cell) : Prop :=
  y = { x with pc := y.pc, socks := y.socks, ustat := y.ustat, ops := y.ops, hold := y.hold, wait := y.wait,
               pageWait := y.pageWait }

/-- The pointer word w names a resident object of LEN n whose header is in place: canonical address, a page of a mapped
region in a bin, not poisoned, a header of the pointer's kind and no forwarding (09 R439 to R443). -/
def State.Object (s : State) (w : TWord) (n : Nat) : Prop :=
  w.canonical = true ∧ s.region (pageOf (addrOf w)) ≠ .unmapped ∧ s.resident (pageOf (addrOf w)) = true
    ∧ pageOf (addrOf w) ∉ s.heap.poison ∧ (s.heapRead (addrOf w)).t = tHDR
    ∧ hdrKind (s.heapRead (addrOf w)) + 0x08 = w.t ∧ hdrLen (s.heapRead (addrOf w)) = n

/-- A load of the heap word at a by cell c takes no slow path: mapped, no store of the cell buffered for it, resident,
not poisoned, no forwarding, no uncorrectable error, no collection at work (09 R456 to R460). -/
def State.Loadable (s : State) (c a : Nat) : Prop :=
  s.region (pageOf a) ≠ .unmapped ∧ (s.cell c).buffered a = none ∧ s.resident (pageOf a) = true
    ∧ pageOf a ∉ s.heap.poison ∧ (s.memWord a).t ≠ tFWD ∧ a ∉ s.heap.badWords
    ∧ s.heap.phase = .idle

/-- Only cell c and the referenced bits of the bins differ between two states. -/
def State.OnlyLoad (s : State) (c : Nat) (t : State) : Prop :=
  t = { s with cells := t.cells, heap := { s.heap with bins := t.heap.bins } } ∧ ∀ d, d ≠ c → t.cell d = s.cell d

/-- The endpoint can answer on ring n: the link is up, the gates are open, the ring drops nothing, and the mailbox entry
of the ring does not lie in the answer's own bytes (12 R608, R652, R653). -/
def State.Answering (s : State) (n : Nat) : Prop :=
  let a := s.base64 (0x2108 + 32 * n) + 32 * ((s.ring n).aw % 2 ^ s.ringK n)
  s.bit F.PLT_PCIE_CTL_LINKUP = true ∧ s.gated = false ∧ (s.ring n).drop = false
    ∧ (s.base64 0x2000 + 8 * n + 8 ≤ a ∨ a + 32 ≤ s.base64 0x2000 + 8 * n)

/-- Command f has been answered in t: it is in flight no longer, the ring's write index has moved by one, and the 32
bytes of the answer stand at the index's old place (12 R614 to R617). -/
def State.Answered (s : State) (f : Flight) (status detail v0 v1 v2 : Nat) (t : State) : Prop :=
  t.evr.flights = s.evr.flights.filter (fun g => g.order ≠ f.order)
    ∧ (t.ring f.ring).aw = idxNext (s.ring f.ring).aw
    ∧ Memory.readN 0#8 t.host
        (s.base64 (0x2108 + 32 * f.ring) + 32 * ((s.ring f.ring).aw % 2 ^ s.ringK f.ring)) 32
      = leBytes 2 f.tag ++ leBytes 2 f.cidx ++ leBytes 1 f.op ++ leBytes 1 status ++ leBytes 2 detail ++ leBytes 8 v0
        ++ leBytes 8 v1 ++ leBytes 4 v2 ++ leBytes 4 (b2n (s.ring f.ring).phase * 2 ^ 24)

/-- Command f waits in t as w says, and nothing else has changed among the commands in flight. -/
def State.Waits (s : State) (f : Flight) (w : FlightWait) (t : State) : Prop :=
  t.evr.flights = s.evr.flights.map fun g => if g.order = f.order then { g with wait := w } else g

/-- The PEND bit of Alarm board source n is set (19 R943). -/
def State.alarmPending (s : State) (n : Nat) : Bool := (s.fld (F.ALM_PEND_PEND (n / 32))).testBit (n % 32)

/-- A register of the setup space is the only one that differs. -/
def State.OnlyReg (s : State) (off : Nat) (t : State) : Prop :=
  t = { s with regs := t.regs } ∧ ∀ o, o ≠ off → t.reg o = s.reg o

end Sys2Proof.Machine
end

