-- ==== Sys2Proof/Certificates/Slice0/Obligations.lean ====
section
/-!
DEFINITION. The statements for the provers.
-/
open Sys2Proof Sys2Proof.Machine

/-! ### The shell around every command -/

/-- The step takes the command at the front of the queue and runs it on the state with the queue's rest.
On an empty queue the state stays as it is (the model's choice, log entry 1). -/
def Obligations.StepRunsTheFrontCommand : Prop :=
  ∀ (c : Instr) (rest : List Instr) (s : State), s.pending = c :: rest →
    step s = exec c { s with pending := rest } ∧ step { s with pending := [] } = .next { s with pending := [] }

/-- First in, first out: whatever the command, the step that runs it answers a next state whose queue is the rest of the
queue. No command faults or is refused, and none puts a command into the queue. -/
def Obligations.QueueIsFirstInFirstOut : Prop :=
  ∀ (s : State), ∃ t, step s = .next t ∧ t.pending = s.pending.tail

/-- 19 R939: the action of an alarm is taken in the step that raises it. Every step from a state with nothing left raised
answers a state with nothing left raised. -/
def Obligations.NoAlarmOutlivesItsStep : Prop :=
  ∀ (s t : State), s.raised = [] → step s = .next t → t.raised = []

/-- 02 R90 to R95: the timebase moves with its own commands only. Every other command leaves its nanoseconds and fraction
as they are, whatever else it does. -/
def Obligations.OnlyTimeCommandsMoveTheTimebase : Prop :=
  ∀ (c : Instr) (s t : State), exec c s = .next t →
    (t.time.ns = s.time.ns ∧ t.time.frac = s.time.frac)
    ∨ c = .aonPor ∨ c = .vaonPor ∨ c = .tbChangeoverToFast ∨ c = .tbChangeoverToSlow ∨ c = .tbSourceResume
    ∨ ∃ w, c = .timebaseTick w

/-- 17 R855: while the switched domain is off, only the commands of the always-on domain change anything. -/
def Obligations.SwitchedDomainOffDoesNothing : Prop :=
  ∀ (c : Instr) (s : State), s.power.powered = false →
    exec c s = .next s
    ∨ c ∈ [.syspllLock, .tbChangeoverToFast, .tbChangeoverToSlow, .tbRcFallback, .tbSourceResume, .aonPor, .vaonPor,
        .pgAllHigh, .pgWaitTimeout, .parkHoldEnd]
    ∨ (∃ w, c = .timebaseTick w) ∨ (∃ n, c = .wakeAccept n) ∨ (∃ l, c = .pmicInt l) ∨ ∃ p l, c = .gpioLevelChange p l

/-- The machine right after chip reset: Ochre mode, cells held, nothing on the heap, no sprig, no alarm pending, closed
gates, and the setup registers at the values of their tables. Values that the spec does not state are the model's choices (log
entries 3, 5, 7 and 12). -/
def Obligations.ResetState : Prop :=
  State.reset.mode = .ochre ∧ State.reset.cellsHeld = true ∧ State.reset.raised = [] ∧ State.reset.pending = []
    ∧ State.reset.MemoriesOk ∧ State.reset.heap.phase = .idle ∧ State.reset.gated = true
    ∧ (∀ n, (State.reset.slot n).state = .free) ∧ (∀ c, c < 256 → State.reset.cell c = Cell.reset)
    ∧ (∀ sel, State.reset.trim sel = ⟨63#6, 63#6, 63#6⟩)
    ∧ State.reset.reg 0x0 = 0xA1582560#32 ∧ State.reset.reg 0x4 = 0xA#32
    ∧ ∀ off, off ≠ 0xC004 → State.reset.reg off = regReset off

/-! ### Setup registers (00 R10 to R26; 01 R51 to R55) -/

/-- 00 R10, 01 R53: REGISTER_WRITE of a register whose one field is RW and LIVE makes the register hold the written value
and changes no other register and nothing else. The first list is of registers of the Warden, the second of registers
that either requester writes.
01 R55: a host write that would change a register of the Warden leaves it as it is and is counted once in
GEN_HOSTREJ_CNT. -/
def Obligations.RegisterWrites : Prop :=
  (∀ (req : Req) (off : Nat) (v : W32) (s : State), s.Live →
      (req = .warden ∧ off ∈ [0x14, 0x1008, 0x2010, 0x2018, 0x301C, 0x3020, 0x4040, 0x5010, 0x9028, 0x902C, 0x9030,
          0xBA24, 0xD030, 0xE0A0, 0xE0C4, 0xEC04, 0xEC20])
        ∨ off ∈ [0x6040, 0x6140, 0x6204, 0x6208, 0x7018, 0xA408, 0xA110, 0xA114, 0xA210, 0xB100, 0xB104] →
      ∃ t, exec (.registerWrite req off v) s = .next t ∧ s.OnlyReg off t ∧ t.reg off = v)
  ∧ (∀ (off : Nat) (v : W32) (s : State), s.Live → off ∈ [0x1008, 0x2010, 0x2018, 0x301C, 0x4040, 0x5010, 0x9028, 0xD030] →
      v ≠ s.reg off → s.fld F.GEN_HOSTREJ_CNT_COUNT < 2 ^ 32 - 2 →
      ∃ t, exec (.registerWrite .host off v) s = .next t ∧ s.OnlyReg 0x14 t
        ∧ t.reg off = s.reg off ∧ t.fld F.GEN_HOSTREJ_CNT_COUNT = s.fld F.GEN_HOSTREJ_CNT_COUNT + 1)

/-- 00 R25: a read of the low half of a 64-bit register returns it and latches the high half for the requester; a read of
the high half then returns what was latched, whatever the register holds by then. The list names the low half of every
64-bit register; regView is what a register shows the requester. -/
def Obligations.HighHalfIsLatched : Prop :=
  ∀ (req : Req) (off : Nat) (v : W32) (s u : State), s.Live → u.Live →
    off ∈ [0x8, 0x3024, 0x6030, 0x6130, 0x6038, 0x6138, 0x8008, 0x8010, 0x8020, 0x9014, 0x901C, 0xAA00, 0xC02C, 0xD010,
      0xD024, 0xE008, 0xE044, 0xF000, 0xF008] →
    (∃ t, exec (.snapshotReadLo req off) s = .next t ∧ t.rdata.get req = BitVec.ofNat 32 (regView req off s)
      ∧ t.snap.get req = AMap.put 0#32 (s.snap.get req) (off + 4) (BitVec.ofNat 32 (regView req (off + 4) s))
      ∧ t = { s with rdata := t.rdata, snap := t.snap })
    ∧ (AMap.get 0#32 (u.snap.get req) (off + 4) = v →
      ∃ t, exec (.snapshotReadLo req (off + 4)) u = .next t ∧ t.rdata.get req = v ∧ t.regs = u.regs)

/-! ### The Weave, the trims, the timebase (02) -/

/-- 02 R65 to R75, R81 to R88: on an idle Weave a packet that its destination takes is delivered, and one that it does not
take stays; a stall is recorded and raises WEAVE_STALL, which in Ochre mode is held as a SAFE request; the Warden's write
of TRIM_DATA sets the three copies of the selected element and selects the next; the scrubber restores a copy that
differs from the other two. -/
def Obligations.WeaveAndTrims : Prop :=
  ∀ (s : State), s.Live →
    (∀ (src dst : Node) (vc : VC) (words : Nat), s.weave.packets = [] → vc = .rsp ∨ vc = .evt → words ≤ 16 →
        (∃ t, exec (.weavePacket src dst vc words true) s = .next t ∧ t.weave.packets = []
          ∧ t.weave.delivered = s.weave.delivered + 1 ∧ t.cells = s.cells ∧ t.regs = s.regs)
        ∧ (∃ t, exec (.weavePacket src dst vc words false) s = .next t ∧ t.weave.packets.length = 1
          ∧ t.weave.delivered = s.weave.delivered ∧ t.cells = s.cells ∧ t.regs = s.regs))
    ∧ (∀ (node : Node) (port : Fin 5) (vc : VC), s.bit F.TBD_WV_STATUS_STALL = false → s.mode = .ochre →
        s.fld (F.ALM_SRC_CLASS 8) = 3 →
        ∃ t, exec (.weaveStall node port vc) s = .next t ∧ t.bit F.TBD_WV_STATUS_STALL = true
          ∧ t.fld F.TBD_WV_STALL_ID_NODE = node ∧ t.fld F.TBD_WV_STALL_ID_PORT = port
          ∧ t.fld F.TBD_WV_STALL_ID_VC = vc.num ∧ t.power.safeHeld = true)
    ∧ (∀ code : BitVec 6, s.bit F.TBD_TRIM_CTL_TRIM_LOCK = false →
        ∃ t, exec (.trimDataWrite .warden code) s = .next t ∧ t.trim s.trimSel = ⟨code, code, code⟩
          ∧ (∀ k, k ≠ s.trimSel → t.trim k = s.trim k) ∧ t.reg 0xF030 = BitVec.ofNat 32 (trimNext s.trimSel)
          ∧ ∀ o, o ≠ 0xF030 → t.reg o = s.reg o)
    ∧ (∀ (sel : Nat) (a b : BitVec 6), s.trims = [(sel, ⟨a, a, b⟩)] → a ≠ b → s.fld (F.ALM_SRC_CLASS 6) = 1 →
        ∃ t, exec (.trimScrub []) s = .next t ∧ t.trim sel = ⟨a, a, a⟩ ∧ t.bit F.TBD_TRIM_STATUS_FIX = true)

/-- 02 R78, R90 to R95: SYSPLL locks once enabled; the changeovers move the timebase between its sources and drop its
fraction, the slow one counting its edge; the fallback starts the RC oscillator and the first external edge ends it; a
tick adds 10 ns from the 100 MHz clock and 1953125/64 ns from the 32.768 kHz source; the power-on reset of the always-on
domain zeroes it in Umber mode. -/
def Obligations.TimebaseCommands : Prop :=
  ∀ (s : State), s.raised = [] →
    (s.time.pllEn = true → s.time.pllLock = false →
        ∃ t, exec .syspllLock s = .next t ∧ t = { s with time := t.time } ∧ t.time.pllLock = true
          ∧ t.time.toFast = s.time.slow ∧ t.time.slow = s.time.slow)
    ∧ (s.time.toFast = true → s.time.slow = true → s.time.pllLock = true →
        ∃ t, exec .tbChangeoverToFast s = .next t ∧ t.time.slow = false ∧ t.time.frac = 0#6
          ∧ t.time.ns = BitVec.ofNat 64 ((s.time.ns.toNat * 64 + s.time.frac.toNat + 1953125) / 64)
          ∧ t.fld F.TBD_TB_STATUS_SRC = 0 ∧ t.cells = s.cells)
    ∧ (s.time.toSlow = true → s.time.slow = false →
        ∃ t, exec .tbChangeoverToSlow s = .next t ∧ t.time.slow = true ∧ t.time.frac = 0#6 ∧ t.time.ns = s.time.ns
          ∧ t.fld F.TBD_TB_STATUS_SRC = 1 ∧ t.cells = s.cells)
    ∧ (s.time.rc = false →
        ∃ t, exec .tbRcFallback s = .next t ∧ t.time.rc = true ∧ t.bit F.TBD_TB_STATUS_RCFB = true
          ∧ t.time.ns = s.time.ns)
    ∧ (s.time.rc = true →
        ∃ t, exec .tbSourceResume s = .next t ∧ t.time.rc = false ∧ t.time.slow = s.time.slow
          ∧ (s.time.slow = false → t.time.ns = s.time.ns) ∧ t.regs = s.regs)
    ∧ (∃ t, exec .aonPor s = .next t ∧ t.time.ns = 0#64 ∧ t.mode = .umber ∧ t.power.powered = false
        ∧ t.time.porw = true ∧ t.flash = s.flash ∧ t.floor = s.floor)
    ∧ (∀ w, ∃ t, exec (.timebaseTick w) s = .next t ∧ t.fld F.VIO_WAKESTAT_LEVEL = w.toNat
        ∧ (s.time.slow = false → s.time.pllLock = true → t.time.ns = s.time.ns + 10#64 ∧ t.time.frac = s.time.frac)
        ∧ (s.time.slow = true →
            t.time.ns.toNat * 64 + t.time.frac.toNat
              = (s.time.ns.toNat * 64 + s.time.frac.toNat + 1953125) % 2 ^ 70)
        ∧ t.cells = s.cells ∧ t.mode = s.mode)

/-! ### The arithmetic units (03, 05) -/

/-- 04 R178, 05 R222: with ST.EXACT set, a GA command at a ready cell delivers the result of its operation to the result
socket of the level, sets USTAT.OVS on an overflow, goes on at the next move, and changes nothing else. -/
def Obligations.GaDeliversItsResult : Prop :=
  ∀ (c : CellId) (w r : TWord) (ov : Bool) (s : State) (i : Instr) (n : Nat),
    (i, n) ∈ [(.gaAdd c w, 0), (.gaSub c w, 1), (.gaMul c w, 2), (.gaDiv c w, 3), (.gaRem c w, 4), (.gaNeg c w, 5),
      (.gaAbs c w, 6), (.gaLt c w, 7), (.gaLe c w, 8), (.gaGt c w, 9), (.gaGe c w, 10), (.gaNumeq c w, 11),
      (.gaEq c w, 12), (.gaMin c w, 13), (.gaMax c w, 14), (.gaAnd c w, 15), (.gaOr c w, 16), (.gaXor c w, 17),
      (.gaNot c w, 18), (.gaShl c w, 19), (.gaShr c w, 20), (.gaShrl c w, 21), (.gaTofix c w, 22),
      (.gaTofixq c w, 23), (.gaToflo c w, 24)] →
    s.Ready c → (s.cell c).exact = true →
    gaOp n ((s.cell c).sock (s.cell c).level (0x100 + 2 * n)) w.plain = .val r ov →
    (ov = true → (s.cell c).ovfe = false) →
    ∃ t, exec i s = .next t ∧ s.OnlyCell c t ∧ (s.cell c).OnlyUnits (t.cell c)
      ∧ (t.cell c).sock (s.cell c).level 0x1F0 = r
      ∧ (t.cell c).pc = ((s.cell c).pc + 4) % 2 ^ 32
      ∧ (t.cell c).ustat = (s.cell c).ustat.set (s.cell c).level
          ((s.cell c).ustat.get (s.cell c).level ||| BitVec.ofNat 2 (b2n ov))
      ∧ ∀ l k, k < 0x1000 → ¬ (l = (s.cell c).level ∧ k = 0x1F0) → (t.cell c).sock l k = (s.cell c).sock l k

/-- 04 R178, 05 R225, R226: with ST.EXACT set, an FX command at a ready cell whose operand sockets hold words it accepts
and whose exception no bit of FX.CTL traps delivers the result that the rounding mode of FX.CTL gives, ORs the flags
into FX.FLAGS, and changes nothing else. -/
def Obligations.FxDeliversItsResult : Prop :=
  ∀ (c : CellId) (w r : TWord) (fl : FFlags) (s : State) (i : Instr) (k : Nat),
    (i, k) ∈ [(.fxAdd c w, 0x01), (.fxSub c w, 0x03), (.fxMul c w, 0x05), (.fxDiv c w, 0x07), (.fxSqrt c w, 0x09),
      (.fxFma c w, 0x0C), (.fxMin c w, 0x0F), (.fxMax c w, 0x11), (.fxNeg c w, 0x13), (.fxAbs c w, 0x15),
      (.fxRint c w, 0x17), (.fxTofix c w, 0x19), (.fxFromfix c w, 0x1B), (.fxLt c w, 0x1D), (.fxLe c w, 0x1F),
      (.fxEq c w, 0x21), (.fxUn c w, 0x23)] →
    s.Ready c → (s.cell c).exact = true → (s.cell c).fpa = true →
    w.t = (if k = 0x1B then tFIX else tFLO) →
    let x := s.cell c
    let first := if k = 0x0C then 0x20A else 0x1FF + k
    (k ∉ [0x09, 0x13, 0x15, 0x17, 0x19, 0x1B] → (x.sock x.level first).t = tFLO) →
    (k = 0x0C → (x.sock x.level 0x20B).t = tFLO) →
    fxOp k (rmOf ((x.sock x.level 0x261).p % 4)) (x.sock x.level first).payload w.payload
      (x.sock x.level 0x20B).payload = (r, fl) →
    (fl.of' = true → (x.sock x.level 0x261).p.testBit 2 = false) →
    (fl.dz = true → (x.sock x.level 0x261).p.testBit 3 = false) →
    ∃ t, exec i s = .next t ∧ s.OnlyCell c t ∧ x.OnlyUnits (t.cell c)
      ∧ (t.cell c).sock x.level 0x260 = r
      ∧ (t.cell c).pc = (x.pc + 4) % 2 ^ 32
      ∧ (t.cell c).sock x.level 0x262
          = (if fl.toNat = 0 then x.sock x.level 0x262 else rawW ((x.sock x.level 0x262).p ||| fl.toNat))
      ∧ (∀ l j, j < 0x1000 → ¬ (l = x.level ∧ (j = 0x260 ∨ j = 0x262)) → (t.cell c).sock l j = x.sock l j)

/-- 04 R177: with ST.EXACT clear the same commands leave their operation in flight, as the first move counted past it;
the result socket still holds what it held. ARITH_OP_COMPLETE (the next statement) delivers it.
04 R177, 03 R139: ARITH_OP_COMPLETE of an operation that raises nothing delivers its result to the unit's result
socket of the level it was started at, sets its sticky flags, and takes it out of flight. -/
def Obligations.OperationsInFlight : Prop :=
  (∀ (c : CellId) (w r : TWord) (ov : Bool) (s : State) (i : Instr) (n : Nat),
      (i, n) ∈ [(.gaAdd c w, 0), (.gaSub c w, 1), (.gaMul c w, 2), (.gaDiv c w, 3), (.gaRem c w, 4), (.gaNeg c w, 5),
        (.gaAbs c w, 6), (.gaMin c w, 13), (.gaMax c w, 14), (.gaShl c w, 19), (.gaTofix c w, 22)] →
      s.Ready c → (s.cell c).exact = false →
      gaOp n ((s.cell c).sock (s.cell c).level (0x100 + 2 * n)) w.plain = .val r ov →
      (ov = true → (s.cell c).ovfe = false) →
      ∃ t, exec i s = .next t ∧ s.OnlyCell c t ∧ (s.cell c).OnlyUnits (t.cell c)
        ∧ (t.cell c).socks = (s.cell c).socks ∧ (t.cell c).ustat = (s.cell c).ustat
        ∧ (t.cell c).ops = (s.cell c).ops.map (fun o =>
              if o.level = (s.cell c).level then { o with issued := o.issued + 1 } else o)
            ++ [⟨false, n, r, ov, false, 0, 0, (s.cell c).pc, 1, none, (s.cell c).level⟩])
  ∧ (∀ (c : CellId) (fx : Bool) (o : PendOp) (s : State), s.Live →
      (s.cell c).ops.find? (fun o => o.fx == fx && o.level == (s.cell c).level) = some o → o.exc = 0 →
      ∃ t, exec (.arithOpComplete c fx) s = .next t ∧ s.OnlyCell c t ∧ (s.cell c).OnlyUnits (t.cell c)
        ∧ (t.cell c).sock o.level (if fx then 0x260 else 0x1F0) = o.res
        ∧ (t.cell c).ustat.get o.level
            = (s.cell c).ustat.get o.level ||| BitVec.ofNat 2 (b2n o.setOv + 2 * b2n o.setDz)
        ∧ (t.cell c).ops = (s.cell c).ops.erase o ∧ (t.cell c).pc = (s.cell c).pc)

/-- 03 R144: with ST.DZE clear, DIV or REM of a FIX or FIXQ word by a zero FIX or FIXQ word returns UNB with payload 0
and sets the sticky DZ flag, and no OV: with ST.EXACT set at once, with it clear by the operation that is then in flight
and raises nothing. -/
def Obligations.DivisionByZeroGivesUnb : Prop :=
  ∀ (c : CellId) (w : TWord) (s : State) (i : Instr) (n : Nat),
    (i, n) ∈ [(.gaDiv c w, 3), (.gaRem c w, 4)] → s.Ready c →
    (s.cell c).dze = false → (w.t = tFIX ∨ w.t = tFIXQ) → w.p = 0 →
    (((s.cell c).sock (s.cell c).level (0x100 + 2 * n)).t = tFIX
      ∨ ((s.cell c).sock (s.cell c).level (0x100 + 2 * n)).t = tFIXQ) →
    ∃ t, exec i s = .next t ∧ s.OnlyCell c t
      ∧ ((s.cell c).exact = true → (t.cell c).sock (s.cell c).level 0x1F0 = unb 0
          ∧ (t.cell c).ustat.get (s.cell c).level = (s.cell c).ustat.get (s.cell c).level ||| 2#2)
      ∧ ((s.cell c).exact = false → ∃ o, (t.cell c).ops.getLast? = some o ∧ o.res = unb 0
          ∧ o.setDz = true ∧ o.setOv = false ∧ o.exc = 0 ∧ o.level = (s.cell c).level
          ∧ (t.cell c).ops.length = (s.cell c).ops.length + 1)

/-- 03 R120: every result word that GA produces has colour 0b00, whatever the colours of its operands. -/
def Obligations.GaResultsAreColourless : Prop :=
  ∀ (n : Nat) (a b r : TWord) (ov : Bool), gaOp n a b = .val r ov → r.colour = 0#2

/-- 03 R138, R139: ADD, SUB and MUL of two FIX words give FIX with the low 64 bits of the exact result, and overflow
exactly when it lies outside -2^63 to 2^63 - 1. -/
def Obligations.FixArithmeticWraps : Prop :=
  ∀ (a b : TWord), a.t = tFIX → b.t = tFIX →
    (gaOp 0 a b = .val (mk tFIX (a.payload + b.payload)) (decide (a.i + b.i < -2 ^ 63 ∨ 2 ^ 63 ≤ a.i + b.i)))
    ∧ (gaOp 1 a b = .val (mk tFIX (a.payload - b.payload)) (decide (a.i - b.i < -2 ^ 63 ∨ 2 ^ 63 ≤ a.i - b.i)))
    ∧ (gaOp 2 a b = .val (mk tFIX (a.payload * b.payload)) (decide (a.i * b.i < -2 ^ 63 ∨ 2 ^ 63 ≤ a.i * b.i)))

/-- 05 R233 to R235: the TG commands at a ready cell. GETTAG, RAW, CLASS and ISPTR take any word; IS compares with the
tag number in its operand socket; SETTAG puts a tag that the level may make on the word in its operand socket. -/
def Obligations.TagCommandsDeliver : Prop :=
  ∀ (c : CellId) (w : TWord) (s : State), s.Ready c →
    let x := s.cell c
    let done := fun (i : Instr) (r : TWord) =>
      ∃ t, exec i s = .next t ∧ s.OnlyCell c t ∧ x.OnlyUnits (t.cell c) ∧ (t.cell c).sock x.level 0x3B0 = r
        ∧ (t.cell c).pc = (x.pc + 4) % 2 ^ 32 ∧ (t.cell c).ustat = x.ustat
    done (.tgGettag c w) (fix w.t) ∧ done (.tgRaw c w) (mk tRAW w.payload) ∧ done (.tgClass c w) (fix (classCode w.t))
      ∧ done (.tgIsptr c w) (boolW (decide (0x08 ≤ w.t ∧ w.t ≤ 0x0C)))
      ∧ (∀ k, x.sock x.level 0x386 = fix k → 0 ≤ k → k ≤ 63 → done (.tgIs c w) (boolW (decide (k = w.t))))
      ∧ (w.t = tFIX → w.p ≤ 63 → tagCheck w.p x.sup = 0 →
          done (.tgSettag c w) (mk w.p (x.sock x.level 0x380).payload))

/-! ### Loads and stores (05 R236 to R246; 09) -/

/-- 05 R236 to R239, R241: the loading commands of LX and MX.LD on a resident object, at a ready cell in epoch 0, deliver
the word that stands in the field they name; LEN delivers the number of elements. Nothing but the result, the program
counter and the referenced bits of the bins changes. -/
def Obligations.FieldsLoad : Prop :=
  ∀ (c : CellId) (w : TWord) (n : Nat) (s : State), s.Ready c → s.cellEpoch c = 0 → s.Object w n →
    let x := s.cell c
    let gives := fun (sock : Nat) (i : Instr) (r : TWord) =>
      ∃ t, exec i s = .next t ∧ s.OnlyLoad c t ∧ x.OnlyUnits (t.cell c) ∧ (t.cell c).sock x.level sock = r
        ∧ (t.cell c).pc = (x.pc + 4) % 2 ^ 32 ∧ ∀ a, t.memWord a = s.memWord a
    let field := fun (k : Nat) => (s.memWord (addrOf w + 1 + k)).plain
    let there := fun (k : Nat) => k < n ∧ s.Loadable c (addrOf w + 1 + k)
    (w.t = tCONS → there 0 → gives 0x2F0 (.lxCar c w) (field 0))
    ∧ (w.t = tCONS → there 1 → gives 0x2F0 (.lxCdr c w) (field 1))
    ∧ (w.t = tBOX → there 0 → gives 0x2F0 (.lxUnbox c w) (field 0))
    ∧ (w.t = tCLO → there 0 → (field 0).t = tCODE → gives 0x2F0 (.lxCode c w) (field 0))
    ∧ (w.t = tVEC ∨ w.t = tSTR → gives 0x2F0 (.lxLen c w) (fix n))
    ∧ (w.t = tCLO → gives 0x2F0 (.lxLen c w) (fix (n - 1 : Int)))
    ∧ (∀ k : Nat, k < 2 ^ 63 → w.t = tVEC ∨ w.t = tSTR → x.sock x.level 0x284 = w → there k →
        gives 0x2F0 (.lxRef c (fix k)) (field k))
    ∧ (∀ k : Nat, k < 2 ^ 63 → w.t = tCLO → x.sock x.level 0x284 = w → there (k + 1) →
        gives 0x2F0 (.lxRef c (fix k)) (field (k + 1)))
    ∧ (∀ k : Nat, k < 2 ^ 63 → w.t = tCONS ∨ w.t = tVEC ∨ w.t = tBOX → x.sock x.level 0x300 = fix k → there k →
        gives 0x370 (.mxLd c w) (field k))

/-- 05 R238, R240, R243; 04 R181: the storing commands of LX and MX.ST on a resident object of the collected region, at a
ready cell in epoch 0 while no collection marks, put the word into the store buffer for the field they name and deliver
NIL; memory itself does not change yet. -/
def Obligations.StoresEnterTheBuffer : Prop :=
  ∀ (c : CellId) (w v : TWord) (n : Nat) (s : State), s.Ready c → s.cellEpoch c = 0 → s.Object w n →
    s.heap.phase = .idle → (s.cell c).sbuf.length < 16 → s.region (pageOf (addrOf w)) = .collected →
    let x := s.cell c
    let stores := fun (sock : Nat) (i : Instr) (k : Nat) =>
      k < n → s.region (pageOf (addrOf w + 1 + k)) = .collected →
      ∃ t, exec i s = .next t ∧ s.OnlyLoad c t
        ∧ (t.cell c).sbuf = x.sbuf ++ [⟨x.freeSlot, false, addrOf w + 1 + k, v.plain⟩]
        ∧ (t.cell c).sock x.level sock = nil ∧ (t.cell c).regs = x.regs ∧ (t.cell c).st = x.st
        ∧ (t.cell c).pc = (x.pc + 4) % 2 ^ 32 ∧ ∀ a, t.memWord a = s.memWord a
    (w.t = tCONS → x.sock x.level 0x290 = w → stores 0x2F0 (.lxSetcar c v) 0)
    ∧ (w.t = tCONS → x.sock x.level 0x292 = w → stores 0x2F0 (.lxSetcdr c v) 1)
    ∧ (w.t = tBOX → x.sock x.level 0x297 = w → stores 0x2F0 (.lxSetbox c v) 0)
    ∧ (∀ k : Nat, k < 2 ^ 63 → w.t = tVEC ∨ (w.t = tSTR ∧ v.t = tCHR) → x.sock x.level 0x294 = w →
        x.sock x.level 0x295 = fix k → stores 0x2F0 (.lxSet c v) k)
    ∧ (∀ k : Nat, k < 2 ^ 63 → w.t = tCONS ∨ w.t = tVEC ∨ w.t = tBOX → x.sock x.level 0x302 = w →
        x.sock x.level 0x303 = fix k → stores 0x370 (.mxSt c v) k)

/-- 04 R182, R183: STORE_PERFORM of a buffered heap store whose page is resident and unpoisoned puts its word into
memory and takes it out of the buffer; every other word of the heap is as it was.
07 R352: LATEBUS_FAIL of a buffered heap store to a poisoned page makes LATEBUS pending for its slot with error 1;
the store is dropped and memory keeps its word. -/
def Obligations.BufferedStoresLeave : Prop :=
  (∀ (c : CellId) (k : Fin 16) (e : StoreEntry) (s : State), s.Live → (s.cell c).performable k = some e →
      e.code = false → pageOf e.addr ∉ s.heap.poison → s.resident (pageOf e.addr) = true →
      s.heapReg F.ALM_KPORT_L_ADDR F.ALM_KPORT_H_ADDR = 0 →
      ∃ t, exec (.storePerform c k) s = .next t ∧ t.memWord e.addr = e.word
        ∧ (∀ a, a ≠ e.addr → t.memWord a = s.memWord a) ∧ (t.cell c).sbuf = (s.cell c).sbuf.erase e
        ∧ (∀ d, d ≠ c.val → t.cell d = s.cell d) ∧ t.dram = s.dram ∧ t.regs = s.regs)
  ∧ (∀ (c : CellId) (k : Fin 16) (e : StoreEntry) (s : State), s.Live → (s.cell c).performable k = some e →
      e.code = false → pageOf e.addr ∈ s.heap.poison → (s.cell c).latebus.find? e.slot = none →
      ∃ t, exec (.latebusFail c k) s = .next t ∧ s.OnlyCell c t ∧ (t.cell c).sbuf = (s.cell c).sbuf.erase e
        ∧ (t.cell c).latebus.find? e.slot = some (BitVec.ofNat 64 (e.slot + 16 + (e.addr % 2 ^ 40) * 2 ^ 24)))

/-- 05 R244, R245: MX.CAS on a word that the cell has no buffered store of delivers BOOL true and puts its word into
memory at once where the expected word is there, and BOOL false without a store where it is not. MX.FENCE with an empty
store buffer delivers NIL. -/
def Obligations.CompareAndSwap : Prop :=
  ∀ (c : CellId) (w v : TWord) (n k : Nat) (s : State), s.Ready c → s.cellEpoch c = 0 → s.Object w n →
    w.t = tCONS ∨ w.t = tVEC ∨ w.t = tBOX → k < n → k < 2 ^ 63 → s.Loadable c (addrOf w + 1 + k) →
    s.region (pageOf (addrOf w)) = .collected → s.region (pageOf (addrOf w + 1 + k)) = .collected →
    s.heapReg F.ALM_KPORT_L_ADDR F.ALM_KPORT_H_ADDR = 0 →
    let x := s.cell c
    x.sock x.level 0x305 = w → x.sock x.level 0x306 = fix k →
    let a := addrOf w + 1 + k
    let same := (s.memWord a).plain.eqv (x.sock x.level 0x307)
    ∃ t, exec (.mxCas c v) s = .next t ∧ (t.cell c).sock x.level 0x370 = boolW same
      ∧ t.memWord a = (if same then v.plain else s.memWord a)
      ∧ (∀ b, b ≠ a → t.memWord b = s.memWord b) ∧ (t.cell c).pc = (x.pc + 4) % 2 ^ 32
      ∧ (t.cell c).sbuf = x.sbuf ∧ t.dram = s.dram ∧ t.regs = s.regs ∧ ∀ d, d ≠ c.val → t.cell d = s.cell d

/-- 05 R246: the code-space commands and the fence. MX.FENCE waits for an empty store buffer and then delivers NIL;
MX.CODELD reads the word at a code address; MX.CODEST at level SUP, in epoch 0, puts a store to a code page that is not
EXEC into the store buffer. -/
def Obligations.FenceAndCode : Prop :=
  ∀ (c : CellId) (w : TWord) (s : State), s.Ready c →
    let x := s.cell c
    let gives := fun (i : Instr) (r : TWord) =>
      ∃ t, exec i s = .next t ∧ s.OnlyCell c t ∧ (t.cell c).sock x.level 0x370 = r ∧ (t.cell c).regs = x.regs
        ∧ (t.cell c).pc = (x.pc + 4) % 2 ^ 32
    (x.sbuf = [] → gives (.mxFence c w) nil)
    ∧ (w.t = tCODE → x.sup = true → s.fetchable c w.p = true → x.sbuf = [] →
        gives (.mxCodeld c w) (rawW (s.codeWord c w.p).toNat))
    ∧ (∀ a, w.t = tRAW → x.sup = true → x.sock x.level 0x310 = codeW a → a < 2 ^ 32 → c.val < 256 →
        s.cellEpoch c = 0 → s.codeWindow a = true → (a / 16384) ∉ s.codeExec → x.sbuf.length < 16 →
        ∃ t, exec (.mxCodest c w) s = .next t ∧ s.OnlyCell c t ∧ (t.cell c).sock x.level 0x370 = nil
          ∧ (t.cell c).sbuf = x.sbuf ++ [⟨x.freeSlot, true, a, rawW (w.p % 2 ^ 32)⟩])

/-! ### Allocation, mask-driven transfers (05 R237, R241; 06 R304 to R310; 09 R447) -/

/-- 09 R441, R447; 08 R420: an allocating command at a ready cell in epoch 0 whose slab has room, resident throughout,
makes the object at the slab's next free word: a black header of the slab's parity, then its words; the result is a
pointer to it, the slab's pointer moves past it, and no other word of the heap changes. -/
def Obligations.ObjectsComeFromTheSlab : Prop :=
  ∀ (c : CellId) (v : TWord) (b : Slab) (s : State), s.Ready c → s.cellEpoch c = 0 → (s.cell c).slab = some b →
    b.epoch = 0 → s.resident (pageOf b.ptr) = true → s.cstoreBad = [] → s.loaded c 0x001 = false → s.loaded c 0x002 = false →
    let x := s.cell c
    let makes := fun (i : Instr) (kind : Nat) (words : List TWord) =>
      b.ptr + 1 + words.length ≤ b.lim → words.length < 256 → pageOf (b.ptr + words.length) = pageOf b.ptr →
      ∃ t, exec i s = .next t ∧ (t.cell c).sock x.level 0x2F0 = ptrTo kind b.ptr
        ∧ (t.cell c).slab = some { b with ptr := b.ptr + 1 + words.length }
        ∧ t.heapRead b.ptr = mkHdr black words.length kind b.parity false
        ∧ (∀ k, k < words.length → t.heapRead (b.ptr + 1 + k) = words.getD k (unb 0))
        ∧ (∀ a, a < b.ptr ∨ b.ptr + words.length < a → t.heapRead a = s.heapRead a)
        ∧ (t.cell c).pc = (x.pc + 4) % 2 ^ 32 ∧ (t.cell c).regs = x.regs ∧ t.regs = s.regs ∧ t.dram = s.dram
    makes (.lxCons c v) 0 [(x.sock x.level 0x2A0).plain, v.plain]
    ∧ (∀ n : Nat, n < 256 → x.sock x.level 0x2A2 = fix n → makes (.lxMkvec c v) 1 (List.replicate n v.plain))
    ∧ (∀ n : Nat, n < 256 → makes (.lxMkstr c (fix n)) 2 (List.replicate n (mkN tCHR 0)))
    ∧ makes (.lxMkbox c v) 4 [v.plain]
    ∧ (∀ n : Nat, n < 255 → (x.sock x.level 0x2A8).t = tCODE →
        makes (.lxMkclo c (fix n)) 3 ((x.sock x.level 0x2A8).plain :: List.replicate n (unb 0)))

/-- 06 R304 to R308: MX.SAVE of one group of globals into a vector that is long enough puts the group's four registers
into the store buffer in order and clears its dirty bit; MX.REST of it loads them back. Both deliver NIL. -/
def Obligations.MasksTransferRegisters : Prop :=
  ∀ (c : CellId) (w : TWord) (n g : Nat) (s : State), s.Ready c → s.cellEpoch c = 0 → s.Object w n → w.t = tVEC →
    152 ≤ n → g < 4 → s.heap.phase = .idle → s.cstoreBad = [] → s.loaded c 0x007 = false → s.loaded c 0x008 = false →
    (s.cell c).mlPend = none →
    s.region (pageOf (addrOf w)) = .collected →
    let x := s.cell c
    let a := addrOf w + 1 + 4 * g
    ((∀ k, k < 4 → s.region (pageOf (a + k)) = .collected) → x.sbuf = [] → x.sock x.level 0x318 = w →
      ∃ t, exec (.mxSave c (fix (2 ^ g : Nat))) s = .next t
        ∧ ((t.cell c).sbuf.map fun e => (e.code, e.addr, e.word))
            = (List.range 4).map (fun k => (false, a + k, (x.reg (4 * g + k)).plain))
        ∧ (t.cell c).dirty.getLsbD g = false ∧ (t.cell c).sock x.level 0x370 = nil ∧ (t.cell c).mlPend = none
        ∧ (t.cell c).pc = (x.pc + 4) % 2 ^ 32 ∧ (t.cell c).regs = x.regs)
    ∧ ((∀ k, k < 4 → s.Loadable c (a + k)) → x.sock x.level 0x31A = w →
      ∃ t, exec (.mxRest c (fix (2 ^ g : Nat))) s = .next t
        ∧ (∀ k, k < 4 → (t.cell c).reg (4 * g + k) = (s.memWord (a + k)).plain)
        ∧ (∀ j, j < 4 * g ∨ 4 * g + 4 ≤ j → (t.cell c).reg j = x.reg j)
        ∧ (t.cell c).dirty.getLsbD g = false ∧ (t.cell c).sock x.level 0x370 = nil ∧ (t.cell c).mlPend = none
        ∧ (t.cell c).pc = (x.pc + 4) % 2 ^ 32)

/-! ### Control flow (05 R247 to R252; 06 R279 to R284; 07 R379 to R382) -/

/-- 05 R248 to R252; 06 R279 to R283: the control-flow commands at a ready cell. JMP goes to the code address. CALL and
ENTER take the next window, link the next move and pass w8 to w11 as w0 to w3; ENTER also sets SUP and gives the old SUP
in w15. RET and TRET go to the linked address, free the window and deliver their word, RET to BR.RES and TRET to GA.RES.
RESYNC empties the fetch buffer. -/
def Obligations.ControlGoesWhereLinked : Prop :=
  ∀ (c : CellId) (w : TWord) (s : State), s.Ready c →
    let x := s.cell c
    let next := (x.win + 1) % 8
    let prev := (x.win + 7) % 8
    (w.t = tCODE → ∃ t, exec (.brJmp c w) s = .next t ∧ s.OnlyCell c t ∧ (t.cell c).pc = w.p % 2 ^ 32 / 4 * 4
        ∧ x.OnlyUnits (t.cell c) ∧ (t.cell c).socks = x.socks)
    ∧ (w.t = tCODE → x.owner next = none →
        ∃ t, exec (.brCall c w) s = .next t ∧ (t.cell c).pc = w.p % 2 ^ 32 / 4 * 4 ∧ (t.cell c).win = next
          ∧ (t.cell c).owner next = some x.level ∧ (t.cell c).link next = linkOf ((x.pc + 4) % 2 ^ 32) 0 false true
          ∧ ∀ k, k < 4 → (t.cell c).reg (winKey next k) = (x.readReg (0x18 + k)).plain)
    ∧ (∀ g e : Nat, w = fix g → g < 256 → x.gatebase.t = tCODE → x.owner next = none → x.sbuf = [] →
        let a := x.gatebase.p % 2 ^ 32 + 4 * g
        s.fetchable c a = true → s.execPage c a = true → (s.codeWord c a).toNat = e → 4 ≤ e → e / 2 % 2 = 0 →
        (e % 2 = 1 ∨ x.sup = true) →
        ∃ t, exec (.brEnter c w) s = .next t ∧ s.OnlyCell c t ∧ (t.cell c).pc = e / 4 * 4 ∧ (t.cell c).win = next
          ∧ (t.cell c).sup = true ∧ (t.cell c).reg (winKey next 15) = boolW x.sup
          ∧ (t.cell c).link next = linkOf ((x.pc + 4) % 2 ^ 32) 0 false true)
    ∧ (x.isLent x.win = false → (x.link x.win).getLsbD 49 = true → (x.link x.win).getLsbD 48 = false →
        x.owner prev = some x.level → s.epochPending c = false →
        ∃ t, exec (.brRet c w) s = .next t ∧ s.OnlyCell c t ∧ (t.cell c).pc = (x.link x.win).toNat % 2 ^ 32
          ∧ (t.cell c).win = prev ∧ (t.cell c).owner x.win = none ∧ (t.cell c).sock x.level 0x3F0 = w.plain)
    ∧ (x.isLent x.win = false → (x.link x.win).getLsbD 49 = true → (x.link x.win).getLsbD 48 = true →
        x.owner prev = some x.level → s.cstoreBad = [] → s.loaded c 0x006 = false →
        ∃ t, exec (.brTret c w) s = .next t ∧ s.OnlyCell c t ∧ (t.cell c).pc = (x.link x.win).toNat % 2 ^ 32
          ∧ (t.cell c).win = prev ∧ (t.cell c).sock x.level 0x1F0 = w.plain)
    ∧ (∃ t, exec (.brResync c w) s = .next t ∧ s.OnlyCell c t ∧ (t.cell c).fetch = []
        ∧ (t.cell c).pc = (x.pc + 4) % 2 ^ 32 ∧ (t.cell c).regs = x.regs)

/-! ### Sprigs and epochs from a cell (05 R253 to R257; 10 R496 to R535) -/

/-- 05 R253 to R256; 10 R501 to R504, R516: SPAWN with a code word makes the lowest free slot a READY sprig of the spawned
priority and class and delivers its handle; CANCEL answers UNB 1 for a stale handle and BOOL true after ending a READY
sprig with exit UNB 3; YIELD makes the running sprig READY; EXIT ends it with its word. -/
def Obligations.SprigsSpawnAndEnd : Prop :=
  ∀ (c : CellId) (w : TWord) (n : Nat) (s : State), s.Ready c → (s.cell c).level = .l0 → s.cellEpoch c = 0 →
    s.epochPending c = false → (s.cell c).ops = [] →
    let x := s.cell c
    let p := (x.sock .l0 0x3C8).p
    (w.t = tCODE → x.sbuf = [] → (x.sock .l0 0x3C8).t = tFIX → p &&& 0x37 = p → p < 0x40 → bits p 5 4 = 0 ∨ bits p 5 4 = 2 →
        s.freeSlotNo = some n → (s.slot n).ctx.isSome = true →
        ∃ t, exec (.brSpawn c w) s = .next t ∧ (t.slot n).state = .ready ∧ (t.slot n).pri = bits p 2 0
          ∧ (t.slot n).cls = bits p 5 4 ∧ (t.slot n).epoch = 0 ∧ (t.cell c).sock .l0 0x3F0 = s.handle n
          ∧ (t.cell c).pc = (x.pc + 4) % 2 ^ 32)
    ∧ (w.t = tSPRG → s.stale w = true →
        ∃ t, exec (.brCancel c w) s = .next t ∧ s.OnlyCell c t ∧ (t.cell c).sock .l0 0x3F0 = unb 1)
    ∧ (w.t = tSPRG → s.stale w = false → (s.slot (sprgSlot w)).state = .ready → x.sprig ≠ some (sprgSlot w) →
        ∃ t, exec (.brCancel c w) s = .next t ∧ (t.slot (sprgSlot w)).state = .ended
          ∧ (t.slot (sprgSlot w)).exit = unb 3 ∧ (t.cell c).sock .l0 0x3F0 = boolW true)
    ∧ (x.sprig = some n → (s.slot n).ctx.isSome = true →
        ∃ t, exec (.brYield c w) s = .next t ∧ (t.slot n).state = .ready ∧ (t.cell c).sprig = none
          ∧ (t.slot n).cell = none)
    ∧ (x.sprig = some n →
        ∃ t, exec (.brExit c w) s = .next t ∧ (t.slot n).state = .ended ∧ (t.slot n).exit = w.plain
          ∧ (t.cell c).sprig = none)

/-- 05 R257; 10 R531, R549, R556: in Ivory mode with speculation enabled SPECULATE opens the lowest free epoch beneath
the sprig's own and delivers its number; ECONFIRM and ESQUASH of an epoch that the sprig opened hand the Shepherd its
request and go on. -/
def Obligations.EpochsOpenAndResolve : Prop :=
  ∀ (c : CellId) (w : TWord) (n e : Nat) (s : State), s.Ready c → (s.cell c).level = .l0 → (s.cell c).sprig = some n →
    s.epochPending c = false →
    let x := s.cell c
    (s.mode = .ivory → s.bit F.SHP_CTL_SPEC_EN = true → s.shep.leavingIvory = false → s.freeEpoch = some e →
        ∃ t, exec (.brSpeculate c w) s = .next t ∧ (t.cell c).sock .l0 0x3F0 = fix e
          ∧ t.shep.epochs.find? e = some ⟨s.cellEpoch c, n, (s.slot n).gen, s.shep.epochOrder⟩
          ∧ (t.cell c).pc = (x.pc + 4) % 2 ^ 32)
    ∧ (∀ y, w = fix e → 1 ≤ e → e ≤ 15 → s.shep.epochs.find? e = some y → y.opener = n → y.openerGen = (s.slot n).gen →
        (∃ t, exec (.brEconfirm c w) s = .next t ∧ t.shep.reqs = s.shep.reqs ++ [⟨false, e, some (s.handle n)⟩]
          ∧ (t.cell c).pc = (x.pc + 4) % 2 ^ 32)
        ∧ (∃ t, exec (.brEsquash c w) s = .next t ∧ t.shep.reqs = s.shep.reqs ++ [⟨true, e, some (s.handle n)⟩]
          ∧ (t.cell c).pc = (x.pc + 4) % 2 ^ 32))

/-! ### Events and waits (05 R258 to R270) -/

/-- 05 R261 to R264, R267, R270: WAIT and CLR take the pending bits of their mask from the running sprig's set and
deliver them; UNTIL does so at or after its stamp; SEND sets its bits in the pending set of a live sprig and delivers
BOOL true. -/
def Obligations.EventsAreTakenAndSent : Prop :=
  ∀ (c : CellId) (w : TWord) (n : Nat) (s : State), s.Ready c → (s.cell c).sprig = some n →
    let x := s.cell c
    let takes := fun (i : Instr) (mask : W64) =>
      ∃ t, exec i s = .next t ∧ (t.cell c).sock x.level 0x43F = mk tEVT ((s.slot n).pend &&& mask)
        ∧ (t.slot n).pend = (s.slot n).pend &&& ~~~((s.slot n).pend &&& mask) ∧ (t.cell c).pc = (x.pc + 4) % 2 ^ 32
        ∧ (∀ k, k ≠ n → t.slot k = s.slot k) ∧ t.heap = s.heap ∧ t.regs = s.regs
    (w.t = tEVT → (s.slot n).pend &&& (w.payload &&& evMask) ≠ 0#64 → takes (.evWait c w) (w.payload &&& evMask))
    ∧ (w.t = tSTAMP → w.p ≤ s.now → (x.sock x.level 0x401).t = tEVT →
        takes (.evUntil c w) ((x.sock x.level 0x401).payload &&& evMask))
    ∧ (w.t = tEVT → takes (.evClr c w) w.payload)
    ∧ (∀ h : TWord, w.t = tEVT → w.p < 2 ^ 48 → x.sock x.level 0x403 = h → s.liveHandle h = true → x.sbuf = [] →
        s.cellEpoch c = 0 →
        ∃ t, exec (.evSend c w) s = .next t ∧ (t.cell c).sock x.level 0x43F = boolW true
          ∧ (t.slot (sprgSlot h)).pend = (s.slot (sprgSlot h)).pend ||| w.payload
          ∧ (∀ k, k ≠ sprgSlot h → t.slot k = s.slot k) ∧ (t.cell c).pc = (x.pc + 4) % 2 ^ 32)

/-- 10 R525; 05 R266; 04 R211: a blocked sprig whose wait holds becomes READY, at an event by WAIT_WAKE and at its stamp
by UNTIL_STAMP_REACHED; a wait of 20 µs at level 1 ends in EVTO, which a handler of level 1 takes as DOUBLE; a RESYNC
that arrives empties the fetch buffer. -/
def Obligations.WaitsEnd : Prop :=
  ∀ (c : CellId) (n : Fin 4096) (s : State), s.Live →
    (∀ m : W64, (s.slot n).state = .blocked → (s.slot n).waitMask = some m → (s.slot n).pend &&& m ≠ 0#64 →
        ∃ t, exec (.waitWake (.sprig n)) s = .next t ∧ (t.slot n).state = .ready ∧ t.cells = s.cells
          ∧ ∀ k, k ≠ n.val → t.slot k = s.slot k)
    ∧ (∀ d, (s.slot n).state = .blocked → (s.slot n).waitStamp = some d → d ≤ s.now →
        ∃ t, exec (.untilStampReached (.sprig n)) s = .next t ∧ (t.slot n).state = .ready ∧ t.cells = s.cells
          ∧ ∀ k, k ≠ n.val → t.slot k = s.slot k)
    ∧ (∀ v, (s.cell c).wait = some v → s.running c = true → (s.cell c).level = .l1 → v.isEvent = true →
        v.since + 20000 ≤ s.now → (s.cell c).ops = [] → ((s.cell c).vbase.get .l3).t = tCODE →
        s.fetchable c ((((s.cell c).vbase.get .l3).p + cDOUBLE * 64) % 2 ^ 32) = true →
        ∃ t, exec (.evto c) s = .next t ∧ s.OnlyCell c t ∧ (t.cell c).level = .l3
          ∧ (t.cell c).pc = (((s.cell c).vbase.get .l3).p + cDOUBLE * 64) % 2 ^ 32
          ∧ ((t.cell c).save.get .l3).cause = rawW (cDOUBLE + cEVTO * 256 + 1 * 2 ^ 16)
          ∧ ((t.cell c).save.get .l3).info = rawW v.sock)
    ∧ (∀ p, s.resyncs.find? (fun p => p.2 == c.val) = some p →
        ∃ t, exec (.resyncEvent c) s = .next t ∧ (t.cell c).fetch = [] ∧ t.resyncs = s.resyncs.erase p
          ∧ ∀ d, d ≠ c.val → t.cell d = s.cell d)

/-! ### Supervisor and Warden sockets (04 R208 to R212; 07 R327 to R364; 19 R930 to R933) -/

/-- 07 R327 to R329: a write of SY.ST at level 0 with no operation in flight sets EXACT, OVFE and DZE, can clear SUP but
not set it, and leaves the window, the level, the mode bits, FPA, HOLD, EPOCH and PRI.
04 R208 to R210; 07 R360 to R365; 18 R902: CPSET with FIX 0 makes the page executable; CPSET_PATCH_COMPLETE ends the
execution of a page whose change is requested; HOLD of n moves opens a hold of n moves and 2 µs and sets ST.HOLD;
SY.CONFIRM with the gates open and no trial goes on. -/
def Obligations.StatusPagesHoldsAndConfirm : Prop :=
  (∀ (c : CellId) (w : TWord) (s : State), s.Ready c → (s.cell c).level = .l0 → (s.cell c).sup = true →
      (s.cell c).ops = [] → (w.t = tFIX ∨ w.t = tRAW) →
      let old := ((s.cell c).st.get .l0).toNat
      ∃ t, exec (.syStWrite c w) s = .next t ∧ s.OnlyCell c t
        ∧ (let new := ((t.cell c).st.get .l0).toNat
           bits new 9 7 = bits w.p 9 7 ∧ bits new 3 3 = bits w.p 3 3 ∧ bits new 2 0 = bits old 2 0
             ∧ bits new 6 4 = bits old 6 4 ∧ bits new 10 10 = bits old 10 10 ∧ bits new 11 11 = bits old 11 11
             ∧ bits new 15 12 = bits old 15 12 ∧ bits new 18 16 = bits old 18 16)
        ∧ (∀ l, l ≠ .l0 → (t.cell c).st.get l = (s.cell c).st.get l) ∧ (t.cell c).pc = ((s.cell c).pc + 4) % 2 ^ 32
        ∧ (t.cell c).regs = (s.cell c).regs ∧ (t.cell c).save = (s.cell c).save)
  ∧ (∀ (c : CellId) (s : State), s.Ready c → (s.cell c).sup = true → s.cellEpoch c = 0 →
      let x := s.cell c
      (∀ a, x.sock x.level 0x610 = codeW a → a < 2 ^ 32 → s.codeWindow a = true → s.codeStoresTo (a / 16384) = false →
          ∃ t, exec (.syCpset c (fix 0)) s = .next t ∧ (a / 16384) ∈ t.codeExec ∧ (∀ p ∈ s.codeExec, p ∈ t.codeExec)
            ∧ (t.cell c).pc = (x.pc + 4) % 2 ^ 32 ∧ t.dram = s.dram)
      ∧ (∀ p, p ∈ s.patchReqs →
          ∃ t, exec (.cpsetPatchComplete p) s = .next t ∧ t.codeExec = s.codeExec.erase p
            ∧ t.patchReqs = s.patchReqs.erase p ∧ t.cells = s.cells ∧ t.regs = s.regs)
      ∧ (∀ n : Nat, 1 ≤ n → n ≤ 512 → x.level = .l0 ∨ x.level = .l1 →
          ∃ t, exec (.syHold c (fix n)) s = .next t ∧ s.OnlyCell c t
            ∧ (t.cell c).hold = some ⟨x.level, n, s.now + 2000⟩
            ∧ bits ((t.cell c).st.get x.level).toNat 11 11 = 1 ∧ (t.cell c).pc = (x.pc + 4) % 2 ^ 32)
      ∧ (∀ w, s.gated = false → s.bit F.GKP_BOOT_TRIAL = false →
          ∃ t, exec (.syConfirm c w) s = .next t ∧ s.OnlyCell c t ∧ x.OnlyUnits (t.cell c)
            ∧ (t.cell c).pc = (x.pc + 4) % 2 ^ 32))

/-- 19 R931, R932: the Warden's accesses to its local memory. A store writes its bytes in little-endian order at SY.SYSA
and leaves every other byte; a load delivers them as RAW; SY.SYSA advances by the size while SY.SYSINC is true. -/
def Obligations.WardenReachesItsMemory : Prop :=
  ∀ (w : TWord) (s : State) (a : Nat), s.Ready 256 → (s.cell 256).sup = true →
    let x := s.cell 256
    x.sock x.level 0x700 = rawW a → x.sock x.level 0x701 = boolW true →
    let after := fun (n : Nat) => rawW ((a + n) % 2 ^ 40)
    (∀ n, n = 4 ∨ n = 8 → a % n = 0 → a + n ≤ 0x100000 →
        ∃ t, exec (.sySysld 256 (fix n) .none) s = .next t ∧ (t.cell 256).sock x.level 0x70F = rawW (Memory.le 0#8 s.wmem a n)
          ∧ (t.cell 256).sock x.level 0x700 = after n ∧ t.wmem = s.wmem ∧ s.OnlyCell 256 t)
    ∧ (w.t = tFIX ∨ w.t = tRAW → a % 4 = 0 → a + 4 ≤ 0x100000 →
        ∃ t, exec (.sySysst4 256 w) s = .next t ∧ Memory.readN 0#8 t.wmem a 4 = leBytes 4 w.p
          ∧ (∀ b, b < a ∨ a + 4 ≤ b → Memory.read 0#8 t.wmem b = Memory.read 0#8 s.wmem b)
          ∧ (t.cell 256).sock x.level 0x700 = after 4 ∧ t.dram = s.dram ∧ t.flash = s.flash ∧ t.host = s.host
          ∧ t.regs = s.regs)
    ∧ (w.t = tFIX ∨ w.t = tRAW → a % 8 = 0 → a + 8 ≤ 0x100000 →
        ∃ t, exec (.sySysst8 256 w) s = .next t ∧ Memory.readN 0#8 t.wmem a 8 = leBytes 8 w.p
          ∧ (∀ b, b < a ∨ a + 8 ≤ b → Memory.read 0#8 t.wmem b = Memory.read 0#8 s.wmem b)
          ∧ (t.cell 256).sock x.level 0x700 = after 8 ∧ t.dram = s.dram ∧ t.flash = s.flash ∧ t.host = s.host
          ∧ t.regs = s.regs)

/-! ### Exceptions, interrupts, returns (07 R331 to R377) -/

/-- 07 R325, R335 to R342: a synchronous cause at level 0 enters level 1. The save set of level 1 holds the address of the
move, the old ST with HOLD clear, the cause and SV_INFO; the new ST has SUP and EXACT set, INT 1 and the next window; the
cell goes on at the vector of its cause. The command is EV.CLR of a word that is no EVT, which is TAGMISS.
07 R346, R348, R349: SY.RETI at level 2 entered from level 1, with no operation in flight, goes back to the saved
address at level 1, in the window it was entered from. -/
def Obligations.LevelsAreEnteredAndLeft : Prop :=
  (∀ (c : CellId) (w : TWord) (s : State), s.Ready c → (s.cell c).level = .l0 → (s.cell c).ops = [] → w.t ≠ tEVT →
      ((s.cell c).sprig.isSome = true ∨ c.val = 256) → (s.cell c).pc < 2 ^ 32 →
      let x := s.cell c
      let vec := ((x.vbase.get .l1).p + cTAGMISS * 64) % 2 ^ 32
      (x.vbase.get .l1).t = tCODE → s.fetchable c vec = true →
      ∃ t, exec (.evClr c w) s = .next t ∧ s.OnlyCell c t ∧ (t.cell c).level = .l1 ∧ (t.cell c).pc = vec
        ∧ ((t.cell c).save.get .l1).pc = codeW x.pc
        ∧ ((t.cell c).save.get .l1).st.p = setBits (x.st.get .l0).toNat 11 11 0
        ∧ ((t.cell c).save.get .l1).cause = rawW cTAGMISS
        ∧ ((t.cell c).save.get .l1).info = rawW (0x405 + w.t * 2 ^ 12 + 0x3F * 2 ^ 18 + 2 ^ 24)
        ∧ (let st := ((t.cell c).st.get .l1).toNat
           bits st 2 0 = (x.win + 1) % 8 ∧ bits st 3 3 = 1 ∧ bits st 6 4 = 1 ∧ bits st 7 7 = 1 ∧ bits st 15 12 = x.epoch
             ∧ bits st 18 16 = x.pri)
        ∧ (∀ l, l ≠ .l1 → (t.cell c).save.get l = x.save.get l))
  ∧ (∀ (c : CellId) (w : TWord) (s : State), s.Ready c → (s.cell c).sup = true → (s.cell c).level = .l2 →
      (s.cell c).ops = [] → (s.cell c).dropEpoch = none → ((s.cell c).save.get .l2).fromLevel = .l1 →
      let sv := (s.cell c).save.get .l2
      ∃ t, exec (.syReti c w) s = .next t ∧ s.OnlyCell c t ∧ (t.cell c).level = .l1 ∧ (t.cell c).pc = sv.pc.p
        ∧ (t.cell c).win = bits sv.win.p 2 0
        ∧ (let st := ((t.cell c).st.get .l1).toNat
           bits st 3 3 = bits sv.st.p 3 3 ∧ bits st 9 7 = bits sv.st.p 9 7 ∧ bits st 10 10 = bits sv.st.p 10 10
             ∧ bits st 11 11 = 0)
        ∧ (∀ l, l ≠ .l1 → (t.cell c).st.get l = (s.cell c).st.get l) ∧ (t.cell c).socks = (s.cell c).socks)

/-- 07 R363 to R377: an interrupt packet that arrives at a cell in placement sets its pending bit and payload; an IRQ
that can be taken at level 0 enters level 1 at vector 0x20 + n with its payload in SV_INFO and is no longer pending; a
hold whose moves or time are used up ends with HOLDX; the NMI pin makes NMI pending at the Warden; the Warden's
IRQ_RAISE sends a packet to every routed cell. -/
def Obligations.InterruptsReachTheirCells : Prop :=
  ∀ (c : CellId) (s : State), s.Live →
    (∀ p : IrqPacket, s.irqs.find? (fun p => p.cell == c.val) = some p → p.irq < 32 → s.inPlacement c = true →
        ∃ t, exec (.irqArrive c) s = .next t ∧ (t.cell c).irqPend.getLsbD p.irq = true
          ∧ AMap.get 0#32 (t.cell c).irqPay p.irq = p.payload ∧ t.irqs = s.irqs.erase p
          ∧ ∀ d, d ≠ c.val → t.cell d = s.cell d)
    ∧ (∀ n, n < 32 → (s.cell c).takeable = some (.irq n) → (s.cell c).level = .l0 → s.mayTake c = true →
        (s.cell c).irqL2 = 0#32 → (s.cell c).nmi = none → (s.cell c).ops = [] → (s.cell c).defer = none → (s.cell c).early = [] →
        (s.cell c).lowIrq true = none →
        ((s.cell c).sprig.isSome = true ∨ c.val = 256) → ((s.cell c).vbase.get .l1).t = tCODE →
        let vec := (((s.cell c).vbase.get .l1).p + (0x20 + n) * 64) % 2 ^ 32
        s.fetchable c vec = true →
        ∃ t, exec (.interruptEntry c) s = .next t ∧ s.OnlyCell c t ∧ (t.cell c).level = .l1 ∧ (t.cell c).pc = vec
          ∧ (t.cell c).irqPend.getLsbD n = false
          ∧ ((t.cell c).save.get .l1).info = rawW (AMap.get 0#32 (s.cell c).irqPay n).toNat)
    ∧ (∀ h, (s.cell c).hold = some h → (s.cell c).level = .l0 → (s.cell c).ops = [] → (s.cell c).defer = none →
        (s.cell c).early = [] → ((s.cell c).vbase.get .l1).t = tCODE →
        s.fetchable c ((((s.cell c).vbase.get .l1).p + cHOLDX * 64) % 2 ^ 32) = true →
        (h.left = 0 → ∃ t, exec (.holdMoveBound c) s = .next t ∧ s.OnlyCell c t ∧ (t.cell c).hold = none
          ∧ (t.cell c).level = .l1 ∧ ((t.cell c).save.get .l1).cause = rawW cHOLDX)
        ∧ (h.endsAt ≤ s.now → ∃ t, exec (.holdTimeBound c) s = .next t ∧ s.OnlyCell c t ∧ (t.cell c).hold = none
          ∧ (t.cell c).level = .l1 ∧ ((t.cell c).save.get .l1).cause = rawW cHOLDX))
    ∧ (∃ t, exec .nmiPinEdge s = .next t ∧ ∃ i, (t.cell 256).nmi = some i ∧ i.getLsbD 0 = true)
    ∧ (∀ (k : Fin 8) (p : BitVec 24), s.bit (F.ALM_IRQ_ROUTE_EN (24 + k.val)) = true →
        s.bit (F.ALM_IRQ_ROUTE_ONE (24 + k.val)) = false → s.bit (F.ALM_IRQ_ROUTE_WDN (24 + k.val)) = true →
        ∃ t, exec (.irqRaiseWrite .warden k p) s = .next t
          ∧ t.irqs = s.irqs ++ ((cellRange (s.fld (F.ALM_IRQ_ROUTE_FIRST (24 + k.val)))
              (s.fld (F.ALM_IRQ_ROUTE_LAST (24 + k.val)))) ++ [256]).map
                (fun d => ⟨d, 24 + k.val, p.setWidth 32, s.bit (F.ALM_IRQ_ROUTE_LEVEL (24 + k.val))⟩)
          ∧ t.cells = s.cells)

/-! ### Moves (04 R158 to R198) -/

/-- 04 R158 to R163, R171, R188: MOVE at a ready cell whose next word is in the fetch buffer. A short immediate to a global
register sets it to FIX of the sign-extended immediate; a register source copies; a move whose guard does not hold only
goes on. -/
def Obligations.MovesTransfer : Prop :=
  ∀ (c : CellId) (w : W32) (s : State), s.Ready c → (s.cell c).fetch.find? (s.cell c).pc = some w →
    (s.cell c).pc % 4 = 0 → bits w.toNat 2 0 = 0 → mvLong w = false →
    let x := s.cell c
    (mvGuard w = 0 → mvInv w = false → mvImm w = true → mvDst w < 0x10 →
        ∃ t, exec (.move c .none) s = .next t ∧ s.OnlyCell c t
          ∧ (t.cell c).reg (mvDst w) = mk tFIX ((BitVec.ofNat 11 (mvSrc w)).signExtend 64)
          ∧ (∀ k, k ≠ mvDst w → (t.cell c).reg k = x.reg k) ∧ (t.cell c).pc = (x.pc + 4) % 2 ^ 32
          ∧ (t.cell c).socks = x.socks ∧ (t.cell c).st = x.st)
    ∧ (mvGuard w = 0 → mvInv w = false → mvImm w = false → mvDst w < 0x10 → mvSrc w < 0x10 →
        ∃ t, exec (.move c .none) s = .next t ∧ s.OnlyCell c t ∧ (t.cell c).reg (mvDst w) = (x.reg (mvSrc w)).plain
          ∧ (∀ k, k ≠ mvDst w → (t.cell c).reg k = x.reg k) ∧ (t.cell c).pc = (x.pc + 4) % 2 ^ 32)
    ∧ (mvGuard w ≠ 0 → (x.preds.get x.level).getLsbD (mvGuard w) = mvInv w →
        ∃ t, exec (.move c .none) s = .next t ∧ s.OnlyCell c t ∧ x.OnlyUnits (t.cell c) ∧ (t.cell c).socks = x.socks
          ∧ (t.cell c).ustat = x.ustat ∧ (t.cell c).pc = (x.pc + 4) % 2 ^ 32)

/-- 04 R191, R197: GUARD_RESOLVE, once the operation is done that a waiting predicate write reads, writes the predicate
with the truth of the result; with nothing issued early the cell stands where it stood. -/
def Obligations.GuardsResolve : Prop :=
  ∀ (c : CellId) (d : Defer) (s : State), s.Live → (s.cell c).defer = some d → (s.cell c).early = [] →
    (s.cell c).busyOp (d.src == 0x260) = false → 0x441 ≤ d.sock → d.sock ≤ 0x447 →
    let x := s.cell c
    ∃ t, exec (.guardResolve c) s = .next t ∧ s.OnlyCell c t ∧ (t.cell c).defer = none
      ∧ ((t.cell c).preds.get x.level).getLsbD (d.sock - 0x440) = (x.sock x.level d.src).truth
      ∧ (∀ k, k < 8 → k ≠ d.sock - 0x440 →
          ((t.cell c).preds.get x.level).getLsbD k = (x.preds.get x.level).getLsbD k)
      ∧ (t.cell c).pc = x.pc ∧ (t.cell c).socks = x.socks

/-- 04 R218, 07 R327: the SY sockets need SUP. At a ready level-0 cell without it a write of SY.ST, SY.CPSET, SY.HOLD,
SY.RETI or SY.CONFIRM is PRIV with reason 2: the cell enters level 1 and nothing outside it changes. -/
def Obligations.SupervisorSocketsNeedSup : Prop :=
  ∀ (c : CellId) (w : TWord) (s : State) (i : Instr) (n : Nat),
    (i, n) ∈ [(.syStWrite c w, 0x600), (.syCpset c w, 0x611), (.syHold c w, 0x618), (.syReti c w, 0x619),
      (.syConfirm c w, 0x650)] →
    s.Ready c → (s.cell c).level = .l0 → (s.cell c).ops = [] → (s.cell c).sup = false →
    ((s.cell c).vbase.get .l1).t = tCODE →
    s.fetchable c ((((s.cell c).vbase.get .l1).p + cPRIV * 64) % 2 ^ 32) = true →
    ∃ t, exec i s = .next t ∧ s.OnlyCell c t ∧ (t.cell c).level = .l1
      ∧ (t.cell c).pc = (((s.cell c).vbase.get .l1).p + cPRIV * 64) % 2 ^ 32
      ∧ ((t.cell c).save.get .l1).cause = rawW cPRIV ∧ ((t.cell c).save.get .l1).info = rawW (n + 2 * 2 ^ 12)

/-! ### Control store (08 R384 to R433) -/

/-- 08 R427, R429, R430, R390, R394, R414, R417, R419: the control-store commands of the Warden. A write and, in Cobalt mode with the cells
held, a patch store the microword of ALM_MC_DATA at ALM_MC_ADDR with good check bits and leave every other microword; a
read gives the microword in ALM_MC_DATA; a scrub that corrects an upset counts it and changes no microword; a runaway
routine of a cell at level 0 is MCABORT, and its alarm of class SAFE is held in Ochre mode. With microcode loaded at the
entry of CONS (log entry 119), LX.CONS runs it: a reserved SEQ in its first microword is MCABORT with reason 1 at that
address, and an END that does nothing else retires the move. -/
def Obligations.ControlStoreCommands : Prop :=
  ∀ (s : State), s.Live →
    let a := s.fld F.ALM_MC_ADDR_ADDR
    (s.bit F.ALM_MC_CTL_MC_LOCK = false →
        ∃ t, exec (.mcWrite .warden) s = .next t ∧ AMap.get 0#120 t.cstore a = s.mcData
          ∧ (∀ b, b ≠ a → AMap.get 0#120 t.cstore b = AMap.get 0#120 s.cstore b) ∧ (∀ g, (g, a) ∉ t.cstoreBad)
          ∧ t.regs = s.regs ∧ t.cells = s.cells)
    ∧ (s.mode = .cobalt → s.cellsHeld = true →
        ∃ t, exec (.mcPatch .warden) s = .next t ∧ AMap.get 0#120 t.cstore a = s.mcData
          ∧ (∀ b, b ≠ a → AMap.get 0#120 t.cstore b = AMap.get 0#120 s.cstore b)
          ∧ t.bit F.ALM_MC_STATUS_PATCHED = true)
    ∧ (∀ g : Grove, (g.val, a) ∉ s.cstoreBad →
        ∃ t, exec (.mcRead .warden g) s = .next t ∧ t.mcData = AMap.get 0#120 s.cstore a
          ∧ t.fld F.ALM_MC_CMD_GROVE = g.val ∧ t.cstore = s.cstore ∧ t.cells = s.cells)
    ∧ (∀ (g : Fin 16) (w : Fin 4096), s.cstoreBad = [] → s.fld (F.ALM_SRC_CLASS aMcFix) ≤ 1 →
        s.fld F.ALM_MCFIX_CNT_COUNT < 2 ^ 32 - 2 →
        ∃ t, exec (.mcScrub [(g, w, false)]) s = .next t ∧ t.bit F.ALM_MC_STATUS_FIX = true
          ∧ t.fld F.ALM_MCFIX_CNT_COUNT = s.fld F.ALM_MCFIX_CNT_COUNT + 1 ∧ t.cstore = s.cstore ∧ t.cstoreBad = [])
    ∧ (∀ (c : CellId) (w : Fin 4096), s.running c = true → (s.cell c).level = .l0 → (s.cell c).ops = [] →
        ((s.cell c).vbase.get .l1).t = tCODE →
        s.fetchable c ((((s.cell c).vbase.get .l1).p + cMCABORT * 64) % 2 ^ 32) = true →
        s.mode = .ochre → s.fld (F.ALM_SRC_CLASS aMcAbort) = 3 →
        ∃ t, exec (.mcabortRunaway c w) s = .next t ∧ (t.cell c).level = .l1
          ∧ (t.cell c).pc = (((s.cell c).vbase.get .l1).p + cMCABORT * 64) % 2 ^ 32
          ∧ ((t.cell c).save.get .l1).cause = rawW cMCABORT
          ∧ ((t.cell c).save.get .l1).info = rawW (w.val + 7 * 4096) ∧ t.power.safeHeld = true
          ∧ ∀ d, d ≠ c.val → t.cell d = s.cell d)
    ∧ (∀ (c : CellId) (v : TWord), s.Ready c → s.cstoreBad = [] → s.loaded c 0x001 = true →
        let x := s.cell c
        let u := s.microAt 0x001
        let vec := ((x.vbase.get .l1).p + cMCABORT * 64) % 2 ^ 32
        (u.seq ≥ 10 → x.level = .l0 → x.ops = [] → (x.vbase.get .l1).t = tCODE → s.fetchable c vec = true →
            s.mode = .ochre → s.fld (F.ALM_SRC_CLASS aMcAbort) = 3 →
            ∃ t, exec (.lxCons c v) s = .next t ∧ (t.cell c).level = .l1 ∧ (t.cell c).pc = vec
              ∧ ((t.cell c).save.get .l1).cause = rawW cMCABORT
              ∧ ((t.cell c).save.get .l1).info = rawW (0x001 + 1 * 4096))
        ∧ (u.seq = 7 → u.reserved = false → u.mem = 0 → u.alu = 0 → u.srca = 0xFFE → u.srcb = 0xFFE → u.dst = 0xFFE →
            ∃ t, exec (.lxCons c v) s = .next t ∧ (t.cell c).pc = (x.pc + 4) % 2 ^ 32 ∧ (t.cell c).regs = x.regs
              ∧ (t.cell c).socks = x.socks ∧ (t.cell c).micro = none ∧ ∀ d, d ≠ c.val → t.cell d = s.cell d))

/-! ### The heap (09) -/

/-- 09 R437, R446, R447, R450, R451: SPN_CTL.LOCK builds the heap; the Spinner gives the oldest request its granule as the
slab of the cell, or its run of pages as a large object with its header and words, or answers it as exhausted; a pin
makes the header of the object at SPN_PIN pinned, an unpin makes it black with the current parity. -/
def Obligations.SpinnerAnswers : Prop :=
  ∀ (s : State), s.Live →
    (s.bit F.SPN_CTL_LOCK = false → 4 ≤ s.fld F.SPN_HEAP_PAGES_COUNT →
        ∃ t, exec (.spnLock .warden) s = .next t ∧ t.bit F.SPN_CTL_LOCK = true ∧ t.heap.built = true
          ∧ t.heap.lastStart = s.now ∧ t.tally.term 2 0 0 = s.fld F.SPN_HEAP_PAGES_COUNT * 1024 ∧ t.cells = s.cells)
    ∧ (∀ (r : SpinReq) (c g : Nat), s.heap.reqs.find? (fun r => r.len = 0) = some r → r.who = .cell c →
        s.pickGran (groveOf c) = some g →
        ∃ t, exec .slabRefill s = .next t
          ∧ (t.cell c).slab = some ⟨g, 256 * g, 256 * g + 256, s.heap.parity, r.epoch⟩
          ∧ t.gran g = ⟨.cellSlab c, s.heap.parity, r.epoch, false⟩ ∧ t.spinReqOf (.cell c) = none
          ∧ (∀ d, d ≠ c → t.cell d = s.cell d) ∧ t.heap.words = s.heap.words)
    ∧ (∀ (r : SpinReq) (c p : Nat), s.heap.reqs.find? (fun r => r.len ≠ 0) = some r → r.who = .cell c →
        s.pickRun (largePages r.len) = some p → (∀ k, k < largePages r.len → s.resident (p + k) = true) →
        ∃ t, exec .largeAlloc s = .next t ∧ (t.cell c).answer = some (.large (1024 * p) r.len)
          ∧ t.spinReqOf (.cell c) = none ∧ (t.gran (4 * p)).st = .largeHead
          ∧ t.heapRead (1024 * p) = mkHdr black r.len r.kind s.heap.parity true
          ∧ (∀ k, k < r.len → t.heapRead (1024 * p + 1 + k) = if k = 0 then r.first else r.fill)
          ∧ ∀ d, d ≠ c → t.cell d = s.cell d)
    ∧ (∀ (r : SpinReq) (c : Nat),
        s.heap.reqs.find? (fun r => s.unservable r && (s.exhaustNow r || s.sweptSince r)) = some r → r.who = .cell c →
        s.fld (F.ALM_SRC_CLASS aHeapExhaust) ≤ 1 →
        ∃ t, exec .heapExhausted s = .next t ∧ (t.cell c).answer = some .exhausted ∧ t.spinReqOf (.cell c) = none
          ∧ t.bit F.SPN_GC_STATUS_EXHAUST = true ∧ t.heap.grans = s.heap.grans)
    ∧ ((s.heapRead s.pinAddr).t = tHDR → s.resident (pageOf s.pinAddr) = true →
        (∃ t, exec (.pinObject .warden) s = .next t
          ∧ t.heapRead s.pinAddr = { s.heapRead s.pinAddr with colour := pinned }
          ∧ ∀ a, a ≠ s.pinAddr → t.heapRead a = s.heapRead a)
        ∧ ∃ t, exec (.unpinObject .warden) s = .next t
          ∧ t.heapRead s.pinAddr = { hdrSet (s.heapRead s.pinAddr) 20 s.heap.parity with colour := black }
          ∧ ∀ a, a ≠ s.pinAddr → t.heapRead a = s.heapRead a)

/-- 09 R461 to R471: how a collection starts and marks. A start from IDLE enters ROOTS and counts the cycle; a cell's
pause, and the scan of a root, leave no resident object they name effectively white; a Gleaner takes the oldest entry of
its queue, shades what its fields name and makes it black; an idle one takes the oldest half (the model's choice of
which, log entry 122) of the fullest queue, at most 512 entries; when nothing is left to mark, RELOCATE begins, or SWEEP at once when no page is condemned, and the
granules held back are held no longer. -/
def Obligations.CyclesStartAndMark : Prop :=
  ∀ (s : State), s.Live →
    let stays := fun (t : State) (a : Nat) => s.region (pageOf a) = .collected → s.resident (pageOf a) = true →
      (s.heapRead a).t = tHDR → effWhite t.heap.parity (t.heapRead a) = false
    (∀ req, s.gcMay = true →
        ∃ t, exec (.gcStartCmd req) s = .next t ∧ t.heap.phase = .roots ∧ t.heap.cycle = s.heap.cycle + 1#32
          ∧ t.heap.lastStart = s.now ∧ t.regs = s.regs ∧ t.cells = s.cells)
    ∧ (s.gcMay = true → s.actFld F.SPN_GC_PERIOD_MS ≠ 0 →
        s.heap.lastStart + s.actFld F.SPN_GC_PERIOD_MS * 1000000 ≤ s.now →
        ∃ t, exec .gcPeriodExpire s = .next t ∧ t.heap.phase = .roots ∧ t.heap.cycle = s.heap.cycle + 1#32
          ∧ t.heap.lastStart = s.now ∧ t.regs = s.regs ∧ t.cells = s.cells)
    ∧ (∀ c : CellId, s.gleaning .roots = true → (s.cell c).placed = true → (s.cell c).level = .l0 →
        (s.cell c).hold = none → (s.cell c).takeable = none → c.val ∉ s.heap.scanned → (s.cell c).ops = [] →
        (s.cell c).defer = none → (s.cell c).early = [] → (s.cell c).slab = none →
        ∃ t, exec (.rootScanPause c) s = .next t ∧ c.val ∈ t.heap.scanned ∧ (t.cell c).pc = (s.cell c).pc
          ∧ ∀ w ∈ cellWords (s.cell c), isPtrTag w.t = true → stays t (addrOf w))
    ∧ (∀ (r : Root) (a : Nat), s.gleaning .roots = true → s.openRoots.contains r = true →
        r = .registered a ∨ r = .obj a ∨ (r = .vec ∧ a = s.rootVec) → a < 2 ^ 40 →
        hdrKind (s.heapRead a) ≤ 4 → (s.heapRead a).colour ≠ pinned →
        ∃ t, exec (.concurrentRootScan r) s = .next t ∧ t.heap.rootsDone = s.heap.rootsDone ++ [r] ∧ stays t a
          ∧ t.cells = s.cells)
    ∧ (∀ (g : Grove) (a : Nat) (q : List Nat), s.gleaning .mark = true → s.greyQueue g = a :: q →
        s.deadEntry a = false → (s.heapRead a).t = tHDR → (s.heapRead a).colour = grey → s.heap.condemned = [] →
        s.resident (pageOf a) = true →
        (∀ k, k < hdrLen (s.heapRead a) → s.resident (pageOf (a + 1 + k)) = true
          ∧ (s.heapRead (a + 1 + k)).t ≠ tFWD
          ∧ (isPtrTag (s.heapRead (a + 1 + k)).t = true → s.resident (pageOf (addrOf (s.heapRead (a + 1 + k)))) = true)) →
        ∃ t, exec (.gleanerScanObject g) s = .next t ∧ (t.heapRead a).t = tHDR ∧ (t.heapRead a).colour = black
          ∧ (∀ k, k < hdrLen (s.heapRead a) → isPtrTag (s.heapRead (a + 1 + k)).t = true →
              stays t (addrOf (s.heapRead (a + 1 + k))))
          ∧ t.cells = s.cells)
    ∧ (∀ g : Grove, s.gleaning .mark = true → s.greyQueue g = [] →
        ∃ t v, exec (.greyQueueSteal g) s = .next t ∧ v ≠ g.val
          ∧ (∀ u, u < 16 → u ≠ g.val → (s.greyQueue u).length ≤ (s.greyQueue v).length)
          ∧ (let n := min 512 ((s.greyQueue v).length / 2)
             t.greyQueue g = (s.greyQueue v).take n ∧ t.greyQueue v = (s.greyQueue v).drop n)
          ∧ ∀ u, u ≠ g.val → u ≠ v → t.greyQueue u = s.greyQueue u)
    ∧ (s.gleaning .mark = true → s.heap.overflow = [] → s.heap.grey = [] → s.openRoots = [] →
        ∃ t, exec .gcMarkTerminate s = .next t
          ∧ t.heap.phase = (if s.heap.condemned = [] then .sweep else .relocate)
          ∧ (∀ g, (t.gran g).held = false) ∧ t.heap.words = s.heap.words)

/-- 09 R472 to R474: how a collection ends. RELOCATE copies an object of a condemned page to the Gleaner's slab under a
black header and leaves a FWD to it; SWEEP turns a dead object of a resident page into a filler and frees the granules
of a dead large object; SELECT condemns at most EVAC_MAX pages, each one that may be condemned, and ends the cycle. -/
def Obligations.CyclesMoveAndSweep : Prop :=
  ∀ (s : State), s.Live →
    (∀ (page : Nat) (f : Found) (g p : Nat), s.gleaning .relocate = true → page ∈ s.heap.condemned →
        (s.pageObjects page).find? s.movable = some f → 2 ≤ f.size →
        s.heap.gslabs.find? (page % 16) = some (g, p) → p + f.size ≤ 256 * g + 256 →
        p + f.size ≤ f.addr ∨ f.addr + f.size ≤ p →
        (∀ k, k < f.size → s.resident (pageOf (p + k)) = true ∧ s.resident (pageOf (f.addr + k)) = true) →
        ∃ t, exec (.gcRelocateObject page) s = .next t ∧ t.heapRead f.addr = mkN tFWD p
          ∧ t.heapRead p = mkHdr black (f.size - 1) (hdrKind f.hdr) s.heap.parity false
          ∧ (∀ k, 1 ≤ k → k < f.size → t.heapRead (p + k) = s.heapRead (f.addr + k))
          ∧ pageOf f.addr ∈ t.heap.relocated ∧ t.cells = s.cells ∧ t.regs = s.regs)
    ∧ (∀ page : Nat, s.gleaning .sweep = true → s.region page = .collected → page ∉ s.heap.swept →
        ∃ t, exec (.gcSweepPage page) s = .next t ∧ t.heap.swept = s.heap.swept ++ [page]
          ∧ (∀ (k : Nat) (f : Found), k < 4 → s.resident page = true →
              (∀ j, j < 4 → (s.gran (4 * page + j)).st ≠ .largeHead) → (s.gran (4 * page + k)).st = .used →
              (s.gran (4 * page + k)).epoch = 0 → f ∈ s.objects (4 * page + k) → s.sweeps f = true →
              t.heapRead f.addr = mkHdr black (f.size - 1) kFill s.heap.parity false)
          ∧ (let h := s.heapRead (1024 * page)
             (s.gran (4 * page)).st = .largeHead → (s.gran (4 * page)).epoch = 0 → h.t = tHDR →
              effWhite s.heap.parity h = true →
              ∀ k, k < 4 * largePages (hdrLen h) → (t.gran (4 * page + k)).st = .free)
          ∧ t.cells = s.cells ∧ t.regs = s.regs)
    ∧ (s.gleaning .select = true → s.bit F.SPN_CTL_GC_EN = false →
        ∃ t, exec .gcSelect s = .next t ∧ t.heap.phase = .idle
          ∧ (∀ p ∈ t.heap.condemned, s.condemnable p = true ∧ s.fld F.SPN_HEAP_BASE_PAGE ≤ p
              ∧ p < s.fld F.SPN_HEAP_BASE_PAGE + s.fld F.SPN_HEAP_PAGES_COUNT)
          ∧ t.heap.condemned.length ≤ s.fld F.SPN_GC_CTL_EVAC_MAX ∧ t.heap.words = s.heap.words ∧ t.regs = s.regs)

/-- 09 R477 to R482, R487 to R491: the Ferrymen. An access queues its page and gives it a free bin of the grove's slice,
in transit; a page-in that completes makes the page resident with the words of DRAM; the page of a written victim goes to
DRAM word for word and its bin carries the page that waits; 20 µs with every bin busy is BINX; FRY_PINn pins the bin of
its page. -/
def Obligations.FerrymenMovePages : Prop :=
  ∀ (s : State), s.Live →
    (∀ (g : Grove) (page n : Nat), s.pageable page = true → s.resident page = false → s.fryQueue (page % 4) = [] →
        s.binOf page = none → s.heap.bins.any (fun e => e.2.next == some page) = false → s.freeBin g = some n →
        ∃ t, exec (.pageInRequest g page) s = .next t ∧ t.fryQueue (page % 4) = [⟨page, g, s.now⟩]
          ∧ t.heap.bins.find? n = some ⟨page, true, false, false, false, none⟩ ∧ t.heap.words = s.heap.words
          ∧ t.cells = s.cells ∧ t.regs = s.regs)
    ∧ (∀ (f : Fin 4) (r : FryReq) (n : Nat) (b : Bin), s.fryQueue f = [r] → s.resident r.page = false →
        s.pageReady r.page = true → s.binOf r.page = some (n, b) → b.transit = true → b.next = none →
        s.sidecarBad r.page = false →
        ∃ t, exec (.pageInComplete f false) s = .next t ∧ t.resident r.page = true ∧ t.fryQueue f = []
          ∧ (∀ w, w < 1024 → t.heapRead (1024 * r.page + w) = dramWord s r.page w) ∧ t.dram = s.dram
          ∧ t.cells = s.cells)
    ∧ (∀ (f : Fin 4) (r : FryReq) (q : List FryReq) (e : Nat × Bin), s.fryQueue f = r :: q →
        List.find? (fun e => e.2.next == some r.page) s.heap.bins = some e → s.binOf e.2.page = some e →
        (∀ a ∈ s.heap.badWords, pageOf a ≠ e.2.page) →
        s.payloadAt e.2.page + 8192 ≤ s.sidecarAt e.2.page ∨ s.sidecarAt e.2.page + 1024 ≤ s.payloadAt e.2.page →
        (∀ w, w < 1024 → let x := AMap.get ⟨0#6, 0#2, 0#64⟩ s.heap.words (e.2.page * 1024 + w)
          if x.t = tHDR then x.p < 2 ^ 62 else x.colour = 0#2) →
        ∃ t, exec (.pageWriteBack f) s = .next t
          ∧ t.heap.bins.find? e.1 = some ⟨r.page, true, e.2.pinned, false, false, none⟩
          ∧ (∀ w, w < 1024 → dramWord t e.2.page w = AMap.get ⟨0#6, 0#2, 0#64⟩ s.heap.words (e.2.page * 1024 + w))
          ∧ t.cells = s.cells ∧ t.regs = s.regs)
    ∧ (∀ (c : CellId) (a since : Nat), (s.cell c).pageWait = some (a, since) → s.running c = true →
        s.binsBusy = true → s.resident (pageOf a) = false → since + 20000 ≤ s.now → (s.cell c).level = .l0 →
        (s.cell c).ops = [] → ((s.cell c).vbase.get .l1).t = tCODE →
        s.fetchable c ((((s.cell c).vbase.get .l1).p + cBINX * 64) % 2 ^ 32) = true →
        ∃ t, exec (.binWaitTimeout c) s = .next t ∧ s.OnlyCell c t ∧ (t.cell c).level = .l1
          ∧ ((t.cell c).save.get .l1).cause = rawW cBINX ∧ ((t.cell c).save.get .l1).info = rawW (binxInfo 1 a)
          ∧ (t.cell c).pc = (((s.cell c).vbase.get .l1).p + cBINX * 64) % 2 ^ 32)
    ∧ (∀ (n : Fin 32) (v : W32) (k : Nat) (b : Bin), v.getLsbD 31 = true → s.bit (F.FRY_PIN_EN n) = false →
        (∀ j, j < 32 → s.bit (F.FRY_PIN_EN j) = true → s.fld (F.FRY_PIN_PAGE j) ≠ bits v.toNat 29 0) →
        s.pageable (bits v.toNat 29 0) = true → s.binOf (bits v.toNat 29 0) = some (k, b) → b.transit = false →
        ∃ t, exec (.fryPinWrite .warden n v) s = .next t ∧ t.heap.bins.find? k = some { b with pinned := true }
          ∧ t.bit (F.FRY_PIN_EN n) = true ∧ t.fld (F.FRY_PIN_PAGE n) = bits v.toNat 29 0
          ∧ t.heap.words = s.heap.words ∧ t.cells = s.cells)

/-! ### The Shepherd and the epochs (10) -/

/-- 10 R512 to R517, R526 to R528: a free cell takes the highest-ranked ready sprig, of its own grove or, stealing, of
the fullest other one; a more urgent ready sprig, and the end of a slice with a rival ready, send the running one back to
READY; a deadline passed sets its event and is counted; at the margin before a lock point an APPLY whose sprigs are all
held is ready. -/
def Obligations.ShepherdPlacesAndPreempts : Prop :=
  ∀ (s : State), s.Live →
    let leaves := fun (i : Instr) (c n : Nat) => (s.cell c).sprig = some n → (s.cell c).level = .l0 →
      (s.cell c).hold = none → (s.cell c).ops = [] → (s.cell c).defer = none → (s.slot n).ctx.isSome →
      ∃ t, exec i s = .next t ∧ (t.slot n).state = .ready ∧ (t.slot n).cell = none ∧ (t.cell c).sprig = none
        ∧ (t.cell c).lastSprig = s.handle n ∧ (∀ d, d ≠ c → t.cell d = s.cell d)
        ∧ ∀ m, m ≠ n → t.slot m = s.slot m
    (∀ (g : Grove) (n c a : Nat), s.cellsHeld = false → s.topRanked (s.readyIn g) = some n →
        (s.slot n).cls ≠ clsIdle → s.preferCell n (s.freeCells g) = some c → (s.slot n).ctx = some a →
        (∀ d, d ≠ c → (s.cell d).fpown ≠ s.handle n) → (s.cell c).slab = none → s.Loadable c (a + 155) →
        ∃ t, exec (.sprigPlace g) s = .next t ∧ (t.slot n).state = .running ∧ (t.slot n).cell = some c
          ∧ (t.slot n).placedAt = s.now ∧ (t.cell c).sprig = some n ∧ (t.cell c).pc = (s.memWord (a + 155)).p
          ∧ ∀ d, d ≠ c → t.cell d = s.cell d)
    ∧ (∀ (g : Grove) (v n c : Nat), s.cellsHeld = false → s.bit F.SHP_CTL_STEAL = true → s.shed = 0 →
        s.readyBusy g = [] → s.stealFrom g = some v → s.topRanked (s.readyBusy v) = some n →
        s.preferCell n (s.freeCells g) = some c → (s.slot n).ctx.isSome →
        ∃ t, exec (.sprigSteal g) s = .next t ∧ (t.slot n).state = .running ∧ (t.slot n).cell = some c
          ∧ (t.slot n).grove = g ∧ (t.cell c).sprig = some n)
    ∧ (∀ (g : Grove) (r n c : Nat), s.shedOut g = none → s.topRanked (s.readyBusy g) = some r →
        s.lowRanked (s.runningIn g) = some n → s.cellsHeld = false → s.freeCells g = [] →
        (s.slot n).pri < (s.slot r).pri → (s.slot n).cell = some c → leaves (.sprigPreempt g) c n)
    ∧ (∀ (c : CellId) (n m : Nat), (s.slot n).placedAt + (s.slot n).slice * 1000 ≤ s.now →
        (s.slot n).cls ≠ clsDeadline → m ∈ s.readyIn (s.slot n).grove →
        lexLt (rankClass (s.slot n)) (rankClass (s.slot m)) = false → leaves (.sliceExpire c) c n)
    ∧ (∀ (n : Fin 4096) (d : Nat), (s.slot n).deadline = some d → (s.slot n).state.live = true →
        (s.slot n).missed = false → d ≤ s.now → (s.slot n).gen < 4096 → s.bit F.SHP_CTL_DLIRQ = false →
        s.fld F.SHP_DLMISS_CNT_COUNT < 2 ^ 32 - 2 →
        ∃ t, exec (.deadlineMiss n) s = .next t ∧ (t.slot n).missed = true ∧ (t.slot n).pend.getLsbD 55 = true
          ∧ t.fld F.SHP_DLMISS_CNT_COUNT = s.fld F.SHP_DLMISS_CNT_COUNT + 1 ∧ t.cells = s.cells
          ∧ ∀ m, m ≠ n.val → t.slot m = s.slot m)
    ∧ (∀ (ring : Fin 16) (out : Fin 2) (f : Flight) (set : List StagedWrite) (hs : List TWord) (k : Nat),
        s.evr.flights = [f] → f.ring = ring → f.op = 6 → f.field 8 1 = out → f.wait = .apply set hs k true false →
        allHeld s hs = true →
        ∃ t, exec (.applyMarginExpire ring out) s = .next t
          ∧ t.evr.flights = [{ f with wait := .apply set hs k true true }] ∧ t.shep = s.shep ∧ t.regs = s.regs)

/-- 10 R549 to R561: the oldest request of the Shepherd's list, with no job of its epoch in the Painters' port and the
Tally's ledgers frozen so that no breach follows. A confirm makes everything of the epoch its parent's, sends its log to
the write-back when the parent is ivory, records its time and closes the epoch; a squash with no open descendant and no
sprig of the epoch on a cell frees its slots, drops its log and closes it. The write-back stores the oldest entry's new
word. -/
def Obligations.EpochsResolveInOrder : Prop :=
  ∀ (s : State), s.Live →
    (∀ (e : Nat) (rest : List EpochReq), s.shep.reqs = ⟨false, e, none⟩ :: rest → s.epochOpen e = true → e ≠ 0 →
        s.parentOf e ≠ e → s.shep.leavingIvory = false → s.portBusy e = false → s.tally.reports = [] →
        (∀ l, 1 ≤ l → l ≤ 7 → s.frozen l = true) →
        ∃ t, exec .epochConfirmInstant s = .next t ∧ t.epochOpen e = false ∧ t.shep.reqs = rest
          ∧ (∀ n, (s.slot n).state ≠ .free → (s.slot n).epoch = e → (t.slot n).epoch = s.parentOf e)
          ∧ (∀ x ∈ t.shep.log, x.epoch ≠ e)
          ∧ (s.parentOf e = 0 → t.shep.writeback
              = s.shep.writeback ++ (s.shep.log.filter fun x => x.epoch = e).map fun x => { x with epoch := 0 })
          ∧ t.pair F.SHP_CONF_TIME_LO_TIME_LO.off = s.now)
    ∧ (∀ (e : Nat) (rest : List EpochReq), s.shep.reqs = ⟨true, e, none⟩ :: rest → s.epochOpen e = true → e ≠ 0 →
        s.squashList e = [e] → s.portBusy e = false → s.tally.reports = [] →
        (∀ l, 1 ≤ l → l ≤ 7 → s.frozen l = true) →
        (s.slotsOf e).Nodup → (∀ n ∈ s.slotsOf e, (s.slot n).cell = none) →
        ∃ t, exec .epochSquashComplete s = .next t ∧ t.epochOpen e = false ∧ t.shep.reqs = rest
          ∧ (∀ n ∈ s.slotsOf e, (t.slot n).state = .free ∧ (t.slot n).gen = ((s.slot n).gen + 1) % 4096)
          ∧ t.shep.log = s.shep.log.filter fun x => x.epoch ≠ e)
    ∧ (∀ (x : LogEntry) (rest : List LogEntry), s.shep.writeback = x :: rest → s.resident (pageOf x.addr) = true →
        s.heap.phase = .idle →
        ∃ t, exec .logWriteBack s = .next t ∧ t.heapRead x.addr = x.new ∧ t.shep.writeback = rest
          ∧ (∀ a, a ≠ x.addr → t.heapRead a = s.heapRead a) ∧ t.cells = s.cells)

/-! ### The Tally (11) -/

/-- 11 R581, R583: the Tally takes the oldest report, which changes the term it names, and no other; an audit that is due
and finds every ledger it checks in balance is counted, and its time kept. -/
def Obligations.TallyTakesAndAudits : Prop :=
  ∀ (s : State), s.Live →
    (∀ (l i k : Nat) (v : Int) (rest : List Report), s.tally.reports = ⟨l, i, [(k, v)]⟩ :: rest → l < 5 → k < 16 →
        i < 2 ^ 16 → s.ledgerBuilt l i = true → 0 ≤ (s.tally.term l i k : Int) + v →
        ∃ t, exec .tallyReport s = .next t ∧ t.tally.reports = rest
          ∧ (t.tally.term l i k : Int) = s.tally.term l i k + v
          ∧ (∀ l' i' k', l' < 8 → i' < 2 ^ 16 → k' < 16 → (l', i', k') ≠ (l, i, k) →
              t.tally.term l' i' k' = s.tally.term l' i' k')
          ∧ t.regs = s.regs ∧ t.cells = s.cells)
    ∧ (s.tally.lastAudit + s.actFld F.TAL_AUDIT_MS * 1000000 ≤ s.now → s.tally.reports = [] →
        (∀ l ∈ s.auditable, auditLedger s l = none) → s.bit F.TAL_CTL_AUDIRQ = false →
        ∃ t, exec .tallyAudit s = .next t ∧ t.tally.lastAudit = s.now ∧ t.tally.terms = s.tally.terms
          ∧ t.fld F.TAL_AUDIT_CNT_COUNT = (s.fld F.TAL_AUDIT_CNT_COUNT + 1) % 2 ^ 32
          ∧ t.bit F.TAL_STATUS_BREACH = s.bit F.TAL_STATUS_BREACH)

/-! ### The Evoser endpoint (12) -/

/-- 12 R599 to R613, R650 to R652: doorbells, descriptors, rings and the link. A doorbell within its bounds sets its
index, and a command index that goes beyond the credit is recorded as a violation and moves nothing; the next descriptor
is consumed and, when every field of it is right and the mode allows it, its command is in flight, else it is answered
BADCMD with the offset of the first wrong field; a ring is enabled with its indices at 0 and credit for its entries,
drains when EN is cleared, and is inactive with no credit once nothing of it is in flight; the link comes up, and its
loss, like a reset of the function, puts the endpoint back to its reset values. -/
def Obligations.RingsDoorbellsAndLink : Prop :=
  ∀ (ring : Fin 16) (s : State), s.Live →
    let r := s.ring ring
    let fresh := fun (t : State) => t.evr.evt = EntryRing.reset ∧ t.evr.log = EntryRing.reset ∧ t.evr.posts = []
      ∧ (∀ n, n < 16 → t.ring n = CmdRing.reset)
      ∧ ∀ off, off / 4096 = 2 → off ≠ 0x2008 → t.reg off = regReset off
    (∀ v : BitVec 16, r.active = true → r.draining = false →
        (idxSub v.toNat r.aci ≤ s.credit ring → idxSub v.toNat r.pi < 2 ^ 15 →
          ∃ t, exec (.cmdPiDoorbell ring v none []) s = .next t
            ∧ t.ring ring = { r with pi := v.toNat, lastPi := v.toNat } ∧ t.regs = s.regs ∧ t.host = s.host)
        ∧ (s.credit ring < idxSub v.toNat r.aci →
          ∃ t, exec (.cmdPiDoorbell ring v none []) s = .next t ∧ (t.ring ring).pi = r.pi
            ∧ t.bit F.EVR_STATUS_VIOL = true)
        ∧ (idxSub v.toNat r.aci ≤ idxSub r.aw r.aci →
          ∃ t, exec (.ansCiDoorbell ring v) s = .next t
            ∧ t.ring ring = { r with aci := v.toNat, lastAci := v.toNat } ∧ t.regs = s.regs ∧ t.host = s.host))
    ∧ (∀ v : BitVec 16,
        (s.bit F.EVR_ECTL_EN = true → idxSub v.toNat s.evr.evt.lastCi ≤ idxSub s.evr.evt.pi s.evr.evt.lastCi →
          ∃ t, exec (.evtCiDoorbell v) s = .next t ∧ t.evr.evt = { s.evr.evt with lastCi := v.toNat }
            ∧ t.evr.log = s.evr.log ∧ t.regs = s.regs)
        ∧ (s.bit F.EVR_LCTL_EN = true → idxSub v.toNat s.evr.log.lastCi ≤ idxSub s.evr.log.pi s.evr.log.lastCi →
          ∃ t, exec (.logCiDoorbell v) s = .next t ∧ t.evr.log = { s.evr.log with lastCi := v.toNat }
            ∧ t.evr.evt = s.evr.evt ∧ t.regs = s.regs))
    ∧ (s.ringOn ring = true → r.pi ≠ r.ci → s.Answering ring →
        (∀ f ∈ s.evr.flights, ¬ (f.ring = ring ∧ f.op = 0x0C)) →
        let b := s.hostRead (s.base64 (0x2100 + 32 * ring) + 64 * (r.ci % 2 ^ s.ringK ring)) 64
        let f : Flight := ⟨ring, r.ci, field b 0 1, field b 1 1 % 2 == 1, field b 2 2, b, s.evr.order, .todo⟩
        ∃ t, exec (.descriptorConsume ring false) s = .next t ∧ (t.ring ring).ci = idxNext r.ci
          ∧ (wrongField s b = none → modeAllows s b = true → t.evr.flights = s.evr.flights ++ [f])
          ∧ ∀ o, wrongField s b = some o → s.Answered f stBadcmd o 0 0 0 t)
    ∧ (∀ (req : Req) (k : Fin 32), r.active = false → 4 ≤ k.val → k.val ≤ 16 →
        ∃ t, exec (.ringEnable req ring k) s = .next t ∧ t.ringOn ring = true
          ∧ (t.ring ring).pi = 0 ∧ (t.ring ring).ci = 0 ∧ (t.ring ring).aw = 0 ∧ (t.ring ring).aci = 0
          ∧ (t.ring ring).phase = true ∧ t.credit ring = min (2 ^ k.val) 256 ∧ t.ringK ring = k
          ∧ t.bit (F.EVR_RCTL_EN ring) = true ∧ ∀ n, n ≠ ring.val → t.ring n = s.ring n)
    ∧ (∀ req : Req, s.ringOn ring = true → s.bit (F.EVR_RCTL_EN ring) = true →
        (∀ f ∈ s.evr.flights, f.ring ≠ ring) →
        ∃ t, exec (.ringDrain req ring) s = .next t ∧ t.ring ring = { r with draining := true }
          ∧ t.bit (F.EVR_RCTL_EN ring) = false ∧ t.evr.flights = s.evr.flights)
    ∧ (r.draining = true → (∀ f ∈ s.evr.flights, f.ring ≠ ring) →
        ∃ t, exec (.ringDrainComplete ring) s = .next t ∧ (t.ring ring).active = false
          ∧ (t.ring ring).draining = false ∧ t.credit ring = 0 ∧ ∀ n, n ≠ ring.val → t.ring n = s.ring n)
    ∧ (s.bit F.PLT_PCIE_CTL_LINKEN = true → s.mode ≠ .sable → s.mode ≠ .umber →
        ∃ t, exec .pcieLinkUp s = .next t ∧ s.OnlyReg F.PLT_PCIE_CTL_LINKUP.off t
          ∧ t.bit F.PLT_PCIE_CTL_LINKUP = true)
    ∧ ((∀ n, (s.ring n).active = false) → s.evr.flights = [] →
        (∃ t, exec .pcieReset s = .next t ∧ fresh t ∧ t.heap = s.heap ∧ t.cells = s.cells)
        ∧ (s.bit F.PLT_PCIE_CTL_LINKUP = true → s.fld (F.ALM_SRC_CLASS aPcieDown) = 0 →
          ∃ t, exec .pcieLinkDown s = .next t ∧ fresh t ∧ t.bit F.PLT_PCIE_CTL_LINKUP = false ∧ t.heap = s.heap
            ∧ t.cells = s.cells))

/-- 12 R622 to R626, R637, R645, R646: commands that their ring answers at once. The oldest command of the ring that has
not begun is answered: NOP; a FENCE with nothing older to wait for; DRAINLOG with no proof record waiting, with the log
ring's write index; QUERY of selector 0 with identity and time, and of selector 3 with the lamp state; STAGE of registers
the host may write, with the number of writes now staged; SIGNALS of one signal, stored in the signal table; CONFIRM of a
trial, which ends it. -/
def Obligations.RingCommandsAnsweredAtOnce : Prop :=
  ∀ (ring : Fin 16) (f : Flight) (s : State), s.Live → s.Answering ring →
    (s.todo ring 0x00 = some f →
        ∃ t, exec (.nop ring) s = .next t ∧ s.Answered f stOk 0 0 0 0 t ∧ t.cells = s.cells ∧ t.regs = s.regs)
    ∧ (s.todo ring 0x0C = some f →
        (∀ g ∈ s.evr.flights, f.field 8 1 = 1 ∨ g.ring = ring → f.order ≤ g.order) →
        ∃ t, exec (.fence ring) s = .next t ∧ s.Answered f stOk 0 0 0 0 t ∧ t.regs = s.regs)
    ∧ (s.todo ring 0x0B = some f → s.lamps.records = [] →
        ∃ t, exec (.drainlog ring) s = .next t ∧ s.Answered f stOk 0 s.evr.log.pi 0 0 t ∧ t.regs = s.regs)
    ∧ (s.todo ring 0x09 = some f →
        (f.field 8 1 = 0 → ∃ t, exec (.query ring) s = .next t
          ∧ s.Answered f stOk 0 ((s.reg 0x0).toNat + (s.reg 0x4).toNat * 2 ^ 32) s.now 0 t ∧ t.regs = s.regs)
        ∧ (f.field 8 1 = 3 → ∃ t, exec (.query ring) s = .next t
          ∧ s.Answered f stOk 0 (s.pair 0x8008) (s.pair 0x8010) (s.reg 0x801C).toNat t ∧ t.regs = s.regs))
    ∧ (s.todo ring 0x05 = some f →
        let n := f.field 8 1
        (∀ j, j < n → hostMayWrite (f.field (16 + 8 * j) 4) = true) → (s.ring ring).staged.length + n ≤ 256 →
        ∃ t, exec (.stage ring) s = .next t ∧ s.Answered f stOk 0 ((s.ring ring).staged.length + n) 0 0 t
          ∧ (t.ring ring).staged = (s.ring ring).staged ++ (List.range n).map (fun j =>
              ⟨f.field (16 + 8 * j) 4, BitVec.ofNat 32 (f.field (20 + 8 * j) 4)⟩)
          ∧ t.regs = s.regs)
    ∧ (s.todo ring 0x01 = some f → f.field 8 1 = 1 → f.field 16 2 < s.vecLen s.sigtab → s.heap.phase = .idle →
        s.resident (pageOf (s.sigtab + 1 + f.field 16 2)) = true → s.liveHandle s.svc = true →
        ∃ t, exec (.signals ring) s = .next t ∧ s.Answered f stOk 0 0 0 0 t
          ∧ t.elem s.sigtab (f.field 16 2) = fix (BitVec.ofNat 32 (f.field 20 4)).toInt
          ∧ (∀ a, a ≠ s.sigtab + 1 + f.field 16 2 → t.heapRead a = s.heapRead a)
          ∧ (t.slot (sprgSlot s.svc)).pend.getLsbD 49 = true ∧ t.regs = s.regs)
    ∧ (s.todo ring 0x08 = some f → s.bit F.GKP_BOOT_TRIAL = true → s.gkp.confirmed = false →
        ∃ t, exec (.confirm ring) s = .next t ∧ s.Answered f stOk 0 0 0 0 t ∧ t.gkp.confirmed = true
          ∧ t.gkp.trialAt = none ∧ t.cells = s.cells)

/-- 12 R627 to R647; 13 R693, R694; 18 R916: commands that wait. LAMPREQ changes the host lamp flags and waits for the
commit, PROOF for the next proof frame, APPLY of a staged set with no sprig for its lock point, IMAGE of target 1 for the
Warden's RBOOT; SCENE asks the Spinner for its pages, copies a graph that passes its checks, is handed to firmware in the
lowest free inbox record and is answered as firmware says; PICTURE takes a tile and copies into it, and is answered with
the number of the frame that shows it. -/
def Obligations.RingCommandsThatWait : Prop :=
  ∀ (ring : Fin 16) (f : Flight) (s : State), s.Live →
    (s.todo ring 0x04 = some f →
        ∃ t, exec (.lampreq ring) s = .next t ∧ s.Waits f .commit t ∧ t.lamps.changed = true
          ∧ t.reg 0x801C = (s.reg 0x801C ||| BitVec.ofNat 32 (f.field 8 4)) &&& ~~~(BitVec.ofNat 32 (f.field 12 4))
          ∧ ∀ o, o ≠ 0x801C → t.reg o = s.reg o)
    ∧ (s.todo ring 0x0A = some f →
        ∃ t, exec (.proof ring) s = .next t ∧ s.Waits f .proof t ∧ t.regs = s.regs)
    ∧ (s.todo ring 0x06 = some f → f.field 11 1 ≠ 1 → f.field 10 1 = 0 → (s.ring ring).staged ≠ [] →
        ∃ t, exec (.apply ring) s = .next t ∧ s.Waits f (.apply (s.ring ring).staged [] 0 true false) t
          ∧ (t.ring ring).staged = [] ∧ t.regs = s.regs)
    ∧ (s.todo ring 0x07 = some f → f.field 8 1 = 1 → (∀ g ∈ s.evr.flights, g.op = 0x07 → g.wait ≠ .image) →
        s.bit F.GKP_STATUS_BUSY = false → s.gkpRefusal 13 0 = none →
        ∃ t, exec (.image ring) s = .next t ∧ s.Waits f .image t ∧ t.bit F.GKP_STATUS_BUSY = true
          ∧ ∃ o, t.gkp.op = some o ∧ o.op = 13 ∧ o.addr = f.field 16 8 ∧ o.len = f.field 24 4 ∧ o.host = true)
    ∧ (s.evr.flights.find? (fun g => g.ring == ring.val && g.op == 0x02 && (g.wait == .todo || g.wait == .spin)) = some f →
        let pages := (f.field 16 4 + 1023) / 1024
        (f.wait = .todo →
          ∃ t, exec (.scene ring false) s = .next t ∧ s.Waits f .spin t
            ∧ ∃ r, t.heap.reqs = s.heap.reqs ++ [r] ∧ r.who = .ring f.order ∧ r.len = 1024 * pages - 1)
        ∧ (∀ base n, f.wait = .spin → s.heap.answers.find? f.order = some (.large base n) →
          graphCheck s (f.field 8 8) (f.field 16 4) (f.field 20 4) (f.field 16 4) 0 0 = none →
          (∀ w, w < 1024 * pages → s.resident (pageOf (base + w)) = true) →
          ∃ t, exec (.scene ring false) s = .next t ∧ s.Waits f (.copied base (base + f.field 20 4)) t
            ∧ (∀ w, w < f.field 16 4 → t.heapRead (base + w) = copyWord s base (graphWord s (f.field 8 8) w))
            ∧ t.regs = s.regs ∧ t.cells = s.cells))
    ∧ (∀ base root r, s.evr.flights.find? (fun g => g.ring == ring.val
            && (match g.wait with | .copied _ _ => true | _ => false)) = some f →
        f.wait = .copied base root → s.liveHandle s.svc = true →
        (List.range (s.vecLen s.inbox / 16)).find? (fun r => (s.elem s.inbox (16 * r + 10)).t == tNIL) = some r →
        s.heap.phase = .idle → s.bit F.SPN_CTL_GC_EN = false →
        (∀ i, i < 16 → s.resident (pageOf (s.inbox + 1 + (16 * r + i))) = true) →
        ∃ t, exec (.sceneHandoff ring) s = .next t ∧ s.Waits f (.inbox r) t
          ∧ (t.slot (sprgSlot s.svc)).pend.getLsbD 48 = true
          ∧ (∀ i, i < 8 → t.elem s.inbox (16 * r + i) = rawW (f.field (8 * i) 8))
          ∧ t.elem s.inbox (16 * r + 8) = fix ((ring.val * 65536 + f.cidx : Nat) : Int)
          ∧ (∃ k, t.elem s.inbox (16 * r + 9) = ptrTo k root) ∧ t.elem s.inbox (16 * r + 10) = unb 0)
    ∧ (∀ r : Fin 256, s.evr.flights.find? (fun g => g.wait == .inbox r.val) = some f → s.Answering f.ring → f.ring < 16 →
        let e := fun i => s.elem s.inbox (16 * r + i)
        (e 10).t = tFIX → (e 10).p % 256 ≤ 13 → s.resident (pageOf (s.inbox + 1 + (16 * r + 10))) = true →
        ∃ t, exec (.inboxAnswer r) s = .next t
          ∧ s.Answered f ((e 10).p % 256) (bits (e 10).p 23 8) (e 11).p (e 12).p (e 13).p t
          ∧ t.elem s.inbox (16 * r + 10) = nil ∧ t.regs = s.regs)
    ∧ (∀ p k, s.evr.flights.find? (fun g => g.ring == ring.val && g.op == 0x03) = some f → f.wait = .todo →
        picturePlaces f = [p] → s.freeTile = some k →
        ∃ t, exec (.picture ring false) s = .next t ∧ s.Waits f (.picture [(posKey 0 p, k)]) t
          ∧ t.pic.used.find? k = some 0 ∧ Memory.readN 0#8 t.dram (s.tileAt k) 4096 = guestTile s f p ∧ t.regs = s.regs)
    ∧ (∀ m, s.evr.flights.find? (fun g => g.ring == ring.val
            && (match g.wait with | .picture _ => true | _ => false)) = some f →
        f.wait = .picture m → m.length = (picturePlaces f).length → f.field 8 1 < 2 →
        (s.pic.out (f.field 8 1)).guestNext = none → s.Answering ring →
        ∃ t, exec (.pictureCopyComplete ring) s = .next t
          ∧ s.Answered f stOk 0 (s.pair (F.MIR_FRAME_LO_FRAME (f.field 8 1)).off + 1) 0 0 t
          ∧ (t.pic.out (f.field 8 1)).guestNext = some m ∧ t.pic.used = s.pic.used ∧ t.regs = s.regs)

/-! ### The Painters and the Mirror (13) -/

/-- 13 R671 to R674, R685 to R701: a job is taken from its port's slot; a finished tile stands in DRAM as painted; a lock
point with no command in flight counts the frame, keeps its time and makes the written planes the active ones; an
underrun is recorded; an output is enabled, trains, and is up; a panel packet leaves at once while the output is off, else
in the next blank. -/
def Obligations.PaintersAndOutputs : Prop :=
  ∀ (out : Fin 2) (s : State), s.Live →
    (∀ (e : Fin 16) (i : Nat) (j : Job),
        let a := s.port e
        let w := s.elem a (2 + i % 128)
        let s' := (s.setElem a (2 + i % 128) nil).setElem a 1 (fix ((i + 1 : Nat) : Int))
        s.bit F.PNT_CTL_EN = true → s.heap.built = true → s.elem a 1 = fix i → i < 2 ^ 60 → w.t = tVEC →
        s.resident (pageOf (a + 1 + (2 + i % 128))) = true → s.resident (pageOf (a + 1 + 1)) = true →
        readJob s' e w = .ok j →
        ∃ t, exec (.painterTakeJob e) s = .next t ∧ t.pic.order = s.pic.order + 1
          ∧ (∃ k ∈ t.pic.jobs, k.order = s.pic.order) ∧ t.heap.registered = s.heap.registered ++ [j.addr]
          ∧ t.elem a (2 + i % 128) = nil ∧ t.elem a 1 = fix ((i + 1 : Nat) : Int))
    ∧ (∀ (p : Fin 8) (w : PaintWork) (j : Job) (k : Nat) (bs : List Byte), s.pic.work.find? p = some w →
        s.job w.job = some j →
        paintTile (s.setPic fun q => { q with work := AMap.erase q.work p }) j.list j.fill (j.place w.pos).1 (j.place w.pos).2 = .ok bs →
        j.tiles.find? w.pos = some k → j.done.length + 1 = j.positions →
        s.resident (pageOf (j.addr + 1 + 5)) = true →
        ∃ t, exec (.tileComplete p) s = .next t ∧ Memory.readN 0#8 t.dram (s.tileAt k) bs.length = bs
          ∧ t.elem j.addr 5 = fix 0)
    ∧ (s.bit (F.MIR_CTL_EN out) = true → s.bit (F.MIR_STATUS_LINKUP out) = true → s.evr.flights = [] →
        s.pair (0x6030 + 256 * out) + 1 < 2 ^ 64 →
        ∃ t, exec (.frameLock out) s = .next t
          ∧ t.pair (0x6030 + 256 * out) = s.pair (0x6030 + 256 * out) + 1 ∧ t.pair (0x6038 + 256 * out) = s.now
          ∧ t.actFld (F.MIR_CTL_PLANES out) = s.fld (F.MIR_CTL_PLANES out) ∧ (t.pic.out out).underrun = [])
    ∧ (∀ col row : Fin 256, s.bit (F.MIR_CTL_EN out) = true → s.fld (F.ALM_SRC_CLASS aMirUnderrun) ≤ 1 →
        ∃ t, exec (.scanoutUnderrun out col row) s = .next t ∧ t.bit (F.MIR_STATUS_UNDERRUN out) = true
          ∧ (col.val, row.val) ∈ (t.pic.out out).underrun ∧ t.pic.jobs = s.pic.jobs)
    ∧ (∀ req : Req, s.bit (F.MIR_CTL_EN out) = false → s.outputOk out = true →
        ∃ t, exec (.outputEnable req out) s = .next t ∧ t.bit (F.MIR_CTL_EN out) = true
          ∧ t.bit (F.MIR_STATUS_LINKUP out) = false ∧ t.pair (0x6030 + 256 * out) = 0
          ∧ (t.pic.out out).training = true)
    ∧ (∀ level : Bool, s.bit (F.MIR_CTL_EN 0) = true →
        ∃ t, exec (.edpHpdIrq level) s = .next t ∧ t.bit (F.MIR_STATUS_HPD 0) = level
          ∧ t.bit (F.MIR_STATUS_LINKUP 0) = false ∧ (t.pic.out 0).training = true)
    ∧ (s.bit (F.MIR_CTL_EN out) = true → (s.pic.out out).training = true →
        ∃ t, exec (.outputLinkup out) s = .next t ∧ t.bit (F.MIR_STATUS_LINKUP out) = true
          ∧ (t.pic.out out).training = false)
    ∧ (∀ req : Req, s.bit F.MIR_DCS_CMD_BUSY = false → s.fld F.MIR_DCS_CMD_DT ≠ 0 → s.fld F.MIR_DCS_CMD_LEN ≠ 0 →
        ∃ t, exec (.dcsSend req) s = .next t
          ∧ (s.bit (F.MIR_CTL_EN 1) = true → t.bit F.MIR_DCS_CMD_BUSY = true ∧ t.out = s.out)
          ∧ (s.bit (F.MIR_CTL_EN 1) = false → t.bit F.MIR_DCS_CMD_BUSY = false
              ∧ t.out = s.out ++ [.dcs (s.fld F.MIR_DCS_CMD_DT) s.dcsBytes]))
    ∧ (s.bit F.MIR_DCS_CMD_BUSY = true →
        ∃ t, exec .dcsSent s = .next t ∧ t.bit F.MIR_DCS_CMD_BUSY = false
          ∧ t.out = s.out ++ [.dcs (s.fld F.MIR_DCS_CMD_DT) s.dcsBytes])

/-! ### The lamps and the Witness (14) -/

/-- 14 R709 to R725, R743 to R745: the Lamp engine. The Warden fills the lamp store and arms it; at the arming instant,
with every check of the book passed, the lamps are off and the flags clear; a pass moves every lamp that is present by
its expression; a flag, an unlatch, a debounced pin and the end of a MINON are changes that the next pass takes; the end
of the bulb check commits; the backup LEDs follow their lamps, and a driver that does not reach its current is an OPEN
fault. -/
def Obligations.LampEngine : Prop :=
  ∀ (s : State), s.Live →
    (∀ v : W32, s.bit F.LMP_CTL_ARM = false → (s.reg 0x8040).toNat < 307200 →
        ∃ t, exec (.lampStoreWrite .warden v) s = .next t
          ∧ Memory.readN 0#8 t.lamps.store (s.reg 0x8040).toNat 4 = leBytes 4 v.toNat
          ∧ (∀ a, a < (s.reg 0x8040).toNat ∨ (s.reg 0x8040).toNat + 4 ≤ a →
              Memory.read 0#8 t.lamps.store a = Memory.read 0#8 s.lamps.store a)
          ∧ (t.reg 0x8040).toNat = (s.reg 0x8040).toNat + 4)
    ∧ (s.bit F.LMP_CTL_ARM = false →
        ∃ t, exec (.lampArm .warden) s = .next t ∧ t.bit F.LMP_CTL_ARM = true ∧ t.lamps.checking = true)
    ∧ (s.lamps.checking = true → (∀ k, 1 ≤ k → k ≤ 8 → s.bookPasses k = true) →
        ∃ t, exec .lampBookChecksDone s = .next t ∧ t.lamps.armed = true ∧ t.lamps.armAt = s.now
          ∧ t.lamps.lamps = [] ∧ t.lamps.bulb = decide (0 < s.bulbMs) ∧ t.reg 0x801C = 0#32 ∧ t.pair 0x8020 = 0
          ∧ t.lamps.checking = false ∧ t.bit F.LMP_STATUS_ROMSET = s.bit F.LMP_STATUS_ROMSET)
    ∧ (∀ k, s.lamps.checking = true → (range' 1 8).find? (fun k => !s.bookPasses k) = some k → s.mode = .ochre →
        s.fld (F.ALM_SRC_CLASS aLmpBook) = 3 →
        ∃ t, exec .lampBookChecksDone s = .next t ∧ t.lamps.armed = true ∧ t.bit F.LMP_STATUS_ROMSET = true
          ∧ t.fld F.LMP_STATUS_BOOKERR = k ∧ t.power.safeHeld = true)
    ∧ (s.lamps.armed = true →
        ∃ t, exec .lampPass s = .next t ∧ t.lamps.changed = false ∧ t.lamps.unlatch = 0#64
          ∧ (∀ i, i < 64 → t.lamp i = if s.lampPresent i then
              lampNext (s.lampRec i) (s.lampExpr (s.lampRec i)) (s.lamps.unlatch.getLsbD i) s.now (s.lamp i)
            else s.lamp i))
    ∧ (∀ i : Fin 64, s.lamps.armed = true → (s.lamp i).st = .hold →
        (s.lamp i).ta + (s.lampRec i).minon * 1000000 ≤ s.now →
        ∃ t, exec (.lampMinonExpire i) s = .next t ∧ t = { s with lamps := { s.lamps with changed := true } })
    ∧ (s.lamps.bulb = true → s.lamps.armed = true → s.lamps.armAt + s.bulbMs * 1000000 ≤ s.now →
        ∃ t, exec .bulbCheckEnd s = .next t ∧ t.lamps.bulb = false
          ∧ t.fld F.LMP_COMMIT_CNT_COUNT = (s.fld F.LMP_COMMIT_CNT_COUNT + 1) % 2 ^ 32)
    ∧ (∀ p : Fin 32, AMap.get 0 s.vio.rawAt p + s.debounceNs p ≤ s.now →
        ∃ t, exec (.lampDebounceExpire p) s = .next t ∧ t.lamps.pins.getLsbD p = s.vio.raw.getLsbD p
          ∧ (∀ q, q < 32 → q ≠ p.val → t.lamps.pins.getLsbD q = s.lamps.pins.getLsbD q) ∧ t.lamps.changed = true
          ∧ t.regs = s.regs)
    ∧ (∀ (hi : Bool) (v : W32),
        let off := if hi then 0x8024 else 0x8020
        (∃ t, exec (.lampUnlatch .warden hi v) s = .next t ∧ t.lamps.changed = true ∧ t.regs = s.regs
          ∧ t.lamps.unlatch = s.lamps.unlatch ||| (v.setWidth 64 <<< (if hi then 32 else 0)))
        ∧ (∃ t, exec (.cflagSet .warden hi v) s = .next t ∧ t.lamps.changed = true ∧ t.reg off = s.reg off ||| v
          ∧ ∀ o, o ≠ off → t.reg o = s.reg o)
        ∧ (∃ t, exec (.cflagClr .warden hi v) s = .next t ∧ t.lamps.changed = true ∧ t.reg off = s.reg off &&& ~~~v
          ∧ ∀ o, o ≠ off → t.reg o = s.reg o))
    ∧ (∃ t, exec .backupLedUpdate s = .next t ∧ s.OnlyReg F.LMP_LEDON_ON.off t
          ∧ ∀ n, n < 16 → (t.fld F.LMP_LEDON_ON).testBit n = s.ledLit n)
    ∧ (∀ (n : Fin 16) (volts : Nat), s.lamps.armed = true → s.fld (F.LMP_LEDMAP_MODE n) ≠ 0 →
        (s.fld F.LMP_LEDON_ON).testBit n = true → volts ≤ s.fld F.LMP_LEDCFG_SHORTV →
        s.fld (F.ALM_SRC_CLASS aLedFault) ≤ 1 →
        ∃ t, exec (.ledTestPulse n false volts) s = .next t ∧ (t.fld F.LMP_LEDFAULT_OPEN).testBit n = true
          ∧ t.fld F.LMP_LEDFAULT_SHORT = s.fld F.LMP_LEDFAULT_SHORT)

/-- 14 R708, R727 to R742: the Witness. A visible lamp's box is sampled at its start; a comparison in which both
signatures are the expected one proves the lamp; a lamp whose comparisons are late is proven no longer; a self-test in
which comparator B is wrong is recorded, with its alarm held as a SAFE request in Ochre mode; at each proof period a proof
frame with the next counter value stands in the controller's Witness buffer. -/
def Obligations.Witness : Prop :=
  ∀ (s : State), s.Live →
    (∀ i : Fin 64, s.lamps.armed = true → s.lampPresent i = true →
        (s.boxVisible (s.lampRec i) = true →
          ∃ t, exec (.lampBoxStart i) s = .next t
            ∧ t.lamps.samples.find? i = some ⟨s.lampActive i, s.lampOn i s.now⟩ ∧ t.regs = s.regs)
        ∧ (∀ x : Sample, s.lamps.samples.find? i = some x → s.bit F.WIT_CTL_EN = true →
          ∃ t, exec (.witnessBoxCompare i 0#32 0#32) s = .next t ∧ (t.pair 0x901C).testBit i = true
            ∧ (t.pair 0x9014).testBit i = false ∧ t.lamps.compared.find? i = some s.now
            ∧ t.lamps.samples.find? i = none)
        ∧ ((∀ t, s.lamps.compared.find? i = some t → t + s.twoFrames (s.lampRec i).out < s.now) →
          ∃ t, exec (.lampStale i) s = .next t ∧ (t.pair 0x901C).testBit i = false
            ∧ (∀ k, k < 64 → k ≠ i.val → (t.pair 0x901C).testBit k = (s.pair 0x901C).testBit k)
            ∧ t.lamps = s.lamps))
    ∧ (∀ (out : Fin 2) (ub : W32), s.witRuns = true → s.bit (F.MIR_CTL_EN out) = true → ub ≠ 0#32 → s.mode = .ochre →
        s.fld (F.ALM_SRC_CLASS aWitStest) = 3 → s.actBit F.WIT_CTL_CANEN = false →
        ∃ t, exec (.witnessSelfTest out ub) s = .next t ∧ t.bit F.WIT_STATUS_STEST = true
          ∧ t.power.safeHeld = true ∧ t.lamps.lamps = s.lamps.lamps)
    ∧ (let c := s.actFld F.WIT_CAN_CTRL
        let p := s.actFld F.WIT_PERIOD_MS * 1000000
        s.witRuns = true → s.actBit F.WIT_CTL_CANEN = true → s.now % p < 10 →
        (∀ t, s.lamps.lastProof = some t → t / p < s.now / p) → s.canSends c = true → s.proofKey.isSome →
        ∃ t f, exec .proofFramePeriodic s = .next t ∧ t.lamps.lastProof = some s.now
          ∧ t.fld F.WIT_COUNTER_COUNT = (s.fld F.WIT_COUNTER_COUNT + 1) % 2 ^ 32 ∧ t.vio.wit.find? c = some f
          ∧ (f.data.drop 4).take 4 = leBytes 4 ((s.fld F.WIT_COUNTER_COUNT + 1) % 2 ^ 32)
          ∧ (f.data.drop 24).take 8 = leBytes 8 s.now)

/-! ### The converters (15) -/

/-- 15 R753 to R784, R787: the converters. The reference is ready after 150 µs; a sequence trigger at an idle converter,
from software, a pin's edge or the period, starts its sequence at entry 0; an urgent request starts at once; an urgent
result in range stands in ADC_URGRES; the end of the recovery window closes it; a comparator without a counted result for
its age takes STALEVAL; a read takes the oldest FIFO entry, and reads 0 when there is none; the DMA path stores the oldest
entry and moves its index; a converter that is disabled converts nothing. -/
def Obligations.ConvertersConvert : Prop :=
  ∀ (k : Fin 3) (s : State), s.Live →
    let x := s.conv k
    let idle := s.converts k = true ∧ x.running = none ∧ x.seq = false ∧ x.trig = false ∧ x.urgent = []
    let starts := fun (t : State) => (t.conv k).seq = true ∧ (t.conv k).trig = false ∧ (t.conv k).entry = 0
      ∧ ((t.conv k).running.map fun c => (c.urgent, c.channel)) = some (none, s.actFld (F.ADC_SEQ_CH k 0))
    (∀ a, s.adc.refAt = some a → s.bit F.ADC_REF_READY = false → a + 150000 ≤ s.now →
        (∀ n, n < 3 → s.bit (F.ADC_CTL_EN n) = false) →
        ∃ t, exec .adcRefReady s = .next t ∧ t.bit F.ADC_REF_READY = true ∧ t.adc = s.adc)
    ∧ (∀ req : Req, idle → ∃ t, exec (.adcSwtrig req k) s = .next t ∧ starts t)
    ∧ (∀ (pin : Fin 4) (rising : Bool), idle → s.actFld (F.ADC_CTL_TSRC k) = 1 + pin →
        s.actFld (F.ADC_CTL_TEDGE k) = 2 → (∀ u, u < 4 → s.actFld (F.ADC_URG_TSRC k u) ≠ 1 + pin) →
        ∃ t, exec (.adcTrigEdge pin rising) s = .next t ∧ starts t)
    ∧ (idle → s.actFld (F.ADC_CTL_TSRC k) = 5 → s.now % (s.actFld (F.ADC_PER_US k) * 1000) = 0 →
        x.lastPeriod ≠ some s.now →
        ∃ t, exec (.adcPeriodTrigger k) s = .next t ∧ starts t ∧ (t.conv k).lastPeriod = some s.now)
    ∧ (∀ (req : Req) (u : Fin 4), idle → s.bit (F.ADC_URG_EN k u) = true →
        ∃ t, exec (.adcUrgentGo req k u) s = .next t ∧ (t.conv k).urgent = []
          ∧ ((t.conv k).running.map fun c => (c.urgent, c.channel)) = some (some u.val, s.fld (F.ADC_URG_CH k u)))
    ∧ (∀ (u : Fin 4) (ch : Nat) (v : Nat), x.running = some ⟨some u.val, ch, false⟩ → ch < 16 → v ≤ 4095 →
        x.seq = false → x.trig = false → x.urgent = [] → s.actBit (F.ADC_URG_FIFO k u) = false →
        s.bit (F.ADC_WINB_EN (16 * k + ch)) = false →
        ∃ t, exec (.adcConversionComplete k v) s = .next t ∧ t.fld (F.ADC_URGRES_RES k u) = v + 2 ^ 15
          ∧ (t.conv k).running = none ∧ t.adc.fifo = s.adc.fifo)
    ∧ (x.recovering s.now = false →
        ∃ t, exec (.adcRecoveryEnd k) s = .next t ∧ (t.conv k).window = none ∧ t.regs = s.regs)
    ∧ (∀ c : Fin 48, 2 ≤ c.val → s.bit (F.ADC_WINB_EN c) = true → s.fld (F.ADC_WINB_AGE c) ≠ 0 →
        (s.comp c).stale = false → (s.comp c).last + s.fld (F.ADC_WINB_AGE c) * 10000 ≤ s.now →
        s.fld (F.ALM_SRC_CLASS aAdcStale) ≤ 1 →
        ∃ t, exec (.adcComparatorStale c) s = .next t ∧ (t.comp c).stale = true ∧ (t.comp c).count = 0
          ∧ (t.comp c).out = s.bit (F.ADC_WINB_STALEVAL c)
          ∧ (t.fld (if c.val < 32 then F.ADC_WSTALE_L_STALE else F.ADC_WSTALE_H_STALE)).testBit (c % 32) = true)
    ∧ (∀ req : Req, s.bit F.ADC_DMA_CTL_EN = false →
        (∀ e es, s.adc.fifo = e :: es → ∃ t, exec (.adcFifoRead req) s = .next t
          ∧ t.rdata.get req = BitVec.ofNat 32 e.1 ∧ t.adc.fifo = es ∧ t.regs = s.regs)
        ∧ (s.adc.fifo = [] → ∃ t, exec (.adcFifoRead req) s = .next t ∧ t.rdata.get req = 0#32 ∧ t.adc = s.adc))
    ∧ (∀ (e : Nat × Nat) (es : List (Nat × Nat)) (p c : Nat),
        let a := s.heapReg F.ADC_DMA_L_ADDR F.ADC_DMA_H_ADDR
        let len := hdrLen (s.heapRead a)
        let d := a + 3 + p % (len - 2)
        s.adc.fifo = e :: es → s.bit F.ADC_DMA_CTL_EN = true → s.engineBad a = false → s.engineBad (a + 2) = false →
        s.engineBad d = false → (∀ b, b = a ∨ b = a + 1 ∨ b = a + 2 ∨ b = d → s.resident (pageOf b) = true) →
        (s.heapRead a).t = tHDR → hdrKind (s.heapRead a) = kVec → 18 ≤ len → len ≤ 65534 → s.elem a 0 = fix p →
        s.elem a 1 = fix c → p < 2 ^ 62 → c ≤ p → p - c < len - 2 → s.heap.phase = .idle →
        ∃ t, exec .adcDmaTransfer s = .next t ∧ t.adc.fifo = es ∧ t.elem a 0 = fix ((p + 1 : Nat) : Int)
          ∧ t.elem a (2 + p % (len - 2)) = rawW (e.1 + e.2 % 2 ^ 32 * 2 ^ 32) ∧ t.regs = s.regs)
    ∧ (s.bit (F.ADC_CTL_EN k) = true →
        ∃ t, exec (.adcDisable .warden k) s = .next t ∧ t.bit (F.ADC_CTL_EN k) = false ∧ (t.conv k).running = none
          ∧ (t.conv k).seq = false ∧ (t.conv k).trig = false ∧ (t.conv k).urgent = [])

/-! ### Vehicle and board I/O (16) -/

/-- 16 R791 to R795, R823: requests of the ports. A well-formed request of a controller that runs is taken from its slot;
the oldest one that is not under way goes under way when none is (a CAN SEND beside others that are), and does then what
it asks for; a request that ends has its status in its element 2 and is held no longer; I3C dynamic addressing runs and
ends with its count. -/
def Obligations.PortsServeRequests : Prop :=
  ∀ (s : State), s.Live →
    let goes := fun (r : Taken) (t : State) =>
      t.vio.taken = s.vio.taken.map fun x => if x.order = r.order then { x with started := true } else x
    let next := fun (p : Nat) (r : Taken) => s.underWay p = none ∧ s.portRuns p = true ∧ s.nextReq p = some r
    (∀ (p : Fin 12) (i b n : Nat) (q : VioReq),
        let a := s.heapReg (F.VIO_PORT_L_ADDR p) (F.VIO_PORT_H_ADDR p)
        let w := s.elem a (2 + i % 128)
        let s' := (s.engineStore a (2 + i % 128) nil).engineStore a 1 (fix ((i + 1 : Nat) : Int))
        (s.fld F.VIO_PORTCTL_PORTEN).testBit p = true → (s.takenOf p).length < 16 → s.engineBad a = false →
        s.engineBad (a + 130) = false → s.elem a 1 = fix i → i < 2 ^ 60 → w.t ≠ tNIL →
        (∃ es, s'.reqElems tVEC w = .ok es ∧ parseReq s' p es = .ok q) → s'.paintObj w = some (b, n) →
        ¬ (p.val = 8 ∧ s.bit (F.VIO_I3C_CTL_PMIC 1) = true) → s.portRuns p = true → s.heap.phase = .idle →
        s.resident (pageOf (a + 1 + (2 + i % 128))) = true → s.resident (pageOf (a + 1 + 1)) = true →
        ∃ t, exec (.vioTakeRequest p) s = .next t
          ∧ t.vio.taken = s.vio.taken ++ [⟨p, b, s.vio.order, s'.elem b 1, q, false⟩]
          ∧ t.elem a (2 + i % 128) = nil ∧ t.elem a 1 = fix ((i + 1 : Nat) : Int)
          ∧ t.heap.registered = s.heap.registered ++ [b] ∧ t.regs = s.regs)
    ∧ (∀ (c : Fin 4) (r : Taken), s.nextReq c = some r → s.portRuns c = true →
        ∃ t, exec (.canSend c) s = .next t ∧ goes r t ∧ t.out = s.out ∧ t.regs = s.regs)
    ∧ (∀ (c : Fin 2) (r : Taken) (id len : Nat) (sub enh : Bool) (d : List Byte), next (4 + c) r →
        r.req = .linFrame id len sub enh d → s.bit (F.VIO_LIN_CTL_CMDR c) = true →
        ∃ t, exec (.linFrame c) s = .next t ∧ goes r t ∧ t.out = s.out ∧ t.regs = s.regs)
    ∧ (∀ (c : Fin 2) (r : Taken), next (4 + c) r → r.req = .linWakeup →
        ∃ t, exec (.linWakeup c) s = .next t ∧ goes r t ∧ t.out = s.out ++ [.linWake c] ∧ t.regs = s.regs)
    ∧ (∀ (r : Taken) (a b : Nat), next 6 r → r.req = .pins a b →
        ∃ t, exec .gpioPins s = .next t ∧ goes r t
          ∧ t.reg 0xB384 = (s.reg 0xB384 ||| BitVec.ofNat 32 a) &&& ~~~(BitVec.ofNat 32 b)
          ∧ ∀ o, o ≠ 0xB384 → t.reg o = s.reg o)
    ∧ (∀ (r : Taken) (ch d : Nat), next 6 r → r.req = .duty ch d → d < 2 ^ 20 → s.blDrives ch = false →
        ∃ t, exec .pwmDuty s = .next t ∧ goes r t ∧ t.fld (F.VIO_PWMD_DUTY ch) = d ∧ t.out = s.out)
    ∧ (∀ (c : Fin 2) (r : Taken) (a n : Nat) (w : List Byte), s.bit (F.VIO_I3C_DAA_BUSY c) = false → next (7 + c) r →
        r.req = .i3c a w n →
        ∃ t, exec (.i3cXfer c) s = .next t ∧ goes r t ∧ t.out = s.out ++ [.i3c c a w] ∧ t.regs = s.regs)
    ∧ (∀ (c : Fin 2) (r : Taken) (cs m v : Nat) (d : List Byte), next (9 + c) r → r.req = .spi cs m v d →
        ∃ t, exec (.spiXfer c) s = .next t ∧ goes r t ∧ t.out = s.out ++ [.spi c cs d] ∧ t.regs = s.regs)
    ∧ (∀ (r : Taken) (d : List Byte), next 11 r → r.req = .uart d →
        ∃ t, exec .uartSend s = .next t ∧ goes r t ∧ t.out = s.out ++ [.uart d] ∧ t.regs = s.regs)
    ∧ (∀ (p : Fin 12) (r : Taken) (how : VioEnd) (data : List Byte) (st : Nat), s.underWay p = some r →
        (how = .ok ∧ st = 0 ∧ (r.req = .linWakeup ∨ (∃ a b, r.req = .pins a b) ∨ (∃ a b, r.req = .duty a b)
            ∨ ∃ d, r.req = .uart d))
          ∨ (how = .noAck ∧ st = 6 ∧ ∃ a w n, r.req = .i3c a w n)
          ∨ (how = .busError ∧ st = 7 ∧ ∃ a w n, r.req = .i3c a w n) →
        s.resident (pageOf (r.addr + 1 + 2)) = true → s.heap.phase = .idle →
        ∃ t, exec (.vioRequestComplete p how data) s = .next t ∧ t.elem r.addr 2 = fix (st : Nat)
          ∧ t.vio.taken = s.vio.taken.filter (fun x => x.order ≠ r.order)
          ∧ t.heap.registered = s.heap.registered.erase r.addr ∧ t.regs = s.regs)
    ∧ (∀ (req : Req) (c : Fin 2), s.bit (F.VIO_I3C_CTL_EN c) = true →
        ∃ t, exec (.i3cDaa req c) s = .next t ∧ t.bit (F.VIO_I3C_DAA_BUSY c) = true ∧ t.vio = s.vio)
    ∧ (∀ (c : Fin 2) (n : Fin 32), s.bit (F.VIO_I3C_DAA_BUSY c) = true →
        ∃ t, exec (.i3cDaaComplete c n) s = .next t ∧ t.bit (F.VIO_I3C_DAA_BUSY c) = false
          ∧ t.fld (F.VIO_I3C_DAA_COUNT c) = n ∧ t.vio = s.vio)

/-- 16 R800 to R816, R821: what the buses and pins bring. A CAN frame that ends completes its request, or empties the
Witness buffer; a received frame sets the signal of a slot that it matches; error counters, bus-off and recovery stand in
CANSTAT; a slot without a frame for its time takes DEFAULT; a LIN responder answers its header, a commander ends a frame
without response with status 5; filtered pins, pin outputs, PWM periods, received UART bytes and in-band interrupts. -/
def Obligations.BusesAndPins : Prop :=
  ∀ (s : State), s.Live →
    (∀ c : Fin 4,
        (∀ (r : Taken) (id : Nat) (d : List Byte), s.vio.wit.find? c = none → s.portRuns c = true →
          firstSend (s.takenOf c) = some (r, id, d) → s.fld (F.VIO_CAN_CTL_MODE c) ≠ 3 → s.heap.phase = .idle →
          s.resident (pageOf (r.addr + 1 + 2)) = true →
          ∃ t, exec (.canTxComplete c) s = .next t ∧ t.out = s.out ++ [.can c id d] ∧ t.elem r.addr 2 = fix 0
            ∧ t.vio.taken = s.vio.taken.filter (fun x => x.order ≠ r.order))
        ∧ (∀ w, s.vio.wit.find? c = some w → s.canSends c = true → firstSend (s.takenOf c) = none →
          ∃ t, exec (.canTxComplete c) s = .next t ∧ t.out = s.out ++ [.can c w.id w.data]
            ∧ t.vio.wit.find? c = none ∧ t.vio.taken = s.vio.taken)
        ∧ (∀ (f : CanFrame) (k : Nat), s.bit (F.VIO_CAN_CTL_EN c) = true → s.busOff c = false →
          s.fld (F.VIO_CAN_CTL_MODE c) ≠ 3 → canBoundary c s = s →
          s.passes c f = false ∨ (s.fld F.VIO_PORTCTL_RINGEN).testBit c = false →
          k < 128 → s.actFld (F.VIO_LSA_CTRL k) = c → s.actBit (F.VIO_LSB_EN k) = true →
          s.actFld (F.VIO_LSA_ID k) = f.id.toNat → s.actBit (F.VIO_LSA_IDE k) = f.ide → f.rtr = false →
          (s.actFld (F.VIO_LSB_BITPOS k) + (s.actFld (F.VIO_LSB_LENM1 k) + 1) + 7) / 8 ≤ f.bytes.length →
          ∃ t, exec (.canFrameReceive c f) s = .next t
            ∧ t.lsig k = s.slotCond k (bits (leNat f.bytes)
                (s.actFld (F.VIO_LSB_BITPOS k) + (s.actFld (F.VIO_LSB_LENM1 k) + 1) - 1) (s.actFld (F.VIO_LSB_BITPOS k)))
            ∧ t.vio.accepted.find? k = some s.now)
        ∧ (∀ a b : BitVec 8, s.bit (F.VIO_CAN_CTL_EN c) = true → s.busOff c = false →
          ∃ t, exec (.canErrorPassive c a b) s = .next t ∧ t.fld (F.VIO_CAN_STAT_TEC c) = a.toNat
            ∧ t.fld (F.VIO_CAN_STAT_REC c) = b.toNat
            ∧ t.bit (F.VIO_CAN_STAT_PASSIVE c) = (decide (128 ≤ a.toNat) || decide (128 ≤ b.toNat)))
        ∧ (s.bit (F.VIO_CAN_CTL_EN c) = true → s.busOff c = false → s.takenOf c = [] → s.vio.wit.find? c = none →
          s.fld (F.ALM_SRC_CLASS aCanBusoff) ≤ 1 →
          ∃ t, exec (.canBusOff c) s = .next t ∧ t.busOff c = true ∧ t.vio = s.vio)
        ∧ (∀ req : Req, s.busOff c = true → c.val ∉ s.vio.recovering →
          ∃ t, exec (.canRecover req c) s = .next t ∧ t.vio.recovering = s.vio.recovering ++ [c.val])
        ∧ (s.busOff c = true → s.bit (F.VIO_CAN_CTL_AUTOREC c) = true ∨ c.val ∈ s.vio.recovering →
          ∃ t, exec (.canBusoffRecovery c) s = .next t ∧ t.reg (F.VIO_CAN_STAT_TEC c).off = 0#32
            ∧ t.busOff c = false ∧ t.vio.recovering = s.vio.recovering.erase c.val))
    ∧ (∀ (k : Fin 128) (a : Nat), s.vio.accepted.find? k = some a → s.actBit (F.VIO_LSB_EN k) = true →
        s.actFld (F.VIO_LSB_TIMEOUT k) ≠ 0 → a + s.actFld (F.VIO_LSB_TIMEOUT k) * 1000000 ≤ s.now →
        s.fld (F.ALM_SRC_CLASS aLisTimeout) ≤ 1 →
        ∃ t, exec (.listenerTimeout k) s = .next t ∧ t.lsig k = s.actBit (F.VIO_LSB_DEFAULT k)
          ∧ (t.fld (F.VIO_LSTALE_STALE (k / 32))).testBit (k % 32) = true ∧ t.vio.accepted.find? k = none)
    ∧ (∀ c : Fin 2, s.bit (F.VIO_LIN_CTL_EN c) = true →
        (∀ (id : Fin 64) (seen : LinSeen), s.bit (F.VIO_LIN_CTL_CMDR c) = false →
          (∃ t, exec (.linHeaderRx c id false seen) s = .next t ∧ t.bit (F.VIO_LIN_STAT_SYNCERR c) = true
            ∧ t.out = s.out)
          ∧ (∀ m, s.linEntry c id = some m →
            ∃ t, exec (.linHeaderRx c id true seen) s = .next t
              ∧ t.out = s.out ++ [.lin c id ((leBytes 4 (s.actFld (F.VIO_LIN_RSPD0_DATA c m))
                  ++ leBytes 4 (s.actFld (F.VIO_LIN_RSPD1_DATA c m))).take (s.actFld (F.VIO_LIN_RSP_LEN c m)))]))
        ∧ (∀ (r : Taken) (id len : Nat) (enh : Bool) (d : List Byte), s.underWay (4 + c) = some r →
          r.req = .linFrame id len true enh d → s.heap.phase = .idle →
          s.resident (pageOf (r.addr + 1 + 2)) = true →
          ∃ t, exec (.linResponseTimeout c) s = .next t ∧ t.elem r.addr 2 = fix 5
            ∧ t.vio.taken = s.vio.taken.filter (fun x => x.order ≠ r.order))
        ∧ (∃ t, exec (.linWakeupRx c) s = .next t ∧ t.bit (F.VIO_LIN_STAT_WAKERX c) = true))
    ∧ (∀ p : Fin 32,
        (s.vio.raw.getLsbD p ≠ (s.fld F.VIO_GPIO_IN_IN).testBit p →
          AMap.get 0 s.vio.rawAt p + s.fld (F.VIO_GPIOCFG_FILT p) * 1000 ≤ s.now →
          ∃ t, exec (.gpioEdge p) s = .next t ∧ (t.fld F.VIO_GPIO_IN_IN).testBit p = s.vio.raw.getLsbD p
            ∧ ∀ q, q < 32 → q ≠ p.val → (t.fld F.VIO_GPIO_IN_IN).testBit q = (s.fld F.VIO_GPIO_IN_IN).testBit q)
        ∧ (∀ level : Bool, ∃ t, exec (.gpioLevelChange p level) s = .next t ∧ t.vio.raw.getLsbD p = level
            ∧ (∀ q, q < 32 → q ≠ p.val → t.vio.raw.getLsbD q = s.vio.raw.getLsbD q) ∧ t.regs = s.regs))
    ∧ (∀ (req : Req) (v : W32), s.gated = false ∨ req = .warden →
        (∃ t, exec (.gpioSetWrite req v) s = .next t ∧ s.OnlyReg 0xB384 t ∧ t.reg 0xB384 = s.reg 0xB384 ||| v)
        ∧ (∃ t, exec (.gpioClrWrite req v) s = .next t ∧ s.OnlyReg 0xB384 t ∧ t.reg 0xB384 = s.reg 0xB384 &&& ~~~v))
    ∧ (∀ ch : Fin 8, s.bit (F.VIO_PWM_EN ch) = true →
        ∃ t, exec (.pwmPeriodStart ch) s = .next t
          ∧ t.actFld (F.VIO_PWMD_DUTY ch) = s.fld (F.VIO_PWMD_DUTY ch)
          ∧ t.actFld (F.VIO_PWM_PER ch) = s.fld (F.VIO_PWM_PER ch))
    ∧ (∀ (b : BitVec 8) (parity framing : Bool), s.bit F.VIO_UART_CTL_EN = true → s.vio.uartBytes.length < 6 →
        ∃ t, exec (.uartRxByte b parity framing) s = .next t ∧ t.vio.uartBytes = s.vio.uartBytes ++ [b]
          ∧ t.vio.uartAt = s.now ∧ t.vio.uartErr = s.vio.uartErr ||| (b2n parity + 2 * b2n framing) ∧ t.regs = s.regs)
    ∧ (s.vio.uartAt + s.uartIdle ≤ s.now → s.vio.uartBytes ≠ [] →
        ∃ t, exec .uartIdleClose s = .next t ∧ t.vio.uartBytes = [] ∧ t.vio.uartErr = 0)
    ∧ (∀ (c : Fin 2) (a : BitVec 7), s.bit (F.VIO_I3C_CTL_EN c) = true → s.bit (F.VIO_I3C_CTL_IBIEN c) = true →
        ∃ t, exec (.i3cIbi c a) s = .next t ∧ t.irqs = (s.irq 12 (1 + c * 2 ^ 8 + a.toNat * 2 ^ 16)).irqs
          ∧ t.regs = s.regs)

/-! ### Supply and modes (17) -/

/-- 17 R825 to R831, R851 to R858: power, the PMIC and resets. An accepted wake in Umber mode is stamped and starts an Ochre entry, at
once or when the 10 ms after a park have passed, and in any other mode sets the EDGE bit; the PG inputs release the
switched domain and request script 0, or their wait ends in Umber mode; a script writes its valid entries; PMIC_INT_N
raises PMIC_INT as it falls; a chip reset, by SYS_RST_N or by MODECMD, leads to Ochre mode with the cells held; a falling
PG input and the rails' FAIL and OVER conditions park the chip at once, each with its cause in the always-on record;
the Warden's park leads to Umber mode; the loss of VDD_AON leads to Sable mode. -/
def Obligations.PowerComesAndGoes : Prop :=
  ∀ (s : State), s.raised = [] →
    let off := fun (t : State) => t.mode = .umber ∧ t.power.powered = false ∧ t.power.pmicEn = false ∧ t.power.parked = true
    let ochre := fun (t : State) => t.mode = .ochre ∧ t.power.pmicEn = true ∧ t.power.parked = false
    let stamp := fun (n : Nat) (t : State) => t.time.wake = BitVec.ofNat 64 s.now ∧ t.time.wakeSrc = BitVec.ofNat 2 n
      ∧ t.time.porw = false
    let resets := fun (cause : Nat) (t : State) => t.mode = .ochre ∧ t.cellsHeld = true ∧ t.cells = State.reset.cells
      ∧ t.heap = Heap.reset ∧ t.dram = s.dram ∧ t.flash = s.flash ∧ t.fld F.ALM_AONREC_CAUSE = cause
      ∧ t.bit F.ALM_AONREC_VALID = true ∧ t.fld F.PWR_STATUS_PG = 7
    (∀ n : Fin 4, s.bit (F.VIO_WAKE_EN n) = true →
        (s.time.slow = true → s.fld (F.VIO_WAKE_FILT n) ≤ AMap.get 0 s.power.wakeRuns n) →
        (s.mode = .umber → s.holdOver = true → ∃ t, exec (.wakeAccept n) s = .next t ∧ ochre t ∧ stamp n t)
        ∧ (s.mode = .umber → s.holdOver = false → s.power.wake = none →
          ∃ t, exec (.wakeAccept n) s = .next t ∧ t.mode = .umber ∧ t.power.wake = some n.val ∧ t.regs = s.regs ∧ stamp n t)
        ∧ (s.mode ≠ .umber → s.mode ≠ .sable →
          ∃ t, exec (.wakeAccept n) s = .next t ∧ t.mode = s.mode ∧ (t.fld F.VIO_WAKESTAT_EDGE).testBit n = true
            ∧ ∀ o, o ≠ F.VIO_WAKESTAT_EDGE.off → t.reg o = s.reg o))
    ∧ (s.mode = .umber → s.power.parked = true → s.holdOver = true →
        (∀ n, s.power.wake = some n → ∃ t, exec .parkHoldEnd s = .next t ∧ ochre t ∧ t.time = s.time)
        ∧ (s.power.wake = none → s.power.epark = false →
          ∃ t, exec .parkHoldEnd s = .next t ∧ t.mode = .umber ∧ t.power.parked = false ∧ t.regs = s.regs))
    ∧ (s.mode = .ochre → s.power.pmicEn = true → s.power.powered = false →
        (∃ t, exec .pgAllHigh s = .next t ∧ t.power.powered = true ∧ t.fld F.PWR_STATUS_PG = 7
          ∧ 0 ∈ t.power.scripts ∧ t.time.pllEn = true ∧ (s.power.epark = true → t.bit F.PWR_STATUS_EPARK = true))
        ∧ (s.power.pmicAt + s.fld F.PWR_PGWAIT_MS * 1000000 ≤ s.now →
          ∃ t, exec .pgWaitTimeout s = .next t ∧ t.mode = .umber ∧ t.power.pmicEn = false
            ∧ t.bit F.PWR_STATUS_PGTO = true))
    ∧ (s.power.powered = true →
        (∀ (n : Nat) (ns : List Nat), s.power.scripts = n :: ns → s.scriptsOn = true →
          (∃ t, exec (.pmicScript none) s = .next t ∧ t.out = s.out ++ (s.script n).map (·.2) ∧ t.power.scripts = ns
            ∧ t.regs = s.regs)
          ∧ (∀ k : Fin 8, (∃ e ∈ s.script n, e.1 = k.val) → s.fld (F.ALM_SRC_CLASS aPmicNack) = 1 →
            ∃ t, exec (.pmicScript (some k)) s = .next t ∧ t.bit F.PWR_STATUS_PMICNAK = true
              ∧ t.alarmPending aPmicNack = true
              ∧ s.out ++ ((s.script n).takeWhile fun e => e.1 != k.val).map (·.2) <+: t.out))
        ∧ (s.power.pmicLow = false → s.fld (F.ALM_SRC_CLASS aPmicInt) ≤ 1 →
          ∃ t, exec (.pmicInt true) s = .next t ∧ t.power.pmicLow = true ∧ t.alarmPending aPmicInt = true)
        ∧ (∃ t, exec (.pmicInt false) s = .next t ∧ t.power.pmicLow = false ∧ t.regs = s.regs)
        ∧ (∃ t, exec .sysRst s = .next t ∧ resets 7 t)
        ∧ (s.mode.awake = true → ∃ t, exec (.modecmdReset .warden) s = .next t ∧ resets 8 t)
        ∧ (∀ (i : Instr) (cause : Nat), (i, cause) ∈ [(.pgFall 0, 5), (.pgFall 1, 5), (.pgFall 2, 5), (.vcoreFail, 2),
            (.vcoreOver, 3), (.vsramFail, 4)] →
          ∃ t, exec i s = .next t ∧ off t ∧ t.power.epark = true ∧ t.fld F.ALM_AONREC_CAUSE = cause
            ∧ t.bit F.ALM_AONREC_VALID = true
            ∧ t.fld F.PWR_EVCNT_EPARK = min 255 (s.fld F.PWR_EVCNT_EPARK + 1)
            ∧ t.dram = [] ∧ t.flash = s.flash ∧ t.cells = State.reset.cells)
        ∧ (s.mode.awake = true → s.mode ≠ .ivory →
          ∃ t, exec (.modecmdPark .warden none) s = .next t ∧ off t ∧ t.power.epark = s.power.epark
            ∧ t.dram = [] ∧ t.flash = s.flash
            ∧ t.out = s.out ++ (if s.scriptsOn then (s.script 3).map (·.2) else [])))
    ∧ (∃ t, exec .vaonPor s = .next t ∧ t.mode = .sable ∧ t.power.powered = false ∧ t.power.pmicEn = false
        ∧ t.time.ns = 0#64 ∧ t.fld F.GEN_MODE_MODE = 0 ∧ (∀ o, o ≠ 4 → t.reg o = regReset o) ∧ t.dram = [] ∧ t.flash = s.flash
        ∧ t.floor = s.floor)

/-- 17 R835 to R846, R849, R859, R860; 19 R966: shed levels and the changes of mode. A low VDD_CORE, a hot junction and a
long disturbance of KL30 set their conditions and apply their levels at once, from Ivory to Slate mode where the level
asks for it; the level falls to what still holds once the recovery time has passed, from Slate to Ivory mode; a junction
at 130 °C parks the chip; the Warden's requests for Saffron, Ivory and Cobalt change the mode where their conditions hold,
a held SAFE action leads from Ochre to Vermilion mode, and a request that is not allowed sets CFG_REJ. The mode is shown
in GEN_MODE. -/
def Obligations.ShedLevelsAndModes : Prop :=
  ∀ (s : State), s.Live →
    let warn := 620 + 5 * s.fld F.PWR_VCORE_WARN
    let mode := fun (m : Mode) (t : State) => t.mode = m ∧ t.fld F.GEN_MODE_MODE = m.num
      ∧ t.fld F.GEN_MODE_PREV = s.mode.num ∧ t.pair 0x8 = s.now
    let quiet := s.evr.flights = [] ∧ s.pic.jobs = [] ∧ ∀ c, c < 256 → (s.cell c).sprig = none
    (s.mode = .ochre →
        (∀ mv, mv < warn → ∃ t, exec (.vcoreVlow mv) s = .next t ∧ t.bit F.PWR_STATUS_VLOW = true ∧ t.shed = 3)
        ∧ (∀ mv, warn + 5 * s.fld F.PWR_VCORE_HYS < mv →
          ∃ t, exec (.vcoreVlow mv) s = .next t ∧ t.bit F.PWR_STATUS_VLOW = false ∧ t.mode = .ochre)
        ∧ (∀ T : Int, (s.fld F.PWR_THERM_HOT : Int) ≤ T → T < 130 → s.fld (F.ALM_SRC_CLASS aThermHot) ≤ 1 →
          s.bit F.PWR_STATUS_HOT = false →
          ∃ t, exec (.tempSample T) s = .next t ∧ t.bit F.PWR_STATUS_HOT = true ∧ 2 ≤ t.shed
            ∧ t.alarmPending aThermHot = true ∧ t.fld F.PWR_TEMP_MAX = (T % 512).toNat)
        ∧ (∀ T : Int, T < (s.fld F.PWR_THERM_HOT : Int) - 5 → T < (s.fld F.PWR_THERM_CRIT : Int) - 5 → T < 130 →
          ∃ t, exec (.tempSample T) s = .next t ∧ t.bit F.PWR_STATUS_HOT = false ∧ t.bit F.PWR_STATUS_CRIT = false
            ∧ t.fld F.PWR_TEMP_MAX = (T % 512).toNat))
    ∧ (∀ T : Int, s.mode = .ochre → 130 ≤ T → ∃ t, exec (.tempSample T) s = .next t ∧ t.mode = .umber
        ∧ t.power.powered = false ∧ t.bit F.PWR_TEMP_TRIP = true ∧ t.fld F.ALM_AONREC_CAUSE = 6)
    ∧ (s.mode = .ochre ∨ s.mode = .ivory ∧ s.shep.epochs = [] → s.power.kl2 = false →
        let goes := fun (t : State) => t.power.kl2 = true ∧ 2 ≤ t.shed ∧ (s.mode = .ivory → s.shed < 2 → mode .slate t)
        (s.fld F.PWR_STATUS_KL30 = 1 → s.power.klAt + s.fld F.PWR_KLTIME_MICRO * 1000000 ≤ s.now →
          ∃ t, exec .kl30MicroExpire s = .next t ∧ goes t
            ∧ t.fld F.PWR_EVCNT_CRANK = min 255 (s.fld F.PWR_EVCNT_CRANK + 1))
        ∧ (s.fld F.PWR_STATUS_KL30 = 2 → s.power.klAt + s.fld F.PWR_KLTIME_OV * 1000000 ≤ s.now →
          ∃ t, exec .kl30OvExpire s = .next t ∧ goes t))
    ∧ (s.shedHeld < s.shed → s.mode = .ochre ∨ s.mode = .slate ∧ s.shedHeld < 2 →
        ∃ t, exec .shedRecoverExpire s = .next t ∧ t.shed = s.shedHeld ∧ (s.mode = .slate → mode .ivory t))
    ∧ (s.mode = .ochre → s.bit F.LMP_CTL_ARM = true →
        (s.power.safeHeld = false →
          (s.bit F.ALM_MC_CTL_MC_LOCK = true → s.bit F.SPN_CTL_LOCK = true → s.bit F.FRY_CTL_LOCK = true →
            ∃ t, exec (.modecmdSaffron .warden) s = .next t ∧ mode .saffron t ∧ t.cellsHeld = false)
          ∧ (quiet → s.vio.heldWrites = [] → s.vio.taken = [] →
            ∃ t, exec (.modecmdCobalt .warden) s = .next t ∧ mode .cobalt t ∧ t.cellsHeld = true ∧ t.gated = false))
        ∧ (s.power.safeHeld = true → quiet →
          ∃ t, exec (.modecmdCobalt .warden) s = .next t ∧ mode .vermilion t ∧ t.power.safeHeld = false))
    ∧ (s.mode = .vermilion →
        (s.safePending = false → s.fld F.TAL_STATUS_FROZEN = 0 → s.bit F.WIT_STATUS_AB = false →
            s.bit F.WIT_STATUS_STEST = false →
          ∃ t, exec (.modecmdIvory .warden) s = .next t ∧ mode s.runMode t ∧ t.cellsHeld = false)
        ∧ (s.safePending = true →
          ∃ t, exec (.modecmdIvory .warden) s = .next t ∧ t.mode = .vermilion ∧ t.bit F.PWR_STATUS_CFG_REJ = true
            ∧ s.OnlyReg F.PWR_STATUS_CFG_REJ.off t))

/-! ### The Gatekeeper (18) -/

/-- 18 R882 to R894, R914 to R922: the operations of the Gatekeeper. A command that nothing refuses is under way on its
slot with the operands of that instant and BUSY set, and one that is refused posts its reason at once; the completion
clears BUSY, posts RESULT and has the operation's effect: a key derived, unwrapped, erased or loaded, a MAC or a digest
in GKP_OUT or compared with GKP_IN, a signature verified, a measurement register extended, a quote, the checks of an
image that INSTALL or RBOOT refuses, and version fuses blown. -/
def Obligations.GatekeeperOperations : Prop :=
  ∀ (s : State), s.Live →
    (∀ (i : Fin 8 → Instr) (n : Nat) (slot : Fin 8),
        (i, n) ∈ [(.gkpDerive .warden, 1), (.gkpUnwrap .warden, 2), (.gkpErase .warden, 3), (.gkpLoadpub .warden, 4),
          (.gkpHmac .warden, 5), (.gkpHmacv .warden, 6), (.gkpCmac .warden, 7), (.gkpSha .warden, 8),
          (.gkpEcdsav .warden, 9), (.gkpExtend .warden, 10), (.gkpQuote .warden, 11), (.gkpInstall .warden, 12),
          (.gkpRboot .warden, 13), (.gkpSvnup .warden, 14)] →
        s.bit F.GKP_STATUS_BUSY = false →
        (s.gkpRefusal n slot = none → ∃ t, exec (i slot) s = .next t ∧ s.OnlyReg F.GKP_STATUS_BUSY.off { t with gkp := s.gkp }
          ∧ t.bit F.GKP_STATUS_BUSY = true
          ∧ t.gkp = { s.gkp with op := some ⟨n, slot, s.pair 0x1008, s.fld F.GKP_LEN_LEN, s.fld F.GKP_QMASK_MASK,
              s.regBytes 0x1020 8, false⟩ })
        ∧ (∀ r, s.gkpRefusal n slot = some r → ∃ t, exec (i slot) s = .next t
          ∧ s.OnlyReg F.GKP_STATUS_RESULT.off t ∧ t.fld F.GKP_STATUS_RESULT = r ∧ t.bit F.GKP_STATUS_BUSY = false))
    ∧ (∀ (o : GkpOp) (d : List Byte), s.gkp.op = some o → o.host = false → s.gkp.erases = [] → s.gkp.stream = none →
        o.slot < 8 →
        let ends := fun (ok : Bool) (r : Nat) (t : State) => exec (.gkpOpComplete ok) s = .next t ∧ t.gkp.op = none
          ∧ t.fld F.GKP_STATUS_RESULT = r ∧ t.bit F.GKP_STATUS_BUSY = false
        let same := fun (t : State) => t.gkp.keys = s.gkp.keys ∧ t.flash = s.flash ∧ t.floor = s.floor
        let key := (s.keyBytes o.slot).getD []
        (o.op = 3 → ∃ t, ends true gOk t ∧ t.keyBytes o.slot = none ∧ ∀ n, n ≠ o.slot → t.keyBytes n = s.keyBytes n)
        ∧ (o.op = 4 →
          let k := s.flashBytes 0x20000 64
          (sha256 k = beBytes 32 Config.carmakerHash.toNat → ∃ t, ends true gOk t ∧ t.keyBytes 4 = some k)
          ∧ (sha256 k ≠ beBytes 32 Config.carmakerHash.toNat → ∃ t, ends true gMismatch t ∧ t.keyBytes 4 = none))
        ∧ (o.op = 10 → ∃ t, ends true gOk t ∧ t.measure o.slot = sha256 (s.measure o.slot ++ o.input) ∧ same t)
        ∧ (o.op = 11 → ∃ t, ends true gOk t ∧ same t
          ∧ t.regBytes 0x1040 8 = hmac ((s.keyBytes 5).getD []) (quoteMessage o s))
        ∧ (o.op = 14 → leNat (o.input.take 1) ≤ 63 →
          ∃ t, ends true gOk t ∧ t.floor = max s.floor (leNat (o.input.take 1)) ∧ t.gkp.keys = s.gkp.keys)
        ∧ (o.data s = some d →
          (o.op = 1 → 1 ≤ d.length → d.length ≤ 32 →
              ∃ t, ends true gOk t ∧ t.keyBytes o.slot = some (kdf ((s.keyBytes 0).getD []) d)
                ∧ ∀ n, n ≠ o.slot → t.keyBytes n = s.keyBytes n)
          ∧ (o.op = 2 → (d.length = 24 ∨ o.slot ≠ 2 ∧ (d.length = 32 ∨ d.length = 40)) →
              (∀ k, kwUnwrap kekBytes d = some k → ∃ t, ends true gOk t ∧ t.keyBytes o.slot = some k)
              ∧ (kwUnwrap kekBytes d = none → ∃ t, ends true gMismatch t ∧ same t))
          ∧ (o.op = 5 → ∃ t, ends true gOk t ∧ same t ∧ t.regBytes 0x1040 8 = hmac key d)
          ∧ (o.op = 6 → ∃ t, ends true (if hmac key d = o.input then gOk else gMismatch) t ∧ same t
              ∧ t.regBytes 0x1040 8 = hmac key d)
          ∧ (o.op = 7 → key.length = 16 → ∃ t, ends true gOk t ∧ same t ∧ t.regBytes 0x1040 4 = cmac key d)
          ∧ (o.op = 8 → ∃ t, ends true gOk t ∧ same t ∧ t.regBytes 0x1040 8 = sha256 d)
          ∧ (∀ sig, o.op = 9 → s.sysBytes (o.addr + o.len) 64 = some sig →
              ∃ t, ends true (if ecdsaVerify ((s.keyBytes 4).getD []) o.input sig then gOk else gMismatch) t ∧ same t)
          ∧ (∀ k1 k3 k4, o.op = 12 → s.keyBytes 1 = some k1 → s.keyBytes 3 = some k3 → s.keyBytes 4 = some k4 →
              (imageOk d = false → ∃ t, ends true gBadarg t ∧ same t ∧ t.reg 0x1040 = 1#32))
          ∧ (∀ k4, o.op = 13 → s.keyBytes 4 = some k4 →
              (imageOk d = false → ∃ t, ends true gBadarg t ∧ same t ∧ t.reg 0x1040 = 1#32 ∧ t.wmem = s.wmem)
              ∧ (imageOk d = true → ecdsaVerify k4 (sha256 (manifest d)) ((d.drop 64).take 64) = true →
                hashesOk d = true →
                ∃ t, ends true gOk t ∧ same t ∧ t.bit F.GKP_BOOT_RECOVERY = true
                  ∧ t.measure 5 = sha256 (s.measure 5 ++ sha256 (manifest d))))))

/-- 18 R888, R896 to R901, R910: zeroizing, the Stage-2 stream and the trial watchdog. A zeroize, by the Warden or by the
tamper detector, erases every key and stops what runs with KEY_GONE; the stream starts at its first entry, moves page by
page and, at the end of each section, extends M3 with its tag; the last matching tag opens the gates and leads from
Saffron to Ivory or Slate mode, a tag that differs fails the digest; the trial watchdog resets the chip. -/
def Obligations.ZeroizeStreamAndTrial : Prop :=
  ∀ (s : State), s.Live →
    (∀ i : Instr, i ∈ [.gkpZeroize .warden, .tamperDetect] → s.gkp.stream = none → s.mode = .ochre →
        s.fld (F.ALM_SRC_CLASS aGkpTamper) = 3 →
        ∃ t, exec i s = .next t ∧ t.gkp.keys = [] ∧ t.gkp.kek = false ∧ t.gkp.op = none
          ∧ t.bit F.GKP_STATUS_TAMPER = true ∧ t.alarmPending aGkpTamper = true ∧ t.power.safeHeld = true
          ∧ (∀ o, s.gkp.op = some o → t.fld F.GKP_STATUS_RESULT = gKeyGone ∧ t.bit F.GKP_STATUS_BUSY = false))
    ∧ (s.gkp.stream = none →
        ∃ t, exec (.streamStart .warden) s = .next t ∧ t.gkp = { s.gkp with stream := some (0, 0), written := [] }
          ∧ t.fld F.GKP_STATUS_DIGEST = 0 ∧ t.streamCount = s.streamCount ∧ t.dram = s.dram)
    ∧ (∀ i k : Nat, s.gkp.stream = some (i, k) →
        let e := s.streamEntry i
        (k < e.pages →
          ∃ t, exec .streamPageWritten s = .next t ∧ t.gkp.stream = some (i, k + 1) ∧ t.regs = s.regs
            ∧ (e.type' = 6 → (e.dest + k * 16384) / 16384 ∈ t.codeExec)
            ∧ (e.type' = 7 → s.imagePage (e.dest + k) ∈ t.gkp.written))
        ∧ (e.pages ≤ k → ∀ tag : List Byte, s.streamTag e = some tag →
          (tag = s.regBytes (0x1420 + 32 * i) 8 →
            (i + 1 < s.streamCount →
              ∃ t, exec .streamSectionDone s = .next t ∧ t.gkp = { s.gkp with stream := some (i + 1, 0) }
                ∧ t.measure 3 = sha256 (s.measure 3 ++ tag) ∧ t.mode = s.mode)
            ∧ (s.streamCount = i + 1 → s.mode = .saffron → s.gkp.erases = [] → s.vio.heldWrites = [] →
              s.evr.posts = [] →
              ∃ t, exec .streamSectionDone s = .next t ∧ t.gkp.stream = none ∧ t.fld F.GKP_STATUS_DIGEST = 1
                ∧ t.bit F.GKP_STATUS_M3DONE = true ∧ t.gated = false ∧ t.mode = s.runMode))
          ∧ (tag ≠ s.regBytes (0x1420 + 32 * i) 8 → s.mode = .ochre → 2 ≤ s.fld F.GKP_BOOT_NEXT →
            s.fld (F.ALM_SRC_CLASS aGkpDigest) = 1 →
            ∃ t, exec .streamSectionDone s = .next t ∧ t.gkp.stream = none ∧ t.fld F.GKP_STATUS_DIGEST = 2
              ∧ t.alarmPending aGkpDigest = true ∧ t.gated = s.gated
              ∧ (t.fld F.GKP_BOOTLATCH_FAIL).testBit (s.fld F.GKP_BOOT_SLOT) = true)))
    ∧ (∀ a, s.gkp.trialAt = some a → a + s.trialLimit * 1000000000 ≤ s.now →
        ∃ t, exec .trialWatchdogExpire s = .next t ∧ t.mode = .ochre ∧ t.cellsHeld = true ∧ t.gkp = Gkp.reset
          ∧ t.fld F.ALM_AONREC_CAUSE = 9 ∧ t.bit F.ALM_AONREC_VALID = true)

/-! ### The Warden, the Alarm board, the scrubbers and the memory controllers (19) -/

/-- 19 R925, R928, R943, R944, R948 to R954, R958 to R961, R967: a mismatch of the Warden's pair and its watchdog reset the
chip, and 0x5A followed by 0xA5 restarts the count; a software raise is pending and counted until its PEND bit is cleared;
WIT_STATUS bits clear as written, but AB and STEST in Vermilion mode only; the Larder scrubber marks an uncorrectable word
and counts a corrected one; the patrol records where it met an uncorrectable error; a quarantined cell goes to its
self-test, and one that passes leaves quarantine as a reset cell. -/
def Obligations.FaultsAreCaughtAndCleared : Prop :=
  ∀ (s : State), s.Live →
    let resets := fun (source : Nat) (t : State) => t.mode = .ochre ∧ t.cellsHeld = true ∧ t.cells = State.reset.cells
      ∧ t.heap = Heap.reset ∧ t.dram = s.dram ∧ t.fld F.ALM_AONREC_CAUSE = 1 ∧ t.fld F.ALM_AONREC_SOURCE = source
    (s.fld (F.ALM_SRC_CLASS aWardenLock) = 4 →
        ∃ t, exec .wardenLockstepMismatch s = .next t ∧ resets aWardenLock t ∧ t.bit F.ALM_LOCKSTAT_MISMATCH = true)
    ∧ (∃ t, exec (.wdogKick .warden 0x5A#8) s = .next t
        ∧ t = { s with warden := { s.warden with kick := true } })
    ∧ (s.warden.kick = true →
        ∃ t, exec (.wdogKick .warden 0xA5#8) s = .next t
          ∧ t = { s with warden := { s.warden with kick := false, wdogAt := s.now } })
    ∧ (∀ v : BitVec 8, v ≠ 0x5A#8 → v ≠ 0xA5#8 →
        ∃ t, exec (.wdogKick .warden v) s = .next t ∧ t = { s with warden := { s.warden with kick := false } })
    ∧ (s.bit F.ALM_WDOG_EN = true → s.warden.wdogAt + s.fld F.ALM_WDOG_PERIOD * 1000000 ≤ s.now →
        s.fld (F.ALM_SRC_CLASS aWardenWdog) = 4 →
        ∃ t, exec .wardenWdogExpire s = .next t ∧ resets aWardenWdog t ∧ t.bit F.ALM_LOCKSTAT_MISMATCH = false)
    ∧ (∀ n : Fin 16, s.fld (F.ALM_SRC_CLASS (aSw0 + n)) ≤ 1 →
        ∃ t, exec (.almSwraise .warden n) s = .next t ∧ t.alarmPending (aSw0 + n) = true
          ∧ t.fld (F.ALM_SRC_COUNT (aSw0 + n)) = min 255 (s.fld (F.ALM_SRC_COUNT (aSw0 + n)) + 1)
          ∧ t.cells = s.cells ∧ t.mode = s.mode)
    ∧ (∀ (word : Fin 4) (mask : W32),
        let old := s.reg (0xE010 + 4 * word)
        ∃ t, exec (.almPendClear .warden word mask) s = .next t ∧ t.reg (0xE010 + 4 * word) = old &&& ~~~mask
          ∧ (∀ b, b < 32 → (old &&& mask).getLsbD b = true → t.fld (F.ALM_SRC_COUNT (32 * word + b)) = 0)
          ∧ (∀ n, n < 128 → ¬ (n / 32 = word ∧ (old &&& mask).getLsbD (n % 32) = true) →
            t.reg (0xE100 + 4 * n) = s.reg (0xE100 + 4 * n))
          ∧ t = { s with regs := t.regs })
    ∧ (∀ mask : W32,
        (s.mode = .vermilion →
          ∃ t, exec (.witStatusClear .warden mask) s = .next t ∧ s.OnlyReg 0x9010 t
            ∧ t.reg 0x9010 = s.reg 0x9010 &&& ~~~(mask &&& 0x77#32))
        ∧ (s.mode ≠ .vermilion → s.reg 0x9010 &&& mask &&& 6#32 ≠ 0#32 →
          ∃ t, exec (.witStatusClear .warden mask) s = .next t ∧ s.OnlyReg 0x9010 t
            ∧ t.reg 0x9010 = s.reg 0x9010 ||| 1#32))
    ∧ (∀ a : Nat, s.resident (pageOf a) = true → a ∉ s.heap.badWords →
        (s.fld (F.ALM_SRC_CLASS aEccLarder) = 1 →
          ∃ t, exec (.larderScrub [(a, true)]) s = .next t ∧ t.heap.badWords = s.heap.badWords ++ [a]
            ∧ t.alarmPending aEccLarder = true ∧ t.cells = s.cells)
        ∧ (s.fld (F.ALM_SRC_CLASS aEccCorr) = 0 → s.fld F.ALM_ECCCORR_CNT_COUNT < 2 ^ 32 - 2 →
          ∃ t, exec (.larderScrub [(a, false)]) s = .next t ∧ t.heap = s.heap
            ∧ t.fld F.ALM_ECCCORR_CNT_COUNT = s.fld F.ALM_ECCCORR_CNT_COUNT + 1))
    ∧ (∀ a : Nat, a < s.dramSize → a < 2 ^ 34 → s.fld (F.ALM_SRC_CLASS aEccDram) = 1 →
        ∃ t, exec (.dramPatrol [(a, true)]) s = .next t ∧ t.alarmPending aEccDram = true
          ∧ t.fld F.ALM_DRAMUE_L_ADDR + 2 ^ 32 * t.fld F.ALM_DRAMUE_H_ADDR = a ∧ t.dram = s.dram)
    ∧ (∀ c : Fin 256, s.bit F.ALM_CELLSTAT_BUSY = false →
        (s.quarantined c = true → ∃ t, exec (.cellRelease .warden c) s = .next t
          ∧ t.warden = { s.warden with test := some c.val } ∧ t.bit F.ALM_CELLSTAT_BUSY = true
          ∧ t.fld F.ALM_CELLREL_CELL = c ∧ t.cells = s.cells)
        ∧ (s.quarantined c = false → ∃ t, exec (.cellRelease .warden c) s = .next t ∧ t.warden = s.warden
          ∧ t.bit F.ALM_STATUS_CFG_REJ = true ∧ t.bit F.ALM_CELLSTAT_BUSY = false))
    ∧ (∀ c : Nat, c < 256 → s.warden.test = some c →
        (∃ t, exec (.cellSelfTestDone true) s = .next t ∧ t.warden.test = none ∧ t.bit F.ALM_CELLSTAT_BUSY = false
          ∧ t.fld F.ALM_CELLSTAT_RESULT = 1 ∧ t.quarantined c = false ∧ t.cell c = Cell.reset)
        ∧ (s.fld (F.ALM_SRC_CLASS aCellBist) = 1 →
          ∃ t, exec (.cellSelfTestDone false) s = .next t ∧ t.warden.test = none ∧ t.bit F.ALM_CELLSTAT_BUSY = false
            ∧ t.fld F.ALM_CELLSTAT_RESULT = 2 ∧ t.quarantined c = s.quarantined c ∧ t.alarmPending aCellBist = true
            ∧ t.cells = s.cells))

/-- 19 R935 to R937: the DRAM and flash controllers. Training starts with a channel enabled and ends with READY and the
capacity, or with FAIL, the step and the channel; enabling the flash controller shows the size that SFDP gives, or 8 MiB;
an aligned command is under way on its address, and when it has completed the erased bytes read 0xFF, or the programmed
bytes are ANDed with what stood there, and every other byte of the flash is as before (what an erase and a program
store is PRESUMED, log entry 65). -/
def Obligations.MemoryControllers : Prop :=
  ∀ (s : State), s.Live →
    (s.bit F.PLT_DDR_STAT_READY = false → s.bit F.PLT_DDR_STAT_BUSY = false → s.fld F.PLT_DDR_CFG_CHEN ≠ 0 →
        ∃ t, exec (.ddrTrain .warden) s = .next t ∧ t.bit F.PLT_DDR_STAT_BUSY = true
          ∧ t.warden = { s.warden with ddrReleased := true } ∧ t.dram = s.dram)
    ∧ (s.bit F.PLT_DDR_STAT_BUSY = true →
        (∃ t, exec (.ddrTrainDone none) s = .next t ∧ s.OnlyReg F.PLT_DDR_STAT_BUSY.off t
          ∧ t.bit F.PLT_DDR_STAT_BUSY = false ∧ t.bit F.PLT_DDR_STAT_READY = true
          ∧ t.bit F.PLT_DDR_STAT_FAIL = false ∧ t.fld F.PLT_DDR_STAT_CAP = s.ddrCap)
        ∧ (∀ (step : Fin 7) (ch : Fin 2), ∃ t, exec (.ddrTrainDone (some (step, ch))) s = .next t
          ∧ s.OnlyReg F.PLT_DDR_STAT_BUSY.off t ∧ t.bit F.PLT_DDR_STAT_BUSY = false
          ∧ t.bit F.PLT_DDR_STAT_FAIL = true ∧ t.fld F.PLT_DDR_STAT_STEP = step + 1
          ∧ t.fld F.PLT_DDR_STAT_FAILCH = ch))
    ∧ (∀ mib : BitVec 16, s.bit F.PLT_XSP_CTL_EN = false →
        (∃ t, exec (.xspiEnable .warden (some mib)) s = .next t ∧ t.bit F.PLT_XSP_CTL_EN = true
          ∧ t.bit F.PLT_XSP_SIZE_SFDPOK = true ∧ t.fld F.PLT_XSP_SIZE_MIB = mib.toNat ∧ t.flash = s.flash)
        ∧ (∃ t, exec (.xspiEnable .warden none) s = .next t ∧ t.bit F.PLT_XSP_CTL_EN = true
          ∧ t.bit F.PLT_XSP_SIZE_SFDPOK = false ∧ t.fld F.PLT_XSP_SIZE_MIB = 8 ∧ t.flash = s.flash))
    ∧ (∀ (i : Instr) (op : Nat), (i, op) ∈ [(.xspiErase4k .warden, 1), (.xspiErase64k .warden, 2), (.xspiProgram .warden, 3)] →
        s.bit F.PLT_XSP_CMD_BUSY = false → s.bit F.PLT_XSP_CTL_EN = true →
        (s.xspAligned op = true →
          ∃ t, exec i s = .next t ∧ t.bit F.PLT_XSP_CMD_BUSY = true ∧ t.flash = s.flash
            ∧ t.warden.flashOp = some ⟨op, s.fld F.PLT_XSP_ADDR_ADDR,
                if op = 3 then s.xspBuffer (s.fld F.PLT_XSP_LEN_LEN) else []⟩)
        ∧ (s.xspAligned op = false →
          ∃ t, exec i s = .next t ∧ t.warden = s.warden ∧ s.OnlyReg F.PLT_STATUS_CFG_REJ.off t
            ∧ t.bit F.PLT_STATUS_CFG_REJ = true))
    ∧ (∀ (o : FlashOp) (left : List Byte), s.warden.flashOp = some o → s.MemoriesOk →
        (∃ t, exec (.xspiCmdDone false []) s = .next t ∧ t.bit F.PLT_XSP_CMD_BUSY = false
          ∧ t.bit F.PLT_XSP_CMD_DONE = true ∧ t.warden.flashOp = none
          ∧ (∀ a, a < o.addr ∨ o.addr + o.length ≤ a → t.flashBytes a 1 = s.flashBytes a 1)
          ∧ (o.op = 1 ∨ o.op = 2 → ∀ a, o.addr ≤ a → a < o.addr + o.length → t.flashBytes a 1 = [0xFF#8])
          ∧ (o.op = 3 → t.flashBytes o.addr o.data.length
              = List.zipWith (· &&& ·) o.data (s.flashBytes o.addr o.data.length)))
        ∧ (left.length = o.length → ∃ t, exec (.xspiCmdDone true left) s = .next t ∧ t.bit F.PLT_XSP_CMD_BUSY = false
          ∧ t.bit F.PLT_XSP_CMD_ERR = true ∧ t.warden.flashOp = none ∧ t.flashBytes o.addr o.length = left
          ∧ ∀ a, a < o.addr ∨ o.addr + o.length ≤ a → t.flashBytes a 1 = s.flashBytes a 1))

/-- The four byte memories, DRAM, the Warden's memory, flash and host memory, keep their canonical form: every step from
a state that has it leads to a state that has it. -/
def Obligations.MemoriesStayCanonical : Prop :=
  ∀ (s t : State), s.MemoriesOk → step s = .next t → t.MemoriesOk
end

