-- ==== Sys2Proof/Laws/Map.lean ====
section
/-!
SUPPORT. The laws of the sparse maps that registers, cells and memories are held in, and of bit fields of numbers.
-/
namespace Sys2Proof

/-! ### Reading after writing -/

theorem AMap.find?_insert_self {α : Type} (m : AMap α) (k : Nat) (x : α) : AMap.find? (AMap.insert m k x) k = some x := by
  induction m with
  | nil => simp [AMap.insert, AMap.find?]
  | cons e m ih =>
    obtain ⟨a, v⟩ := e
    unfold AMap.insert
    split
    · simp [AMap.find?]
    · split
      · simp [AMap.find?]
      · rename_i h1 h2
        simp [AMap.find?, h2, ih]

theorem AMap.find?_insert_ne {α : Type} (m : AMap α) {k j : Nat} (x : α) (h : j ≠ k) :
    AMap.find? (AMap.insert m k x) j = AMap.find? m j := by
  induction m with
  | nil => simp [AMap.insert, AMap.find?, h]
  | cons e m ih =>
    obtain ⟨a, v⟩ := e
    unfold AMap.insert
    split
    · simp [AMap.find?, h]
    · split
      · rename_i h1 h2
        subst h2
        simp [AMap.find?, h]
      · simp [AMap.find?, ih]

theorem AMap.find?_erase_self {α : Type} (m : AMap α) (k : Nat) : AMap.find? (AMap.erase m k) k = none := by
  induction m with
  | nil => rfl
  | cons e m ih =>
    obtain ⟨a, v⟩ := e
    unfold AMap.erase
    split
    · exact ih
    · rename_i h
      simp [AMap.find?, h, ih]

theorem AMap.find?_erase_ne {α : Type} (m : AMap α) {k j : Nat} (h : j ≠ k) :
    AMap.find? (AMap.erase m k) j = AMap.find? m j := by
  induction m with
  | nil => rfl
  | cons e m ih =>
    obtain ⟨a, v⟩ := e
    unfold AMap.erase
    split
    · rename_i hk
      subst hk
      simp [AMap.find?, h, ih]
    · simp [AMap.find?, ih]

@[simp] theorem AMap.get_put_self {α : Type} [DecidableEq α] (d : α) (m : AMap α) (k : Nat) (x : α) :
    AMap.get d (AMap.put d m k x) k = x := by
  unfold AMap.get AMap.put
  split
  · rename_i h
    simp [AMap.find?_erase_self, h]
  · simp [AMap.find?_insert_self]

theorem AMap.get_put_ne {α : Type} [DecidableEq α] (d e : α) (m : AMap α) {k j : Nat} (x : α) (h : j ≠ k) :
    AMap.get e (AMap.put d m k x) j = AMap.get e m j := by
  unfold AMap.get AMap.put
  split
  · rw [AMap.find?_erase_ne m h]
  · rw [AMap.find?_insert_ne m x h]

/-! ### The canonical form -/

/-- Every key is above a bound. -/
def AMap.above {α : Type} (b : Nat) (m : AMap α) : Prop := ∀ e ∈ m, b < e.1

theorem AMap.wf_cons {α : Type} [DecidableEq α] (d : α) (a : Nat) (v : α) (m : AMap α) :
    AMap.wf d ((a, v) :: m) = true ↔ v ≠ d ∧ AMap.above a m ∧ AMap.wf d m = true := by
  induction m generalizing a v with
  | nil => simp [AMap.wf, AMap.above]
  | cons e m ih =>
    obtain ⟨b, w⟩ := e
    have hb := ih b w
    rw [AMap.wf, Bool.and_eq_true, Bool.and_eq_true, decide_eq_true_eq, decide_eq_true_eq, hb]
    constructor
    · rintro ⟨⟨h1, h2⟩, h3, h4, h5⟩
      refine ⟨h1, ?_, h3, h4, h5⟩
      intro e he
      rcases List.mem_cons.mp he with rfl | he
      · exact h2
      · exact lt_trans h2 (h4 e he)
    · rintro ⟨h1, h2, h3, h4, h5⟩
      exact ⟨⟨h1, h2 (b, w) (by simp)⟩, h3, h4, h5⟩

theorem AMap.above_insert {α : Type} {b k : Nat} {m : AMap α} {x : α} (h : AMap.above b m) (hk : b < k) :
    AMap.above b (AMap.insert m k x) := by
  induction m with
  | nil => intro e he; simp [AMap.insert] at he; subst he; exact hk
  | cons e m ih =>
    obtain ⟨a, v⟩ := e
    have ha : b < a := h (a, v) (by simp)
    have hm : AMap.above b m := fun e he => h e (by simp [he])
    unfold AMap.insert
    split
    · intro e he
      rcases List.mem_cons.mp he with rfl | he
      · exact hk
      · exact h e he
    · split
      · intro e he
        rcases List.mem_cons.mp he with rfl | he
        · exact hk
        · exact hm e he
      · intro e he
        rcases List.mem_cons.mp he with rfl | he
        · exact ha
        · exact ih hm e he

theorem AMap.above_erase {α : Type} {b : Nat} {m : AMap α} (k : Nat) (h : AMap.above b m) :
    AMap.above b (AMap.erase m k) := by
  induction m with
  | nil => intro e he; simp [AMap.erase] at he
  | cons e m ih =>
    obtain ⟨a, v⟩ := e
    have hm : AMap.above b m := fun e he => h e (by simp [he])
    unfold AMap.erase
    split
    · exact ih hm
    · intro e he
      rcases List.mem_cons.mp he with rfl | he
      · exact h (a, v) (by simp)
      · exact ih hm e he

theorem AMap.wf_insert {α : Type} [DecidableEq α] {d : α} {m : AMap α} {k : Nat} {x : α} (h : AMap.wf d m = true)
    (hx : x ≠ d) : AMap.wf d (AMap.insert m k x) = true := by
  induction m with
  | nil => simp [AMap.insert, AMap.wf, hx]
  | cons e m ih =>
    obtain ⟨a, v⟩ := e
    have hc := (AMap.wf_cons d a v m).mp h
    unfold AMap.insert
    split
    · rename_i hk
      refine (AMap.wf_cons d k x _).mpr ⟨hx, ?_, h⟩
      intro e he
      rcases List.mem_cons.mp he with rfl | he
      · exact hk
      · exact lt_trans hk (hc.2.1 e he)
    · split
      · rename_i hk
        subst hk
        exact (AMap.wf_cons d _ x m).mpr ⟨hx, hc.2.1, hc.2.2⟩
      · exact (AMap.wf_cons d a v _).mpr ⟨hc.1, AMap.above_insert hc.2.1 (by omega), ih hc.2.2⟩

theorem AMap.wf_erase {α : Type} [DecidableEq α] {d : α} {m : AMap α} (k : Nat) (h : AMap.wf d m = true) :
    AMap.wf d (AMap.erase m k) = true := by
  induction m with
  | nil => rfl
  | cons e m ih =>
    obtain ⟨a, v⟩ := e
    have hc := (AMap.wf_cons d a v m).mp h
    unfold AMap.erase
    split
    · exact ih hc.2.2
    · exact (AMap.wf_cons d a v _).mpr ⟨hc.1, AMap.above_erase k hc.2.1, ih hc.2.2⟩

/-- Writing keeps the canonical form. -/
theorem AMap.wf_put {α : Type} [DecidableEq α] {d : α} {m : AMap α} (k : Nat) (x : α) (h : AMap.wf d m = true) :
    AMap.wf d (AMap.put d m k x) = true := by
  unfold AMap.put
  split
  · exact AMap.wf_erase k h
  · exact AMap.wf_insert h ‹_›

/-! ### Bit fields of numbers -/

theorem bits_lt (x hi lo : Nat) : bits x hi lo < 2 ^ (hi + 1 - lo) := Nat.mod_lt _ (by positivity)

/-- A number is its part below a field, the field, and its part above. -/
theorem bits_split (x hi lo : Nat) (h : lo ≤ hi) :
    x = x % 2 ^ lo + bits x hi lo * 2 ^ lo + x / 2 ^ (hi + 1) * 2 ^ (hi + 1) := by
  have e : hi + 1 = lo + (hi + 1 - lo) := by omega
  have h1 := Nat.div_add_mod x (2 ^ lo)
  have h2 := Nat.div_add_mod (x / 2 ^ lo) (2 ^ (hi + 1 - lo))
  have h3 : x / 2 ^ (hi + 1) = x / 2 ^ lo / 2 ^ (hi + 1 - lo) := by
    rw [Nat.div_div_eq_div_mul, ← pow_add, ← e]
  rw [h3]
  have e2 : 2 ^ (hi + 1) = 2 ^ lo * 2 ^ (hi + 1 - lo) := by rw [← pow_add, ← e]
  rw [e2]
  unfold bits
  calc x = 2 ^ lo * (x / 2 ^ lo) + x % 2 ^ lo := h1.symm
    _ = 2 ^ lo * (2 ^ (hi + 1 - lo) * (x / 2 ^ lo / 2 ^ (hi + 1 - lo)) + x / 2 ^ lo % 2 ^ (hi + 1 - lo)) + x % 2 ^ lo := by
      rw [h2]
    _ = _ := by ring

/-- A number with a field replaced: the parts below and above stay. -/
theorem setBits_split (x hi lo v : Nat) (h : lo ≤ hi) :
    setBits x hi lo v = x % 2 ^ lo + v % 2 ^ (hi + 1 - lo) * 2 ^ lo + x / 2 ^ (hi + 1) * 2 ^ (hi + 1) := by
  have hx := bits_split x hi lo h
  unfold setBits
  omega

theorem bits_setBits_self (x hi lo v : Nat) (h : lo ≤ hi) : bits (setBits x hi lo v) hi lo = v % 2 ^ (hi + 1 - lo) := by
  rw [setBits_split x hi lo v h]
  unfold bits
  have e : (2 : Nat) ^ (hi + 1) = 2 ^ lo * 2 ^ (hi + 1 - lo) := by
    rw [← pow_add]; congr 1; omega
  have hp : 0 < 2 ^ lo := by positivity
  have : x % 2 ^ lo + v % 2 ^ (hi + 1 - lo) * 2 ^ lo + x / 2 ^ (hi + 1) * 2 ^ (hi + 1)
      = x % 2 ^ lo + (v % 2 ^ (hi + 1 - lo) + x / 2 ^ (hi + 1) * 2 ^ (hi + 1 - lo)) * 2 ^ lo := by
    rw [e]; ring
  rw [this, Nat.add_mul_div_right _ _ hp, Nat.div_eq_of_lt (Nat.mod_lt _ hp), Nat.zero_add, Nat.add_mul_mod_self_right,
    Nat.mod_mod]

theorem setBits_mod_low (x hi lo v n : Nat) (h : lo ≤ hi) (hn : n ≤ lo) : setBits x hi lo v % 2 ^ n = x % 2 ^ n := by
  rw [setBits_split x hi lo v h]
  have d1 : 2 ^ n ∣ 2 ^ lo := pow_dvd_pow 2 hn
  have d2 : 2 ^ n ∣ 2 ^ (hi + 1) := pow_dvd_pow 2 (by omega)
  have e1 : v % 2 ^ (hi + 1 - lo) * 2 ^ lo % 2 ^ n = 0 := Nat.mod_eq_zero_of_dvd (Dvd.dvd.mul_left d1 _)
  have e2 : x / 2 ^ (hi + 1) * 2 ^ (hi + 1) % 2 ^ n = 0 := Nat.mod_eq_zero_of_dvd (Dvd.dvd.mul_left d2 _)
  rw [Nat.add_mod, e2, Nat.add_mod (x % 2 ^ lo), e1]
  simp [Nat.mod_mod_of_dvd x d1]

theorem setBits_div_high (x hi lo v n : Nat) (h : lo ≤ hi) (hn : hi < n) : setBits x hi lo v / 2 ^ n = x / 2 ^ n := by
  have e : ∀ y : Nat, y / 2 ^ n = y / 2 ^ (hi + 1) / 2 ^ (n - (hi + 1)) := by
    intro y; rw [Nat.div_div_eq_div_mul, ← pow_add]; congr 2; omega
  rw [e, e x]
  congr 1
  rw [setBits_split x hi lo v h]
  have hp : 0 < 2 ^ (hi + 1) := by positivity
  rw [Nat.add_mul_div_right _ _ hp, Nat.div_eq_of_lt, Nat.zero_add]
  have e1 : (2 : Nat) ^ (hi + 1) = 2 ^ lo * 2 ^ (hi + 1 - lo) := by rw [← pow_add]; congr 1; omega
  have h1 : x % 2 ^ lo < 2 ^ lo := Nat.mod_lt _ (by positivity)
  have h2 : v % 2 ^ (hi + 1 - lo) < 2 ^ (hi + 1 - lo) := Nat.mod_lt _ (by positivity)
  rw [e1]
  calc x % 2 ^ lo + v % 2 ^ (hi + 1 - lo) * 2 ^ lo < 2 ^ lo + v % 2 ^ (hi + 1 - lo) * 2 ^ lo := by omega
    _ = (v % 2 ^ (hi + 1 - lo) + 1) * 2 ^ lo := by ring
    _ ≤ 2 ^ (hi + 1 - lo) * 2 ^ lo := Nat.mul_le_mul_right _ h2
    _ = _ := by ring

/-- A field apart from the one replaced. -/
theorem bits_setBits_ne (x hi lo v hi' lo' : Nat) (h : lo ≤ hi) (h' : lo' ≤ hi') (hd : hi' < lo ∨ hi < lo') :
    bits (setBits x hi lo v) hi' lo' = bits x hi' lo' := by
  unfold bits
  rcases hd with hd | hd
  · have : ∀ y : Nat, y / 2 ^ lo' % 2 ^ (hi' + 1 - lo') = y % 2 ^ (hi' + 1) / 2 ^ lo' := by
      intro y
      have e : (2 : Nat) ^ (hi' + 1) = 2 ^ lo' * 2 ^ (hi' + 1 - lo') := by rw [← pow_add]; congr 1; omega
      rw [e, Nat.mod_mul_right_div_self]
    rw [this, this x, setBits_mod_low x hi lo v _ h (by omega)]
  · rw [setBits_div_high x hi lo v lo' h hd]

theorem setBits_lt (x hi lo v n : Nat) (h : lo ≤ hi) (hn : hi < n) (hx : x < 2 ^ n) : setBits x hi lo v < 2 ^ n := by
  have h1 := setBits_div_high x hi lo v n h hn
  rw [Nat.div_eq_of_lt hx] at h1
  exact (Nat.div_eq_zero_iff.mp h1).resolve_left (by positivity)

end Sys2Proof
end

