-- ==== Sys2Proof/Laws/State.lean ====
section
/-!
SUPPORT. What each named update of the state leaves as it was, and what a register, a field, a cell and a sprig slot
read as after they are written.
-/
namespace Sys2Proof.Machine

/-! ### State.setReg -/

@[simp] theorem State.setReg_time (s : State) (off : Nat) (v : W32) : (s.setReg off v).time = s.time := rfl
@[simp] theorem State.setReg_act (s : State) (off : Nat) (v : W32) : (s.setReg off v).act = s.act := rfl
@[simp] theorem State.setReg_snap (s : State) (off : Nat) (v : W32) : (s.setReg off v).snap = s.snap := rfl
@[simp] theorem State.setReg_sel (s : State) (off : Nat) (v : W32) : (s.setReg off v).sel = s.sel := rfl
@[simp] theorem State.setReg_mode (s : State) (off : Nat) (v : W32) : (s.setReg off v).mode = s.mode := rfl
@[simp] theorem State.setReg_weave (s : State) (off : Nat) (v : W32) : (s.setReg off v).weave = s.weave := rfl
@[simp] theorem State.setReg_trims (s : State) (off : Nat) (v : W32) : (s.setReg off v).trims = s.trims := rfl
@[simp] theorem State.setReg_cells (s : State) (off : Nat) (v : W32) : (s.setReg off v).cells = s.cells := rfl
@[simp] theorem State.setReg_cellsHeld (s : State) (off : Nat) (v : W32) : (s.setReg off v).cellsHeld = s.cellsHeld := rfl
@[simp] theorem State.setReg_codeExec (s : State) (off : Nat) (v : W32) : (s.setReg off v).codeExec = s.codeExec := rfl
@[simp] theorem State.setReg_cstore (s : State) (off : Nat) (v : W32) : (s.setReg off v).cstore = s.cstore := rfl
@[simp] theorem State.setReg_cstoreBad (s : State) (off : Nat) (v : W32) : (s.setReg off v).cstoreBad = s.cstoreBad := rfl
@[simp] theorem State.setReg_heap (s : State) (off : Nat) (v : W32) : (s.setReg off v).heap = s.heap := rfl
@[simp] theorem State.setReg_shep (s : State) (off : Nat) (v : W32) : (s.setReg off v).shep = s.shep := rfl
@[simp] theorem State.setReg_tally (s : State) (off : Nat) (v : W32) : (s.setReg off v).tally = s.tally := rfl
@[simp] theorem State.setReg_pic (s : State) (off : Nat) (v : W32) : (s.setReg off v).pic = s.pic := rfl
@[simp] theorem State.setReg_irqs (s : State) (off : Nat) (v : W32) : (s.setReg off v).irqs = s.irqs := rfl
@[simp] theorem State.setReg_resyncs (s : State) (off : Nat) (v : W32) : (s.setReg off v).resyncs = s.resyncs := rfl
@[simp] theorem State.setReg_patchReqs (s : State) (off : Nat) (v : W32) : (s.setReg off v).patchReqs = s.patchReqs := rfl
@[simp] theorem State.setReg_dram (s : State) (off : Nat) (v : W32) : (s.setReg off v).dram = s.dram := rfl
@[simp] theorem State.setReg_wmem (s : State) (off : Nat) (v : W32) : (s.setReg off v).wmem = s.wmem := rfl
@[simp] theorem State.setReg_flash (s : State) (off : Nat) (v : W32) : (s.setReg off v).flash = s.flash := rfl
@[simp] theorem State.setReg_host (s : State) (off : Nat) (v : W32) : (s.setReg off v).host = s.host := rfl
@[simp] theorem State.setReg_evr (s : State) (off : Nat) (v : W32) : (s.setReg off v).evr = s.evr := rfl
@[simp] theorem State.setReg_lamps (s : State) (off : Nat) (v : W32) : (s.setReg off v).lamps = s.lamps := rfl
@[simp] theorem State.setReg_adc (s : State) (off : Nat) (v : W32) : (s.setReg off v).adc = s.adc := rfl
@[simp] theorem State.setReg_vio (s : State) (off : Nat) (v : W32) : (s.setReg off v).vio = s.vio := rfl
@[simp] theorem State.setReg_power (s : State) (off : Nat) (v : W32) : (s.setReg off v).power = s.power := rfl
@[simp] theorem State.setReg_gkp (s : State) (off : Nat) (v : W32) : (s.setReg off v).gkp = s.gkp := rfl
@[simp] theorem State.setReg_warden (s : State) (off : Nat) (v : W32) : (s.setReg off v).warden = s.warden := rfl
@[simp] theorem State.setReg_out (s : State) (off : Nat) (v : W32) : (s.setReg off v).out = s.out := rfl
@[simp] theorem State.setReg_rdata (s : State) (off : Nat) (v : W32) : (s.setReg off v).rdata = s.rdata := rfl
@[simp] theorem State.setReg_floor (s : State) (off : Nat) (v : W32) : (s.setReg off v).floor = s.floor := rfl
@[simp] theorem State.setReg_raised (s : State) (off : Nat) (v : W32) : (s.setReg off v).raised = s.raised := rfl
@[simp] theorem State.setReg_free (s : State) (off : Nat) (v : W32) : (s.setReg off v).free = s.free := rfl
@[simp] theorem State.setReg_pending (s : State) (off : Nat) (v : W32) : (s.setReg off v).pending = s.pending := rfl

/-! ### State.setFld -/

@[simp] theorem State.setFld_time (s : State) (f : Fld) (v : Nat) : (s.setFld f v).time = s.time := rfl
@[simp] theorem State.setFld_act (s : State) (f : Fld) (v : Nat) : (s.setFld f v).act = s.act := rfl
@[simp] theorem State.setFld_snap (s : State) (f : Fld) (v : Nat) : (s.setFld f v).snap = s.snap := rfl
@[simp] theorem State.setFld_sel (s : State) (f : Fld) (v : Nat) : (s.setFld f v).sel = s.sel := rfl
@[simp] theorem State.setFld_mode (s : State) (f : Fld) (v : Nat) : (s.setFld f v).mode = s.mode := rfl
@[simp] theorem State.setFld_weave (s : State) (f : Fld) (v : Nat) : (s.setFld f v).weave = s.weave := rfl
@[simp] theorem State.setFld_trims (s : State) (f : Fld) (v : Nat) : (s.setFld f v).trims = s.trims := rfl
@[simp] theorem State.setFld_cells (s : State) (f : Fld) (v : Nat) : (s.setFld f v).cells = s.cells := rfl
@[simp] theorem State.setFld_cellsHeld (s : State) (f : Fld) (v : Nat) : (s.setFld f v).cellsHeld = s.cellsHeld := rfl
@[simp] theorem State.setFld_codeExec (s : State) (f : Fld) (v : Nat) : (s.setFld f v).codeExec = s.codeExec := rfl
@[simp] theorem State.setFld_cstore (s : State) (f : Fld) (v : Nat) : (s.setFld f v).cstore = s.cstore := rfl
@[simp] theorem State.setFld_cstoreBad (s : State) (f : Fld) (v : Nat) : (s.setFld f v).cstoreBad = s.cstoreBad := rfl
@[simp] theorem State.setFld_heap (s : State) (f : Fld) (v : Nat) : (s.setFld f v).heap = s.heap := rfl
@[simp] theorem State.setFld_shep (s : State) (f : Fld) (v : Nat) : (s.setFld f v).shep = s.shep := rfl
@[simp] theorem State.setFld_tally (s : State) (f : Fld) (v : Nat) : (s.setFld f v).tally = s.tally := rfl
@[simp] theorem State.setFld_pic (s : State) (f : Fld) (v : Nat) : (s.setFld f v).pic = s.pic := rfl
@[simp] theorem State.setFld_irqs (s : State) (f : Fld) (v : Nat) : (s.setFld f v).irqs = s.irqs := rfl
@[simp] theorem State.setFld_resyncs (s : State) (f : Fld) (v : Nat) : (s.setFld f v).resyncs = s.resyncs := rfl
@[simp] theorem State.setFld_patchReqs (s : State) (f : Fld) (v : Nat) : (s.setFld f v).patchReqs = s.patchReqs := rfl
@[simp] theorem State.setFld_dram (s : State) (f : Fld) (v : Nat) : (s.setFld f v).dram = s.dram := rfl
@[simp] theorem State.setFld_wmem (s : State) (f : Fld) (v : Nat) : (s.setFld f v).wmem = s.wmem := rfl
@[simp] theorem State.setFld_flash (s : State) (f : Fld) (v : Nat) : (s.setFld f v).flash = s.flash := rfl
@[simp] theorem State.setFld_host (s : State) (f : Fld) (v : Nat) : (s.setFld f v).host = s.host := rfl
@[simp] theorem State.setFld_evr (s : State) (f : Fld) (v : Nat) : (s.setFld f v).evr = s.evr := rfl
@[simp] theorem State.setFld_lamps (s : State) (f : Fld) (v : Nat) : (s.setFld f v).lamps = s.lamps := rfl
@[simp] theorem State.setFld_adc (s : State) (f : Fld) (v : Nat) : (s.setFld f v).adc = s.adc := rfl
@[simp] theorem State.setFld_vio (s : State) (f : Fld) (v : Nat) : (s.setFld f v).vio = s.vio := rfl
@[simp] theorem State.setFld_power (s : State) (f : Fld) (v : Nat) : (s.setFld f v).power = s.power := rfl
@[simp] theorem State.setFld_gkp (s : State) (f : Fld) (v : Nat) : (s.setFld f v).gkp = s.gkp := rfl
@[simp] theorem State.setFld_warden (s : State) (f : Fld) (v : Nat) : (s.setFld f v).warden = s.warden := rfl
@[simp] theorem State.setFld_out (s : State) (f : Fld) (v : Nat) : (s.setFld f v).out = s.out := rfl
@[simp] theorem State.setFld_rdata (s : State) (f : Fld) (v : Nat) : (s.setFld f v).rdata = s.rdata := rfl
@[simp] theorem State.setFld_floor (s : State) (f : Fld) (v : Nat) : (s.setFld f v).floor = s.floor := rfl
@[simp] theorem State.setFld_raised (s : State) (f : Fld) (v : Nat) : (s.setFld f v).raised = s.raised := rfl
@[simp] theorem State.setFld_free (s : State) (f : Fld) (v : Nat) : (s.setFld f v).free = s.free := rfl
@[simp] theorem State.setFld_pending (s : State) (f : Fld) (v : Nat) : (s.setFld f v).pending = s.pending := rfl

/-! ### State.setPair -/

@[simp] theorem State.setPair_time (s : State) (lo v : Nat) : (s.setPair lo v).time = s.time := rfl
@[simp] theorem State.setPair_act (s : State) (lo v : Nat) : (s.setPair lo v).act = s.act := rfl
@[simp] theorem State.setPair_snap (s : State) (lo v : Nat) : (s.setPair lo v).snap = s.snap := rfl
@[simp] theorem State.setPair_sel (s : State) (lo v : Nat) : (s.setPair lo v).sel = s.sel := rfl
@[simp] theorem State.setPair_mode (s : State) (lo v : Nat) : (s.setPair lo v).mode = s.mode := rfl
@[simp] theorem State.setPair_weave (s : State) (lo v : Nat) : (s.setPair lo v).weave = s.weave := rfl
@[simp] theorem State.setPair_trims (s : State) (lo v : Nat) : (s.setPair lo v).trims = s.trims := rfl
@[simp] theorem State.setPair_cells (s : State) (lo v : Nat) : (s.setPair lo v).cells = s.cells := rfl
@[simp] theorem State.setPair_cellsHeld (s : State) (lo v : Nat) : (s.setPair lo v).cellsHeld = s.cellsHeld := rfl
@[simp] theorem State.setPair_codeExec (s : State) (lo v : Nat) : (s.setPair lo v).codeExec = s.codeExec := rfl
@[simp] theorem State.setPair_cstore (s : State) (lo v : Nat) : (s.setPair lo v).cstore = s.cstore := rfl
@[simp] theorem State.setPair_cstoreBad (s : State) (lo v : Nat) : (s.setPair lo v).cstoreBad = s.cstoreBad := rfl
@[simp] theorem State.setPair_heap (s : State) (lo v : Nat) : (s.setPair lo v).heap = s.heap := rfl
@[simp] theorem State.setPair_shep (s : State) (lo v : Nat) : (s.setPair lo v).shep = s.shep := rfl
@[simp] theorem State.setPair_tally (s : State) (lo v : Nat) : (s.setPair lo v).tally = s.tally := rfl
@[simp] theorem State.setPair_pic (s : State) (lo v : Nat) : (s.setPair lo v).pic = s.pic := rfl
@[simp] theorem State.setPair_irqs (s : State) (lo v : Nat) : (s.setPair lo v).irqs = s.irqs := rfl
@[simp] theorem State.setPair_resyncs (s : State) (lo v : Nat) : (s.setPair lo v).resyncs = s.resyncs := rfl
@[simp] theorem State.setPair_patchReqs (s : State) (lo v : Nat) : (s.setPair lo v).patchReqs = s.patchReqs := rfl
@[simp] theorem State.setPair_dram (s : State) (lo v : Nat) : (s.setPair lo v).dram = s.dram := rfl
@[simp] theorem State.setPair_wmem (s : State) (lo v : Nat) : (s.setPair lo v).wmem = s.wmem := rfl
@[simp] theorem State.setPair_flash (s : State) (lo v : Nat) : (s.setPair lo v).flash = s.flash := rfl
@[simp] theorem State.setPair_host (s : State) (lo v : Nat) : (s.setPair lo v).host = s.host := rfl
@[simp] theorem State.setPair_evr (s : State) (lo v : Nat) : (s.setPair lo v).evr = s.evr := rfl
@[simp] theorem State.setPair_lamps (s : State) (lo v : Nat) : (s.setPair lo v).lamps = s.lamps := rfl
@[simp] theorem State.setPair_adc (s : State) (lo v : Nat) : (s.setPair lo v).adc = s.adc := rfl
@[simp] theorem State.setPair_vio (s : State) (lo v : Nat) : (s.setPair lo v).vio = s.vio := rfl
@[simp] theorem State.setPair_power (s : State) (lo v : Nat) : (s.setPair lo v).power = s.power := rfl
@[simp] theorem State.setPair_gkp (s : State) (lo v : Nat) : (s.setPair lo v).gkp = s.gkp := rfl
@[simp] theorem State.setPair_warden (s : State) (lo v : Nat) : (s.setPair lo v).warden = s.warden := rfl
@[simp] theorem State.setPair_out (s : State) (lo v : Nat) : (s.setPair lo v).out = s.out := rfl
@[simp] theorem State.setPair_rdata (s : State) (lo v : Nat) : (s.setPair lo v).rdata = s.rdata := rfl
@[simp] theorem State.setPair_floor (s : State) (lo v : Nat) : (s.setPair lo v).floor = s.floor := rfl
@[simp] theorem State.setPair_raised (s : State) (lo v : Nat) : (s.setPair lo v).raised = s.raised := rfl
@[simp] theorem State.setPair_free (s : State) (lo v : Nat) : (s.setPair lo v).free = s.free := rfl
@[simp] theorem State.setPair_pending (s : State) (lo v : Nat) : (s.setPair lo v).pending = s.pending := rfl

/-! ### State.raise -/

@[simp] theorem State.raise_time (s : State) (source arg : Nat) : (s.raise source arg).time = s.time := rfl
@[simp] theorem State.raise_regs (s : State) (source arg : Nat) : (s.raise source arg).regs = s.regs := rfl
@[simp] theorem State.raise_act (s : State) (source arg : Nat) : (s.raise source arg).act = s.act := rfl
@[simp] theorem State.raise_snap (s : State) (source arg : Nat) : (s.raise source arg).snap = s.snap := rfl
@[simp] theorem State.raise_sel (s : State) (source arg : Nat) : (s.raise source arg).sel = s.sel := rfl
@[simp] theorem State.raise_mode (s : State) (source arg : Nat) : (s.raise source arg).mode = s.mode := rfl
@[simp] theorem State.raise_weave (s : State) (source arg : Nat) : (s.raise source arg).weave = s.weave := rfl
@[simp] theorem State.raise_trims (s : State) (source arg : Nat) : (s.raise source arg).trims = s.trims := rfl
@[simp] theorem State.raise_cells (s : State) (source arg : Nat) : (s.raise source arg).cells = s.cells := rfl
@[simp] theorem State.raise_cellsHeld (s : State) (source arg : Nat) : (s.raise source arg).cellsHeld = s.cellsHeld := rfl
@[simp] theorem State.raise_codeExec (s : State) (source arg : Nat) : (s.raise source arg).codeExec = s.codeExec := rfl
@[simp] theorem State.raise_cstore (s : State) (source arg : Nat) : (s.raise source arg).cstore = s.cstore := rfl
@[simp] theorem State.raise_cstoreBad (s : State) (source arg : Nat) : (s.raise source arg).cstoreBad = s.cstoreBad := rfl
@[simp] theorem State.raise_heap (s : State) (source arg : Nat) : (s.raise source arg).heap = s.heap := rfl
@[simp] theorem State.raise_shep (s : State) (source arg : Nat) : (s.raise source arg).shep = s.shep := rfl
@[simp] theorem State.raise_tally (s : State) (source arg : Nat) : (s.raise source arg).tally = s.tally := rfl
@[simp] theorem State.raise_pic (s : State) (source arg : Nat) : (s.raise source arg).pic = s.pic := rfl
@[simp] theorem State.raise_irqs (s : State) (source arg : Nat) : (s.raise source arg).irqs = s.irqs := rfl
@[simp] theorem State.raise_resyncs (s : State) (source arg : Nat) : (s.raise source arg).resyncs = s.resyncs := rfl
@[simp] theorem State.raise_patchReqs (s : State) (source arg : Nat) : (s.raise source arg).patchReqs = s.patchReqs := rfl
@[simp] theorem State.raise_dram (s : State) (source arg : Nat) : (s.raise source arg).dram = s.dram := rfl
@[simp] theorem State.raise_wmem (s : State) (source arg : Nat) : (s.raise source arg).wmem = s.wmem := rfl
@[simp] theorem State.raise_flash (s : State) (source arg : Nat) : (s.raise source arg).flash = s.flash := rfl
@[simp] theorem State.raise_host (s : State) (source arg : Nat) : (s.raise source arg).host = s.host := rfl
@[simp] theorem State.raise_evr (s : State) (source arg : Nat) : (s.raise source arg).evr = s.evr := rfl
@[simp] theorem State.raise_lamps (s : State) (source arg : Nat) : (s.raise source arg).lamps = s.lamps := rfl
@[simp] theorem State.raise_adc (s : State) (source arg : Nat) : (s.raise source arg).adc = s.adc := rfl
@[simp] theorem State.raise_vio (s : State) (source arg : Nat) : (s.raise source arg).vio = s.vio := rfl
@[simp] theorem State.raise_power (s : State) (source arg : Nat) : (s.raise source arg).power = s.power := rfl
@[simp] theorem State.raise_gkp (s : State) (source arg : Nat) : (s.raise source arg).gkp = s.gkp := rfl
@[simp] theorem State.raise_warden (s : State) (source arg : Nat) : (s.raise source arg).warden = s.warden := rfl
@[simp] theorem State.raise_out (s : State) (source arg : Nat) : (s.raise source arg).out = s.out := rfl
@[simp] theorem State.raise_rdata (s : State) (source arg : Nat) : (s.raise source arg).rdata = s.rdata := rfl
@[simp] theorem State.raise_floor (s : State) (source arg : Nat) : (s.raise source arg).floor = s.floor := rfl
@[simp] theorem State.raise_free (s : State) (source arg : Nat) : (s.raise source arg).free = s.free := rfl
@[simp] theorem State.raise_pending (s : State) (source arg : Nat) : (s.raise source arg).pending = s.pending := rfl

/-! ### State.setCell -/

@[simp] theorem State.setCell_time (s : State) (c : Nat) (x : Cell) : (s.setCell c x).time = s.time := rfl
@[simp] theorem State.setCell_regs (s : State) (c : Nat) (x : Cell) : (s.setCell c x).regs = s.regs := rfl
@[simp] theorem State.setCell_act (s : State) (c : Nat) (x : Cell) : (s.setCell c x).act = s.act := rfl
@[simp] theorem State.setCell_snap (s : State) (c : Nat) (x : Cell) : (s.setCell c x).snap = s.snap := rfl
@[simp] theorem State.setCell_sel (s : State) (c : Nat) (x : Cell) : (s.setCell c x).sel = s.sel := rfl
@[simp] theorem State.setCell_mode (s : State) (c : Nat) (x : Cell) : (s.setCell c x).mode = s.mode := rfl
@[simp] theorem State.setCell_weave (s : State) (c : Nat) (x : Cell) : (s.setCell c x).weave = s.weave := rfl
@[simp] theorem State.setCell_trims (s : State) (c : Nat) (x : Cell) : (s.setCell c x).trims = s.trims := rfl
@[simp] theorem State.setCell_cellsHeld (s : State) (c : Nat) (x : Cell) : (s.setCell c x).cellsHeld = s.cellsHeld := rfl
@[simp] theorem State.setCell_codeExec (s : State) (c : Nat) (x : Cell) : (s.setCell c x).codeExec = s.codeExec := rfl
@[simp] theorem State.setCell_cstore (s : State) (c : Nat) (x : Cell) : (s.setCell c x).cstore = s.cstore := rfl
@[simp] theorem State.setCell_cstoreBad (s : State) (c : Nat) (x : Cell) : (s.setCell c x).cstoreBad = s.cstoreBad := rfl
@[simp] theorem State.setCell_heap (s : State) (c : Nat) (x : Cell) : (s.setCell c x).heap = s.heap := rfl
@[simp] theorem State.setCell_shep (s : State) (c : Nat) (x : Cell) : (s.setCell c x).shep = s.shep := rfl
@[simp] theorem State.setCell_tally (s : State) (c : Nat) (x : Cell) : (s.setCell c x).tally = s.tally := rfl
@[simp] theorem State.setCell_pic (s : State) (c : Nat) (x : Cell) : (s.setCell c x).pic = s.pic := rfl
@[simp] theorem State.setCell_irqs (s : State) (c : Nat) (x : Cell) : (s.setCell c x).irqs = s.irqs := rfl
@[simp] theorem State.setCell_resyncs (s : State) (c : Nat) (x : Cell) : (s.setCell c x).resyncs = s.resyncs := rfl
@[simp] theorem State.setCell_patchReqs (s : State) (c : Nat) (x : Cell) : (s.setCell c x).patchReqs = s.patchReqs := rfl
@[simp] theorem State.setCell_dram (s : State) (c : Nat) (x : Cell) : (s.setCell c x).dram = s.dram := rfl
@[simp] theorem State.setCell_wmem (s : State) (c : Nat) (x : Cell) : (s.setCell c x).wmem = s.wmem := rfl
@[simp] theorem State.setCell_flash (s : State) (c : Nat) (x : Cell) : (s.setCell c x).flash = s.flash := rfl
@[simp] theorem State.setCell_host (s : State) (c : Nat) (x : Cell) : (s.setCell c x).host = s.host := rfl
@[simp] theorem State.setCell_evr (s : State) (c : Nat) (x : Cell) : (s.setCell c x).evr = s.evr := rfl
@[simp] theorem State.setCell_lamps (s : State) (c : Nat) (x : Cell) : (s.setCell c x).lamps = s.lamps := rfl
@[simp] theorem State.setCell_adc (s : State) (c : Nat) (x : Cell) : (s.setCell c x).adc = s.adc := rfl
@[simp] theorem State.setCell_vio (s : State) (c : Nat) (x : Cell) : (s.setCell c x).vio = s.vio := rfl
@[simp] theorem State.setCell_power (s : State) (c : Nat) (x : Cell) : (s.setCell c x).power = s.power := rfl
@[simp] theorem State.setCell_gkp (s : State) (c : Nat) (x : Cell) : (s.setCell c x).gkp = s.gkp := rfl
@[simp] theorem State.setCell_warden (s : State) (c : Nat) (x : Cell) : (s.setCell c x).warden = s.warden := rfl
@[simp] theorem State.setCell_out (s : State) (c : Nat) (x : Cell) : (s.setCell c x).out = s.out := rfl
@[simp] theorem State.setCell_rdata (s : State) (c : Nat) (x : Cell) : (s.setCell c x).rdata = s.rdata := rfl
@[simp] theorem State.setCell_floor (s : State) (c : Nat) (x : Cell) : (s.setCell c x).floor = s.floor := rfl
@[simp] theorem State.setCell_raised (s : State) (c : Nat) (x : Cell) : (s.setCell c x).raised = s.raised := rfl
@[simp] theorem State.setCell_free (s : State) (c : Nat) (x : Cell) : (s.setCell c x).free = s.free := rfl
@[simp] theorem State.setCell_pending (s : State) (c : Nat) (x : Cell) : (s.setCell c x).pending = s.pending := rfl

/-! ### State.modCell -/

@[simp] theorem State.modCell_time (s : State) (c : Nat) (f : Cell → Cell) : (s.modCell c f).time = s.time := rfl
@[simp] theorem State.modCell_regs (s : State) (c : Nat) (f : Cell → Cell) : (s.modCell c f).regs = s.regs := rfl
@[simp] theorem State.modCell_act (s : State) (c : Nat) (f : Cell → Cell) : (s.modCell c f).act = s.act := rfl
@[simp] theorem State.modCell_snap (s : State) (c : Nat) (f : Cell → Cell) : (s.modCell c f).snap = s.snap := rfl
@[simp] theorem State.modCell_sel (s : State) (c : Nat) (f : Cell → Cell) : (s.modCell c f).sel = s.sel := rfl
@[simp] theorem State.modCell_mode (s : State) (c : Nat) (f : Cell → Cell) : (s.modCell c f).mode = s.mode := rfl
@[simp] theorem State.modCell_weave (s : State) (c : Nat) (f : Cell → Cell) : (s.modCell c f).weave = s.weave := rfl
@[simp] theorem State.modCell_trims (s : State) (c : Nat) (f : Cell → Cell) : (s.modCell c f).trims = s.trims := rfl
@[simp] theorem State.modCell_cellsHeld (s : State) (c : Nat) (f : Cell → Cell) : (s.modCell c f).cellsHeld = s.cellsHeld := rfl
@[simp] theorem State.modCell_codeExec (s : State) (c : Nat) (f : Cell → Cell) : (s.modCell c f).codeExec = s.codeExec := rfl
@[simp] theorem State.modCell_cstore (s : State) (c : Nat) (f : Cell → Cell) : (s.modCell c f).cstore = s.cstore := rfl
@[simp] theorem State.modCell_cstoreBad (s : State) (c : Nat) (f : Cell → Cell) : (s.modCell c f).cstoreBad = s.cstoreBad := rfl
@[simp] theorem State.modCell_heap (s : State) (c : Nat) (f : Cell → Cell) : (s.modCell c f).heap = s.heap := rfl
@[simp] theorem State.modCell_shep (s : State) (c : Nat) (f : Cell → Cell) : (s.modCell c f).shep = s.shep := rfl
@[simp] theorem State.modCell_tally (s : State) (c : Nat) (f : Cell → Cell) : (s.modCell c f).tally = s.tally := rfl
@[simp] theorem State.modCell_pic (s : State) (c : Nat) (f : Cell → Cell) : (s.modCell c f).pic = s.pic := rfl
@[simp] theorem State.modCell_irqs (s : State) (c : Nat) (f : Cell → Cell) : (s.modCell c f).irqs = s.irqs := rfl
@[simp] theorem State.modCell_resyncs (s : State) (c : Nat) (f : Cell → Cell) : (s.modCell c f).resyncs = s.resyncs := rfl
@[simp] theorem State.modCell_patchReqs (s : State) (c : Nat) (f : Cell → Cell) : (s.modCell c f).patchReqs = s.patchReqs := rfl
@[simp] theorem State.modCell_dram (s : State) (c : Nat) (f : Cell → Cell) : (s.modCell c f).dram = s.dram := rfl
@[simp] theorem State.modCell_wmem (s : State) (c : Nat) (f : Cell → Cell) : (s.modCell c f).wmem = s.wmem := rfl
@[simp] theorem State.modCell_flash (s : State) (c : Nat) (f : Cell → Cell) : (s.modCell c f).flash = s.flash := rfl
@[simp] theorem State.modCell_host (s : State) (c : Nat) (f : Cell → Cell) : (s.modCell c f).host = s.host := rfl
@[simp] theorem State.modCell_evr (s : State) (c : Nat) (f : Cell → Cell) : (s.modCell c f).evr = s.evr := rfl
@[simp] theorem State.modCell_lamps (s : State) (c : Nat) (f : Cell → Cell) : (s.modCell c f).lamps = s.lamps := rfl
@[simp] theorem State.modCell_adc (s : State) (c : Nat) (f : Cell → Cell) : (s.modCell c f).adc = s.adc := rfl
@[simp] theorem State.modCell_vio (s : State) (c : Nat) (f : Cell → Cell) : (s.modCell c f).vio = s.vio := rfl
@[simp] theorem State.modCell_power (s : State) (c : Nat) (f : Cell → Cell) : (s.modCell c f).power = s.power := rfl
@[simp] theorem State.modCell_gkp (s : State) (c : Nat) (f : Cell → Cell) : (s.modCell c f).gkp = s.gkp := rfl
@[simp] theorem State.modCell_warden (s : State) (c : Nat) (f : Cell → Cell) : (s.modCell c f).warden = s.warden := rfl
@[simp] theorem State.modCell_out (s : State) (c : Nat) (f : Cell → Cell) : (s.modCell c f).out = s.out := rfl
@[simp] theorem State.modCell_rdata (s : State) (c : Nat) (f : Cell → Cell) : (s.modCell c f).rdata = s.rdata := rfl
@[simp] theorem State.modCell_floor (s : State) (c : Nat) (f : Cell → Cell) : (s.modCell c f).floor = s.floor := rfl
@[simp] theorem State.modCell_raised (s : State) (c : Nat) (f : Cell → Cell) : (s.modCell c f).raised = s.raised := rfl
@[simp] theorem State.modCell_free (s : State) (c : Nat) (f : Cell → Cell) : (s.modCell c f).free = s.free := rfl
@[simp] theorem State.modCell_pending (s : State) (c : Nat) (f : Cell → Cell) : (s.modCell c f).pending = s.pending := rfl

/-! ### State.setSlot -/

@[simp] theorem State.setSlot_time (s : State) (n : Nat) (x : Slot) : (s.setSlot n x).time = s.time := rfl
@[simp] theorem State.setSlot_regs (s : State) (n : Nat) (x : Slot) : (s.setSlot n x).regs = s.regs := rfl
@[simp] theorem State.setSlot_act (s : State) (n : Nat) (x : Slot) : (s.setSlot n x).act = s.act := rfl
@[simp] theorem State.setSlot_snap (s : State) (n : Nat) (x : Slot) : (s.setSlot n x).snap = s.snap := rfl
@[simp] theorem State.setSlot_sel (s : State) (n : Nat) (x : Slot) : (s.setSlot n x).sel = s.sel := rfl
@[simp] theorem State.setSlot_mode (s : State) (n : Nat) (x : Slot) : (s.setSlot n x).mode = s.mode := rfl
@[simp] theorem State.setSlot_weave (s : State) (n : Nat) (x : Slot) : (s.setSlot n x).weave = s.weave := rfl
@[simp] theorem State.setSlot_trims (s : State) (n : Nat) (x : Slot) : (s.setSlot n x).trims = s.trims := rfl
@[simp] theorem State.setSlot_cells (s : State) (n : Nat) (x : Slot) : (s.setSlot n x).cells = s.cells := rfl
@[simp] theorem State.setSlot_cellsHeld (s : State) (n : Nat) (x : Slot) : (s.setSlot n x).cellsHeld = s.cellsHeld := rfl
@[simp] theorem State.setSlot_codeExec (s : State) (n : Nat) (x : Slot) : (s.setSlot n x).codeExec = s.codeExec := rfl
@[simp] theorem State.setSlot_cstore (s : State) (n : Nat) (x : Slot) : (s.setSlot n x).cstore = s.cstore := rfl
@[simp] theorem State.setSlot_cstoreBad (s : State) (n : Nat) (x : Slot) : (s.setSlot n x).cstoreBad = s.cstoreBad := rfl
@[simp] theorem State.setSlot_heap (s : State) (n : Nat) (x : Slot) : (s.setSlot n x).heap = s.heap := rfl
@[simp] theorem State.setSlot_tally (s : State) (n : Nat) (x : Slot) : (s.setSlot n x).tally = s.tally := rfl
@[simp] theorem State.setSlot_pic (s : State) (n : Nat) (x : Slot) : (s.setSlot n x).pic = s.pic := rfl
@[simp] theorem State.setSlot_irqs (s : State) (n : Nat) (x : Slot) : (s.setSlot n x).irqs = s.irqs := rfl
@[simp] theorem State.setSlot_resyncs (s : State) (n : Nat) (x : Slot) : (s.setSlot n x).resyncs = s.resyncs := rfl
@[simp] theorem State.setSlot_patchReqs (s : State) (n : Nat) (x : Slot) : (s.setSlot n x).patchReqs = s.patchReqs := rfl
@[simp] theorem State.setSlot_dram (s : State) (n : Nat) (x : Slot) : (s.setSlot n x).dram = s.dram := rfl
@[simp] theorem State.setSlot_wmem (s : State) (n : Nat) (x : Slot) : (s.setSlot n x).wmem = s.wmem := rfl
@[simp] theorem State.setSlot_flash (s : State) (n : Nat) (x : Slot) : (s.setSlot n x).flash = s.flash := rfl
@[simp] theorem State.setSlot_host (s : State) (n : Nat) (x : Slot) : (s.setSlot n x).host = s.host := rfl
@[simp] theorem State.setSlot_evr (s : State) (n : Nat) (x : Slot) : (s.setSlot n x).evr = s.evr := rfl
@[simp] theorem State.setSlot_lamps (s : State) (n : Nat) (x : Slot) : (s.setSlot n x).lamps = s.lamps := rfl
@[simp] theorem State.setSlot_adc (s : State) (n : Nat) (x : Slot) : (s.setSlot n x).adc = s.adc := rfl
@[simp] theorem State.setSlot_vio (s : State) (n : Nat) (x : Slot) : (s.setSlot n x).vio = s.vio := rfl
@[simp] theorem State.setSlot_power (s : State) (n : Nat) (x : Slot) : (s.setSlot n x).power = s.power := rfl
@[simp] theorem State.setSlot_gkp (s : State) (n : Nat) (x : Slot) : (s.setSlot n x).gkp = s.gkp := rfl
@[simp] theorem State.setSlot_warden (s : State) (n : Nat) (x : Slot) : (s.setSlot n x).warden = s.warden := rfl
@[simp] theorem State.setSlot_out (s : State) (n : Nat) (x : Slot) : (s.setSlot n x).out = s.out := rfl
@[simp] theorem State.setSlot_rdata (s : State) (n : Nat) (x : Slot) : (s.setSlot n x).rdata = s.rdata := rfl
@[simp] theorem State.setSlot_floor (s : State) (n : Nat) (x : Slot) : (s.setSlot n x).floor = s.floor := rfl
@[simp] theorem State.setSlot_raised (s : State) (n : Nat) (x : Slot) : (s.setSlot n x).raised = s.raised := rfl
@[simp] theorem State.setSlot_free (s : State) (n : Nat) (x : Slot) : (s.setSlot n x).free = s.free := rfl
@[simp] theorem State.setSlot_pending (s : State) (n : Nat) (x : Slot) : (s.setSlot n x).pending = s.pending := rfl

/-! ### State.modSlot -/

@[simp] theorem State.modSlot_time (s : State) (n : Nat) (f : Slot → Slot) : (s.modSlot n f).time = s.time := rfl
@[simp] theorem State.modSlot_regs (s : State) (n : Nat) (f : Slot → Slot) : (s.modSlot n f).regs = s.regs := rfl
@[simp] theorem State.modSlot_act (s : State) (n : Nat) (f : Slot → Slot) : (s.modSlot n f).act = s.act := rfl
@[simp] theorem State.modSlot_snap (s : State) (n : Nat) (f : Slot → Slot) : (s.modSlot n f).snap = s.snap := rfl
@[simp] theorem State.modSlot_sel (s : State) (n : Nat) (f : Slot → Slot) : (s.modSlot n f).sel = s.sel := rfl
@[simp] theorem State.modSlot_mode (s : State) (n : Nat) (f : Slot → Slot) : (s.modSlot n f).mode = s.mode := rfl
@[simp] theorem State.modSlot_weave (s : State) (n : Nat) (f : Slot → Slot) : (s.modSlot n f).weave = s.weave := rfl
@[simp] theorem State.modSlot_trims (s : State) (n : Nat) (f : Slot → Slot) : (s.modSlot n f).trims = s.trims := rfl
@[simp] theorem State.modSlot_cells (s : State) (n : Nat) (f : Slot → Slot) : (s.modSlot n f).cells = s.cells := rfl
@[simp] theorem State.modSlot_cellsHeld (s : State) (n : Nat) (f : Slot → Slot) : (s.modSlot n f).cellsHeld = s.cellsHeld := rfl
@[simp] theorem State.modSlot_codeExec (s : State) (n : Nat) (f : Slot → Slot) : (s.modSlot n f).codeExec = s.codeExec := rfl
@[simp] theorem State.modSlot_cstore (s : State) (n : Nat) (f : Slot → Slot) : (s.modSlot n f).cstore = s.cstore := rfl
@[simp] theorem State.modSlot_cstoreBad (s : State) (n : Nat) (f : Slot → Slot) : (s.modSlot n f).cstoreBad = s.cstoreBad := rfl
@[simp] theorem State.modSlot_heap (s : State) (n : Nat) (f : Slot → Slot) : (s.modSlot n f).heap = s.heap := rfl
@[simp] theorem State.modSlot_tally (s : State) (n : Nat) (f : Slot → Slot) : (s.modSlot n f).tally = s.tally := rfl
@[simp] theorem State.modSlot_pic (s : State) (n : Nat) (f : Slot → Slot) : (s.modSlot n f).pic = s.pic := rfl
@[simp] theorem State.modSlot_irqs (s : State) (n : Nat) (f : Slot → Slot) : (s.modSlot n f).irqs = s.irqs := rfl
@[simp] theorem State.modSlot_resyncs (s : State) (n : Nat) (f : Slot → Slot) : (s.modSlot n f).resyncs = s.resyncs := rfl
@[simp] theorem State.modSlot_patchReqs (s : State) (n : Nat) (f : Slot → Slot) : (s.modSlot n f).patchReqs = s.patchReqs := rfl
@[simp] theorem State.modSlot_dram (s : State) (n : Nat) (f : Slot → Slot) : (s.modSlot n f).dram = s.dram := rfl
@[simp] theorem State.modSlot_wmem (s : State) (n : Nat) (f : Slot → Slot) : (s.modSlot n f).wmem = s.wmem := rfl
@[simp] theorem State.modSlot_flash (s : State) (n : Nat) (f : Slot → Slot) : (s.modSlot n f).flash = s.flash := rfl
@[simp] theorem State.modSlot_host (s : State) (n : Nat) (f : Slot → Slot) : (s.modSlot n f).host = s.host := rfl
@[simp] theorem State.modSlot_evr (s : State) (n : Nat) (f : Slot → Slot) : (s.modSlot n f).evr = s.evr := rfl
@[simp] theorem State.modSlot_lamps (s : State) (n : Nat) (f : Slot → Slot) : (s.modSlot n f).lamps = s.lamps := rfl
@[simp] theorem State.modSlot_adc (s : State) (n : Nat) (f : Slot → Slot) : (s.modSlot n f).adc = s.adc := rfl
@[simp] theorem State.modSlot_vio (s : State) (n : Nat) (f : Slot → Slot) : (s.modSlot n f).vio = s.vio := rfl
@[simp] theorem State.modSlot_power (s : State) (n : Nat) (f : Slot → Slot) : (s.modSlot n f).power = s.power := rfl
@[simp] theorem State.modSlot_gkp (s : State) (n : Nat) (f : Slot → Slot) : (s.modSlot n f).gkp = s.gkp := rfl
@[simp] theorem State.modSlot_warden (s : State) (n : Nat) (f : Slot → Slot) : (s.modSlot n f).warden = s.warden := rfl
@[simp] theorem State.modSlot_out (s : State) (n : Nat) (f : Slot → Slot) : (s.modSlot n f).out = s.out := rfl
@[simp] theorem State.modSlot_rdata (s : State) (n : Nat) (f : Slot → Slot) : (s.modSlot n f).rdata = s.rdata := rfl
@[simp] theorem State.modSlot_floor (s : State) (n : Nat) (f : Slot → Slot) : (s.modSlot n f).floor = s.floor := rfl
@[simp] theorem State.modSlot_raised (s : State) (n : Nat) (f : Slot → Slot) : (s.modSlot n f).raised = s.raised := rfl
@[simp] theorem State.modSlot_free (s : State) (n : Nat) (f : Slot → Slot) : (s.modSlot n f).free = s.free := rfl
@[simp] theorem State.modSlot_pending (s : State) (n : Nat) (f : Slot → Slot) : (s.modSlot n f).pending = s.pending := rfl

/-! ### Reports to the Tally touch nothing but the Tally -/

theorem State.report_eq (s : State) (l i : Nat) (cs : List (Nat × Int)) :
    s.report l i cs = { s with tally := (s.report l i cs).tally } := by
  unfold State.report
  dsimp only
  split <;> rfl

@[simp] theorem State.report_time (s : State) (l i : Nat) (cs : List (Nat × Int)) : (s.report l i cs).time = s.time := by
  rw [State.report_eq]
@[simp] theorem State.report_regs (s : State) (l i : Nat) (cs : List (Nat × Int)) : (s.report l i cs).regs = s.regs := by
  rw [State.report_eq]
@[simp] theorem State.report_act (s : State) (l i : Nat) (cs : List (Nat × Int)) : (s.report l i cs).act = s.act := by
  rw [State.report_eq]
@[simp] theorem State.report_snap (s : State) (l i : Nat) (cs : List (Nat × Int)) : (s.report l i cs).snap = s.snap := by
  rw [State.report_eq]
@[simp] theorem State.report_sel (s : State) (l i : Nat) (cs : List (Nat × Int)) : (s.report l i cs).sel = s.sel := by
  rw [State.report_eq]
@[simp] theorem State.report_mode (s : State) (l i : Nat) (cs : List (Nat × Int)) : (s.report l i cs).mode = s.mode := by
  rw [State.report_eq]
@[simp] theorem State.report_weave (s : State) (l i : Nat) (cs : List (Nat × Int)) : (s.report l i cs).weave = s.weave := by
  rw [State.report_eq]
@[simp] theorem State.report_trims (s : State) (l i : Nat) (cs : List (Nat × Int)) : (s.report l i cs).trims = s.trims := by
  rw [State.report_eq]
@[simp] theorem State.report_cells (s : State) (l i : Nat) (cs : List (Nat × Int)) : (s.report l i cs).cells = s.cells := by
  rw [State.report_eq]
@[simp] theorem State.report_cellsHeld (s : State) (l i : Nat) (cs : List (Nat × Int)) : (s.report l i cs).cellsHeld = s.cellsHeld := by
  rw [State.report_eq]
@[simp] theorem State.report_codeExec (s : State) (l i : Nat) (cs : List (Nat × Int)) : (s.report l i cs).codeExec = s.codeExec := by
  rw [State.report_eq]
@[simp] theorem State.report_cstore (s : State) (l i : Nat) (cs : List (Nat × Int)) : (s.report l i cs).cstore = s.cstore := by
  rw [State.report_eq]
@[simp] theorem State.report_cstoreBad (s : State) (l i : Nat) (cs : List (Nat × Int)) : (s.report l i cs).cstoreBad = s.cstoreBad := by
  rw [State.report_eq]
@[simp] theorem State.report_heap (s : State) (l i : Nat) (cs : List (Nat × Int)) : (s.report l i cs).heap = s.heap := by
  rw [State.report_eq]
@[simp] theorem State.report_shep (s : State) (l i : Nat) (cs : List (Nat × Int)) : (s.report l i cs).shep = s.shep := by
  rw [State.report_eq]
@[simp] theorem State.report_pic (s : State) (l i : Nat) (cs : List (Nat × Int)) : (s.report l i cs).pic = s.pic := by
  rw [State.report_eq]
@[simp] theorem State.report_irqs (s : State) (l i : Nat) (cs : List (Nat × Int)) : (s.report l i cs).irqs = s.irqs := by
  rw [State.report_eq]
@[simp] theorem State.report_resyncs (s : State) (l i : Nat) (cs : List (Nat × Int)) : (s.report l i cs).resyncs = s.resyncs := by
  rw [State.report_eq]
@[simp] theorem State.report_patchReqs (s : State) (l i : Nat) (cs : List (Nat × Int)) : (s.report l i cs).patchReqs = s.patchReqs := by
  rw [State.report_eq]
@[simp] theorem State.report_dram (s : State) (l i : Nat) (cs : List (Nat × Int)) : (s.report l i cs).dram = s.dram := by
  rw [State.report_eq]
@[simp] theorem State.report_wmem (s : State) (l i : Nat) (cs : List (Nat × Int)) : (s.report l i cs).wmem = s.wmem := by
  rw [State.report_eq]
@[simp] theorem State.report_flash (s : State) (l i : Nat) (cs : List (Nat × Int)) : (s.report l i cs).flash = s.flash := by
  rw [State.report_eq]
@[simp] theorem State.report_host (s : State) (l i : Nat) (cs : List (Nat × Int)) : (s.report l i cs).host = s.host := by
  rw [State.report_eq]
@[simp] theorem State.report_evr (s : State) (l i : Nat) (cs : List (Nat × Int)) : (s.report l i cs).evr = s.evr := by
  rw [State.report_eq]
@[simp] theorem State.report_lamps (s : State) (l i : Nat) (cs : List (Nat × Int)) : (s.report l i cs).lamps = s.lamps := by
  rw [State.report_eq]
@[simp] theorem State.report_adc (s : State) (l i : Nat) (cs : List (Nat × Int)) : (s.report l i cs).adc = s.adc := by
  rw [State.report_eq]
@[simp] theorem State.report_vio (s : State) (l i : Nat) (cs : List (Nat × Int)) : (s.report l i cs).vio = s.vio := by
  rw [State.report_eq]
@[simp] theorem State.report_power (s : State) (l i : Nat) (cs : List (Nat × Int)) : (s.report l i cs).power = s.power := by
  rw [State.report_eq]
@[simp] theorem State.report_gkp (s : State) (l i : Nat) (cs : List (Nat × Int)) : (s.report l i cs).gkp = s.gkp := by
  rw [State.report_eq]
@[simp] theorem State.report_warden (s : State) (l i : Nat) (cs : List (Nat × Int)) : (s.report l i cs).warden = s.warden := by
  rw [State.report_eq]
@[simp] theorem State.report_out (s : State) (l i : Nat) (cs : List (Nat × Int)) : (s.report l i cs).out = s.out := by
  rw [State.report_eq]
@[simp] theorem State.report_rdata (s : State) (l i : Nat) (cs : List (Nat × Int)) : (s.report l i cs).rdata = s.rdata := by
  rw [State.report_eq]
@[simp] theorem State.report_floor (s : State) (l i : Nat) (cs : List (Nat × Int)) : (s.report l i cs).floor = s.floor := by
  rw [State.report_eq]
@[simp] theorem State.report_raised (s : State) (l i : Nat) (cs : List (Nat × Int)) : (s.report l i cs).raised = s.raised := by
  rw [State.report_eq]
@[simp] theorem State.report_free (s : State) (l i : Nat) (cs : List (Nat × Int)) : (s.report l i cs).free = s.free := by
  rw [State.report_eq]
@[simp] theorem State.report_pending (s : State) (l i : Nat) (cs : List (Nat × Int)) : (s.report l i cs).pending = s.pending := by
  rw [State.report_eq]

/-! ### Registers and their fields -/

@[simp] theorem State.reg_setReg_self (s : State) (off : Nat) (v : W32) : (s.setReg off v).reg off = v := by
  simp [State.setReg, State.reg]

theorem State.reg_setReg_ne (s : State) {off o : Nat} (v : W32) (h : o ≠ off) : (s.setReg off v).reg o = s.reg o := by
  simp [State.setReg, State.reg, AMap.get_put_ne, h]

theorem State.reg_setFld_ne (s : State) {f : Fld} {o : Nat} (v : Nat) (h : o ≠ f.off) :
    (s.setFld f v).reg o = s.reg o := State.reg_setReg_ne s _ h

theorem State.fld_setReg_ne (s : State) {off : Nat} {f : Fld} (v : W32) (h : f.off ≠ off) :
    (s.setReg off v).fld f = s.fld f := by
  simp [State.fld, State.reg_setReg_ne, h]

/-- A written field holds the low bits of what was written. -/
theorem State.fld_setFld_self (s : State) {f : Fld} (v : Nat) (h : f.lo ≤ f.hi) (h' : f.hi < 32) :
    (s.setFld f v).fld f = v % 2 ^ (f.hi + 1 - f.lo) := by
  simp only [State.fld, State.setFld, State.reg_setReg_self, BitVec.toNat_ofNat]
  rw [Nat.mod_eq_of_lt (setBits_lt _ _ _ _ 32 h h' (s.reg f.off).isLt), bits_setBits_self _ _ _ _ h]

/-- Another field of the same register keeps its value. -/
theorem State.fld_setFld_apart (s : State) {f g : Fld} (v : Nat) (hf : f.lo ≤ f.hi) (h' : f.hi < 32) (hg : g.lo ≤ g.hi)
    (hd : g.hi < f.lo ∨ f.hi < g.lo) : (s.setFld f v).fld g = s.fld g := by
  by_cases he : g.off = f.off
  · simp only [State.fld, State.setFld, he, State.reg_setReg_self, BitVec.toNat_ofNat]
    rw [Nat.mod_eq_of_lt (setBits_lt _ _ _ _ 32 hf h' (s.reg f.off).isLt), bits_setBits_ne _ _ _ _ _ _ hf hg hd]
  · exact State.fld_setReg_ne s _ he

theorem State.fld_setFld_ne (s : State) {f g : Fld} (v : Nat) (h : g.off ≠ f.off) : (s.setFld f v).fld g = s.fld g :=
  State.fld_setReg_ne s _ h

theorem State.bit_setFld_one (s : State) {f : Fld} (h : f.lo = f.hi) (h' : f.hi < 32) : (s.setFld f 1).bit f = true := by
  have := State.fld_setFld_self s (f := f) 1 (by omega) h'
  have e : f.hi + 1 - f.lo = 1 := by omega
  simp [State.bit, this, e]

theorem State.bit_setFld_zero (s : State) {f : Fld} (h : f.lo = f.hi) (h' : f.hi < 32) : (s.setFld f 0).bit f = false := by
  have := State.fld_setFld_self s (f := f) 0 (by omega) h'
  simp [State.bit, this]

/-- An update that leaves the registers alone leaves every field alone. -/
theorem State.reg_congr {s t : State} (h : t.regs = s.regs) (off : Nat) : t.reg off = s.reg off := by
  simp [State.reg, h]

theorem State.fld_congr {s t : State} (h : t.regs = s.regs) (f : Fld) : t.fld f = s.fld f := by
  simp [State.fld, State.reg, h]

theorem State.bit_congr {s t : State} (h : t.regs = s.regs) (f : Fld) : t.bit f = s.bit f := by
  simp [State.bit, State.fld_congr h]

theorem State.fld_lt (s : State) (f : Fld) : s.fld f < 2 ^ (f.hi + 1 - f.lo) := bits_lt _ _ _

/-! ### Cells and slots -/

@[simp] theorem State.cell_setCell_self (s : State) (c : Nat) (x : Cell) : (s.setCell c x).cell c = x := by
  simp [State.setCell, State.cell]

theorem State.cell_setCell_ne (s : State) {c d : Nat} (x : Cell) (h : d ≠ c) : (s.setCell c x).cell d = s.cell d := by
  simp [State.setCell, State.cell, AMap.get_put_ne, h]

@[simp] theorem State.cell_modCell_self (s : State) (c : Nat) (f : Cell → Cell) :
    (s.modCell c f).cell c = f (s.cell c) := by
  simp [State.modCell]

theorem State.cell_modCell_ne (s : State) {c d : Nat} (f : Cell → Cell) (h : d ≠ c) :
    (s.modCell c f).cell d = s.cell d := by
  simp [State.modCell, State.cell_setCell_ne, h]

theorem State.cell_congr {s t : State} (h : t.cells = s.cells) (c : Nat) : t.cell c = s.cell c := by
  simp [State.cell, h]

@[simp] theorem State.slot_setSlot_self (s : State) (n : Nat) (x : Slot) : (s.setSlot n x).slot n = x := by
  simp [State.setSlot, State.slot]

theorem State.slot_setSlot_ne (s : State) {n k : Nat} (x : Slot) (h : k ≠ n) : (s.setSlot n x).slot k = s.slot k := by
  simp [State.setSlot, State.slot, AMap.get_put_ne, h]

@[simp] theorem State.slot_modSlot_self (s : State) (n : Nat) (f : Slot → Slot) :
    (s.modSlot n f).slot n = f (s.slot n) := by
  simp [State.modSlot]

theorem State.slot_modSlot_ne (s : State) {n k : Nat} (f : Slot → Slot) (h : k ≠ n) :
    (s.modSlot n f).slot k = s.slot k := by
  simp [State.modSlot, State.slot_setSlot_ne, h]

/-! ### Memories -/

/-- A written byte reads back. -/
theorem Memory.read_write_self (d : Byte) (m : List Host.Cell) (a : Nat) (b : Byte) :
    Memory.read d (Memory.write d m a b) a = b := by
  simp [Memory.read, Memory.write]

/-- A write leaves every other byte. -/
theorem Memory.read_write_ne (d : Byte) (m : List Host.Cell) {a k : Nat} (b : Byte) (h : k ≠ a) :
    Memory.read d (Memory.write d m a b) k = Memory.read d m k := by
  simp [Memory.read, Memory.write, AMap.get_put_ne, h]

/-- Every memory operation keeps the canonical form. -/
theorem Memory.write_wf {d : Byte} {m : List Host.Cell} (a : Nat) (b : Byte) (h : Memory.wf d m = true) :
    Memory.wf d (Memory.write d m a b) = true := AMap.wf_put a b h

theorem Memory.writeN_wf {d : Byte} (bs : List Byte) {m : List Host.Cell} (a : Nat) (h : Memory.wf d m = true) :
    Memory.wf d (Memory.writeN d m a bs) = true := by
  induction bs generalizing m a with
  | nil => exact h
  | cons b bs ih => exact ih (a + 1) (Memory.write_wf a b h)

theorem Memory.putLe_wf {d : Byte} {m : List Host.Cell} (a n v : Nat) (h : Memory.wf d m = true) :
    Memory.wf d (Memory.putLe d m a n v) = true := Memory.writeN_wf _ a h

/-- Bytes outside a written run stay. -/
theorem Memory.read_writeN_outside (d : Byte) (bs : List Byte) (m : List Host.Cell) (a k : Nat)
    (h : k < a ∨ a + bs.length ≤ k) : Memory.read d (Memory.writeN d m a bs) k = Memory.read d m k := by
  induction bs generalizing m a with
  | nil => rfl
  | cons b bs ih =>
    simp only [List.length_cons] at h
    rw [Memory.writeN, ih _ _ (by omega), Memory.read_write_ne _ _ _ (by omega)]

end Sys2Proof.Machine
end

