-- ==== Sys2Proof/Laws/Step.lean ====
section
/-!
SUPPORT. What the shell around every command does: the Alarm board's end of a step, the rows of the two domains, the
queue.
-/
namespace Sys2Proof.Machine

/-! ### The end of a step -/

/-- Nothing raised: the Alarm board does nothing. -/
theorem settle_quiet {s : State} (h : s.raised = []) : settle s = s := by
  simp [settle, h]

/-- After the end of a step nothing is raised. -/
@[simp] theorem settle_raised (s : State) : (settle s).raised = [] := by
  unfold settle
  split
  · rename_i h
    simpa using h
  · rfl

/-! ### Rows of the switched domain -/

/-- While the switched domain is off its rows have no effect. -/
theorem run_off (f : State → State) {s : State} (h : s.power.powered = false) : run f s = .next s := by
  simp [run, h]

/-- A row of the switched domain leaves the queue and the timebase alone and nothing raised. -/
theorem run_next (f : State → State) (s : State) :
    ∃ t, run f s = .next t ∧ t.pending = s.pending ∧ t.time.ns = s.time.ns ∧ t.time.frac = s.time.frac
      ∧ (s.raised = [] → t.raised = []) := by
  unfold run
  split
  · exact ⟨_, rfl, rfl, rfl, rfl, fun _ => settle_raised _⟩
  · exact ⟨_, rfl, rfl, rfl, rfl, id⟩

/-- A row whose effect raises nothing and leaves the queue and the timebase alone answers exactly that effect. -/
theorem run_exact {f : State → State} {s : State} (hu : s.power.powered = true) (hr : (f s).raised = [])
    (hp : (f s).pending = s.pending) (hn : (f s).time.ns = s.time.ns) (hf : (f s).time.frac = s.time.frac) :
    run f s = .next (f s) := by
  simp only [run, hu, if_true, settle_quiet hr, ← hp, ← hn, ← hf]

/-- A row whose effect raises nothing: the next state has every field of that effect but the queue and the timebase. -/
theorem run_effect {f : State → State} {s : State} (hu : s.power.powered = true) (hr : (f s).raised = []) :
    run f s = .next { f s with
      pending := s.pending, time := { (f s).time with ns := s.time.ns, frac := s.time.frac } } := by
  simp only [run, hu, if_true, settle_quiet hr]

/-! ### Rows of the always-on domain -/

/-- A row of the always-on domain leaves the queue and the timebase alone and nothing raised. -/
theorem always_next (f : State → State) (s : State) :
    ∃ t, always f s = .next t ∧ t.pending = s.pending ∧ t.time.ns = s.time.ns ∧ t.time.frac = s.time.frac
      ∧ t.raised = [] :=
  ⟨_, rfl, rfl, rfl, rfl, settle_raised _⟩

theorem always_effect {f : State → State} {s : State} (hr : (f s).raised = []) :
    always f s = .next { f s with
      pending := s.pending, time := { (f s).time with ns := s.time.ns, frac := s.time.frac } } := by
  simp only [always, settle_quiet hr]

/-- A row that moves the timebase leaves the queue alone and nothing raised. -/
theorem clocked_next (f : State → State) (s : State) :
    ∃ t, clocked f s = .next t ∧ t.pending = s.pending ∧ t.raised = [] :=
  ⟨_, rfl, rfl, settle_raised _⟩

theorem clocked_effect {f : State → State} {s : State} (hr : (f s).raised = []) :
    clocked f s = .next { f s with pending := s.pending } := by
  simp only [clocked, settle_quiet hr]

/-! ### The queue -/

theorem step_nil {s : State} (h : s.pending = []) : step s = .next s := by
  simp [step, h]

theorem step_cons {s : State} {c : Instr} {rest : List Instr} (h : s.pending = c :: rest) :
    step s = exec c { s with pending := rest } := by
  simp [step, h]

end Sys2Proof.Machine
end

