-- ==== Sys2Proof/Laws/Cell.lean ====
section
/-!
SUPPORT. What the issue of a move does to its cell: the shell around a unit's trigger, retiring, and the frame of a
change to one cell.
-/
namespace Sys2Proof.Machine

/-! ### Changes to one cell -/

theorem State.OnlyCell.refl (s : State) (c : Nat) : s.OnlyCell c s := ⟨rfl, fun _ _ => rfl⟩

theorem State.OnlyCell.trans {s t u : State} {c : Nat} (h : s.OnlyCell c t) (h' : t.OnlyCell c u) : s.OnlyCell c u := by
  refine ⟨?_, fun d hd => (h'.2 d hd).trans (h.2 d hd)⟩
  have h1 := h.1
  have h2 := h'.1
  rw [h1] at h2
  exact h2

theorem State.onlyCell_modCell (s : State) (c : Nat) (f : Cell → Cell) : s.OnlyCell c (s.modCell c f) :=
  ⟨rfl, fun _ hd => State.cell_modCell_ne s f hd⟩

theorem State.OnlyCell.modCell {s t : State} {c : Nat} (h : s.OnlyCell c t) (f : Cell → Cell) :
    s.OnlyCell c (t.modCell c f) := h.trans (State.onlyCell_modCell t c f)

theorem State.OnlyCell.raised {s t : State} {c : Nat} (h : s.OnlyCell c t) : t.raised = s.raised := by rw [h.1]
theorem State.OnlyCell.pending {s t : State} {c : Nat} (h : s.OnlyCell c t) : t.pending = s.pending := by rw [h.1]
theorem State.OnlyCell.time {s t : State} {c : Nat} (h : s.OnlyCell c t) : t.time = s.time := by rw [h.1]

/-- A row of the switched domain that changes one cell only answers exactly that change. -/
theorem run_onlyCell {f : State → State} {s : State} {c : Nat} (hl : s.Live) (h : s.OnlyCell c (f s)) :
    run f s = .next (f s) :=
  run_exact hl.1 (h.raised.trans hl.2) h.pending (by rw [h.time]) (by rw [h.time])

/-! ### Sockets of a cell -/

theorem Level.num_inj {l l' : Level} (h : l'.num = l.num) : l' = l := by
  cases l <;> cases l' <;> first | rfl | exact absurd h (by decide)

theorem sockKey_ne {l l' : Level} {n n' : Nat} (hn : n < 0x1000) (hn' : n' < 0x1000) (h : ¬ (l' = l ∧ n' = n)) :
    sockKey l' n' ≠ sockKey l n := by
  intro he
  apply h
  unfold sockKey at he
  have : l'.num = l.num ∧ n' = n := by omega
  exact ⟨Level.num_inj this.1, this.2⟩

@[simp] theorem Cell.sock_setSock_self (x : Cell) (l : Level) (n : Nat) (w : TWord) : (x.setSock l n w).sock l n = w := by
  simp [Cell.setSock, Cell.sock]

theorem Cell.sock_setSock_ne (x : Cell) {l l' : Level} {n n' : Nat} (w : TWord) (hn : n < 0x1000) (hn' : n' < 0x1000)
    (h : ¬ (l' = l ∧ n' = n)) : (x.setSock l n w).sock l' n' = x.sock l' n' := by
  simp [Cell.setSock, Cell.sock, AMap.get_put_ne _ _ _ _ (sockKey_ne hn hn' h)]

/-- Equal socket stores read alike. -/
theorem Cell.sock_congr {x y : Cell} (h : x.socks = y.socks) (l : Level) (n : Nat) : x.sock l n = y.sock l n := by
  simp [Cell.sock, h]

@[simp] theorem PerLevel.get_set_self {α : Type} (p : PerLevel α) (l : Level) (v : α) : (p.set l v).get l = v := by
  cases l <;> rfl

theorem PerLevel.get_set_ne {α : Type} (p : PerLevel α) {l l' : Level} (v : α) (h : l' ≠ l) :
    (p.set l v).get l' = p.get l' := by
  cases l <;> cases l' <;> first | rfl | exact absurd rfl h

/-! ### Retiring -/

/-- What retiring does to the cell. -/
def Cell.retired (x : Cell) : Cell :=
  { x with ops := x.ops.map fun o => if o.level = x.level then { o with issued := o.issued + 1 } else o
           hold := x.hold.map fun h => { h with left := h.left - 1 }
           wait := none, pageWait := none }

theorem retire_eq (m : Mv) (s : State) : retire m s = s.modCell m.c Cell.retired := rfl

theorem finish_next (m : Mv) (k : Nat) (s : State) :
    finish m k (okNext s) = (s.modCell m.c fun x => { x with pc := (m.pc + m.len) % 2 ^ 32 }).modCell m.c Cell.retired := rfl

theorem finish_goto (m : Mv) (k p : Nat) (s : State) :
    finish m k (.ok (.goto p) s) = (s.modCell m.c fun x => { x with pc := p % 2 ^ 32 }).modCell m.c Cell.retired := rfl

/-- A move that starts no micro-routine ends at once. -/
theorem finishMove_next (m : Mv) (k : Nat) (s : State) : finishMove m k (okNext s) = finish m k (okNext s) := rfl

theorem finishMove_ok (m : Mv) (k : Nat) (d : Ctl) (s : State) : finishMove m k (.ok d s) = finish m k (.ok d s) := rfl

/-- The cell of a move that has retired: as its effect left it, at the next move. -/
theorem cell_finish_next (m : Mv) (k : Nat) (s : State) :
    (finish m k (okNext s)).cell m.c = { (s.cell m.c).retired with pc := (m.pc + m.len) % 2 ^ 32 } := by
  rw [finish_next, State.cell_modCell_self, State.cell_modCell_self]
  rfl

theorem onlyCell_finish_next {s t : State} {m : Mv} (k : Nat) (h : s.OnlyCell m.c t) :
    s.OnlyCell m.c (finish m k (okNext t)) := by
  rw [finish_next]
  exact (h.modCell _).modCell _

theorem onlyCell_finish_goto {s t : State} {m : Mv} (k p : Nat) (h : s.OnlyCell m.c t) :
    s.OnlyCell m.c (finish m k (.ok (.goto p) t)) := by
  rw [finish_goto]
  exact (h.modCell _).modCell _

/-! ### Issuing -/

theorem holdReached_none {s : State} {c : Nat} (h : (s.cell c).hold = none) : holdReached s c = 0 := by
  simp [holdReached, h]

/-- At a ready cell the move itself is what happens. -/
theorem issue_ready {s : State} {c : Nat} (h : s.Ready c) (f : State → State) : issue c f s = f s := by
  obtain ⟨_, hr, ht, hh, ho, _, hob, hm⟩ := h
  have hops : ((s.cell c).ops.any fun o => decide (o.level = s.lvl c) && decide (o.issued ≥ 17)) = false := by
    rw [List.any_eq_false]
    intro o hm
    have := ho o hm
    simp only [State.lvl, Bool.and_eq_true, decide_eq_true_eq, not_and]
    intro he
    have := this (of_decide_eq_true he)
    omega
  unfold issue
  simp [hr, ht, holdReached_none hh, hops, obtainFirst, hob, hm]

/-- A move that writes a word to a socket that the checks allow, at a ready cell. -/
theorem sockRow_ready {s : State} {c n : Nat} (h : s.Ready c) (hk : sockCheck c n false s = none) (ecc : Ecc) (w : TWord) :
    sockRow c n ecc w s = finishMove ⟨c, (s.cell c).pc, 4⟩ n (writeDst ⟨c, (s.cell c).pc, 4⟩ ecc n w.plain s) := by
  unfold sockRow
  rw [issue_ready h]
  simp [h.2.2.2.2.2.1, hk]

/-- A trigger of a unit outside the supervisor and Warden blocks, FX apart, is always allowed. -/
theorem sockCheck_unit {s : State} {c n : Nat} (h6 : n < 0x600) (hk : sockKind n = .trigger) (hf : needsFpa n = false)
    (h3 : n ≠ 0x311 ∧ n ≠ 0x313) : sockCheck c n false s = none := by
  have h10 : n ≠ 0x310 := by rintro rfl; revert hk; decide
  unfold sockCheck
  have e1 : ¬ (n ≥ 0x700 ∧ c < wardenCell) := by omega
  have e2 : ¬ (n ≥ 0x600 ∧ (s.cell c).sup = false) := by omega
  simp [e1, e2, hk, hf, h3.1, h3.2, h10]

/-- A unit command whose move takes effect: the state its effect leaves, with the cell at the next move. -/
theorem run_unit {s u : State} {c n : Nat} {ecc : Ecc} {w : TWord} (h : s.Ready c) (hk : sockCheck c n false s = none)
    (hw : writeDst ⟨c, (s.cell c).pc, 4⟩ ecc n w.plain s = okNext u) (hr : u.raised = [])
    (hp : u.pending = s.pending) (ht : u.time = s.time) :
    ∃ t, run (sockRow c n ecc w) s = .next t ∧ u.OnlyCell c t
      ∧ t.cell c = { (u.cell c).retired with pc := ((s.cell c).pc + 4) % 2 ^ 32 } := by
  have hrow := ((sockRow_ready h hk ecc w).trans (congrArg _ hw)).trans (finishMove_ok _ _ _ _)
  have ho : u.OnlyCell c (sockRow c n ecc w s) := by
    rw [hrow]
    exact onlyCell_finish_next (m := ⟨c, (s.cell c).pc, 4⟩) _ (State.OnlyCell.refl u c)
  refine ⟨_, run_exact h.1.1 (ho.raised.trans hr) (ho.pending.trans hp) ?_ ?_, ho, ?_⟩
  · rw [ho.time, ht]
  · rw [ho.time, ht]
  · rw [hrow]
    exact cell_finish_next ⟨c, (s.cell c).pc, 4⟩ n u

/-- The same for a move that jumps. -/
theorem run_unit_goto {s u : State} {c n p : Nat} {ecc : Ecc} {w : TWord} (h : s.Ready c)
    (hk : sockCheck c n false s = none) (hw : writeDst ⟨c, (s.cell c).pc, 4⟩ ecc n w.plain s = .ok (.goto p) u)
    (hr : u.raised = []) (hp : u.pending = s.pending) (ht : u.time = s.time) :
    ∃ t, run (sockRow c n ecc w) s = .next t ∧ u.OnlyCell c t
      ∧ t.cell c = { (u.cell c).retired with pc := p % 2 ^ 32 } := by
  have hrow := ((sockRow_ready h hk ecc w).trans (congrArg _ hw)).trans (finishMove_ok _ _ _ _)
  have ho : u.OnlyCell c (sockRow c n ecc w s) := by
    rw [hrow]
    exact onlyCell_finish_goto (m := ⟨c, (s.cell c).pc, 4⟩) _ _ (State.OnlyCell.refl u c)
  refine ⟨_, run_exact h.1.1 (ho.raised.trans hr) (ho.pending.trans hp) ?_ ?_, ho, ?_⟩
  · rw [ho.time, ht]
  · rw [ho.time, ht]
  · rw [hrow, finish_goto, State.cell_modCell_self, State.cell_modCell_self]
    rfl

/-- The same where the effect is one on the cell. -/
theorem run_unit_cell {s : State} {c n : Nat} {ecc : Ecc} {w : TWord} {f : Cell → Cell} (h : s.Ready c)
    (hk : sockCheck c n false s = none)
    (hw : writeDst ⟨c, (s.cell c).pc, 4⟩ ecc n w.plain s = okNext (s.modCell c f)) :
    ∃ t, run (sockRow c n ecc w) s = .next t ∧ s.OnlyCell c t
      ∧ t.cell c = { (f (s.cell c)).retired with pc := ((s.cell c).pc + 4) % 2 ^ 32 } := by
  obtain ⟨t, h1, h2, h3⟩ := run_unit h hk hw h.1.2 rfl rfl
  refine ⟨t, h1, (State.onlyCell_modCell s c f).trans h2, ?_⟩
  rw [h3, State.cell_modCell_self]

end Sys2Proof.Machine
end

