-- ==== Sys2Proof/Laws/Heap.lean ====
section
/-!
SUPPORT. Reading the heap through a cell: what touching a page leaves alone, resident words and objects, loads and
stores that take no slow path.
-/
namespace Sys2Proof.Machine

/-! ### Touching a page -/

@[simp] theorem State.touch_regs (s : State) (p : Nat) (w : Bool) : (s.touch p w).regs = s.regs := rfl
@[simp] theorem State.touch_act (s : State) (p : Nat) (w : Bool) : (s.touch p w).act = s.act := rfl
@[simp] theorem State.touch_snap (s : State) (p : Nat) (w : Bool) : (s.touch p w).snap = s.snap := rfl
@[simp] theorem State.touch_sel (s : State) (p : Nat) (w : Bool) : (s.touch p w).sel = s.sel := rfl
@[simp] theorem State.touch_mode (s : State) (p : Nat) (w : Bool) : (s.touch p w).mode = s.mode := rfl
@[simp] theorem State.touch_cells (s : State) (p : Nat) (w : Bool) : (s.touch p w).cells = s.cells := rfl
@[simp] theorem State.touch_shep (s : State) (p : Nat) (w : Bool) : (s.touch p w).shep = s.shep := rfl
@[simp] theorem State.touch_tally (s : State) (p : Nat) (w : Bool) : (s.touch p w).tally = s.tally := rfl
@[simp] theorem State.touch_dram (s : State) (p : Nat) (w : Bool) : (s.touch p w).dram = s.dram := rfl
@[simp] theorem State.touch_wmem (s : State) (p : Nat) (w : Bool) : (s.touch p w).wmem = s.wmem := rfl
@[simp] theorem State.touch_flash (s : State) (p : Nat) (w : Bool) : (s.touch p w).flash = s.flash := rfl
@[simp] theorem State.touch_host (s : State) (p : Nat) (w : Bool) : (s.touch p w).host = s.host := rfl
@[simp] theorem State.touch_raised (s : State) (p : Nat) (w : Bool) : (s.touch p w).raised = s.raised := rfl
@[simp] theorem State.touch_pending (s : State) (p : Nat) (w : Bool) : (s.touch p w).pending = s.pending := rfl
@[simp] theorem State.touch_time (s : State) (p : Nat) (w : Bool) : (s.touch p w).time = s.time := rfl
@[simp] theorem State.touch_power (s : State) (p : Nat) (w : Bool) : (s.touch p w).power = s.power := rfl
@[simp] theorem State.touch_irqs (s : State) (p : Nat) (w : Bool) : (s.touch p w).irqs = s.irqs := rfl
@[simp] theorem State.touch_evr (s : State) (p : Nat) (w : Bool) : (s.touch p w).evr = s.evr := rfl
@[simp] theorem State.touch_lamps (s : State) (p : Nat) (w : Bool) : (s.touch p w).lamps = s.lamps := rfl
@[simp] theorem State.touch_adc (s : State) (p : Nat) (w : Bool) : (s.touch p w).adc = s.adc := rfl
@[simp] theorem State.touch_vio (s : State) (p : Nat) (w : Bool) : (s.touch p w).vio = s.vio := rfl
@[simp] theorem State.touch_pic (s : State) (p : Nat) (w : Bool) : (s.touch p w).pic = s.pic := rfl
@[simp] theorem State.touch_out (s : State) (p : Nat) (w : Bool) : (s.touch p w).out = s.out := rfl
@[simp] theorem State.touch_free (s : State) (p : Nat) (w : Bool) : (s.touch p w).free = s.free := rfl
@[simp] theorem State.touch_heap_words (s : State) (p : Nat) (w : Bool) : (s.touch p w).heap.words = s.heap.words :=
  rfl
@[simp] theorem State.touch_heap_grans (s : State) (p : Nat) (w : Bool) : (s.touch p w).heap.grans = s.heap.grans :=
  rfl
@[simp] theorem State.touch_heap_reqs (s : State) (p : Nat) (w : Bool) : (s.touch p w).heap.reqs = s.heap.reqs :=
  rfl
@[simp] theorem State.touch_heap_phase (s : State) (p : Nat) (w : Bool) : (s.touch p w).heap.phase = s.heap.phase :=
  rfl
@[simp] theorem State.touch_heap_cycle (s : State) (p : Nat) (w : Bool) : (s.touch p w).heap.cycle = s.heap.cycle :=
  rfl
@[simp] theorem State.touch_heap_scanned (s : State) (p : Nat) (w : Bool) : (s.touch p w).heap.scanned = s.heap.scanned :=
  rfl
@[simp] theorem State.touch_heap_rootsDone (s : State) (p : Nat) (w : Bool) : (s.touch p w).heap.rootsDone = s.heap.rootsDone :=
  rfl
@[simp] theorem State.touch_heap_grey (s : State) (p : Nat) (w : Bool) : (s.touch p w).heap.grey = s.heap.grey :=
  rfl
@[simp] theorem State.touch_heap_condemned (s : State) (p : Nat) (w : Bool) : (s.touch p w).heap.condemned = s.heap.condemned :=
  rfl
@[simp] theorem State.touch_heap_poison (s : State) (p : Nat) (w : Bool) : (s.touch p w).heap.poison = s.heap.poison :=
  rfl
@[simp] theorem State.touch_heap_badWords (s : State) (p : Nat) (w : Bool) : (s.touch p w).heap.badWords = s.heap.badWords :=
  rfl
@[simp] theorem State.touch_heap_registered (s : State) (p : Nat) (w : Bool) : (s.touch p w).heap.registered = s.heap.registered :=
  rfl
@[simp] theorem State.touch_heap_queues (s : State) (p : Nat) (w : Bool) : (s.touch p w).heap.queues = s.heap.queues :=
  rfl
@[simp] theorem State.touch_heap_built (s : State) (p : Nat) (w : Bool) : (s.touch p w).heap.built = s.heap.built :=
  rfl
@[simp] theorem State.touch_heap_answers (s : State) (p : Nat) (w : Bool) : (s.touch p w).heap.answers = s.heap.answers :=
  rfl
@[simp] theorem State.touch_heap_gslabs (s : State) (p : Nat) (w : Bool) : (s.touch p w).heap.gslabs = s.heap.gslabs :=
  rfl
@[simp] theorem State.touch_cell (s : State) (p : Nat) (w : Bool) (c : Nat) : (s.touch p w).cell c = s.cell c := rfl

@[simp] theorem State.touch_region (s : State) (p : Nat) (w : Bool) (q : Nat) : (s.touch p w).region q = s.region q := by
  rfl

/-- Touching a page changes what is resident nowhere. -/
@[simp] theorem State.touch_resident (s : State) (p : Nat) (w : Bool) (q : Nat) :
    (s.touch p w).resident q = s.resident q := by
  unfold State.resident State.binOf State.touch
  dsimp only
  generalize s.heap.bins = m
  induction m with
  | nil => rfl
  | cons e m ih =>
    obtain ⟨a, b⟩ := e
    by_cases hp : b.page = p <;> by_cases hq : b.page = q <;> simp_all

@[simp] theorem State.touch_heapRead (s : State) (p : Nat) (w : Bool) (a : Nat) :
    (s.touch p w).heapRead a = s.heapRead a := by
  unfold State.heapRead
  rw [State.touch_resident]
  rfl

@[simp] theorem State.touch_memWord (s : State) (p : Nat) (w : Bool) (a : Nat) :
    (s.touch p w).memWord a = s.memWord a := by
  unfold State.memWord
  simp only [State.touch_heapRead, State.touch_shep]

/-- Changes to one cell leave the heap readable as it was. -/
theorem State.OnlyCell.heapRead {s t : State} {c : Nat} (h : s.OnlyCell c t) (a : Nat) : t.heapRead a = s.heapRead a := by
  rw [h.1]; rfl

theorem State.OnlyCell.memWord {s t : State} {c : Nat} (h : s.OnlyCell c t) (a : Nat) : t.memWord a = s.memWord a := by
  rw [h.1]; rfl

/-! ### Objects and words that are there -/

theorem needPage_resident {s : State} (c : Nat) {a : Nat} (hr : s.resident (pageOf a) = true)
    (hp : pageOf a ∉ s.heap.poison) : needPage c a s = .ok () (s.touch (pageOf a) false) := by
  unfold needPage
  simp [hp, hr]

/-- A pointer to a resident object whose header is in place. -/
theorem objAt_there {s : State} {w : TWord} {n : Nat} (h : s.Object w n) (c sock : Nat) (store : Bool)
    (hs : store = true → s.region (pageOf (addrOf w)) ≠ .image) :
    objAt c sock w store s = .ok (addrOf w, n) (s.touch (pageOf (addrOf w)) false) := by
  obtain ⟨hc, hm, hr, hp, ht, hk, hn⟩ := h
  have hs' : (store && decide (s.region (pageOf (addrOf w)) = .image)) = false := by
    cases store <;> simp_all
  have e1 : (tHDR = tFWD) = False := by decide
  unfold objAt
  simp only [hc, Bool.not_true, hm, hs', needPage_resident c hr hp, Out.andThen, State.touch_heapRead, ht, e1, if_false,
    Bool.false_eq_true, hk, hn, and_self, if_true]

/-- An ordinary word loads as it stands in memory. -/
theorem loadWord_there {s : State} {c a : Nat} (h : s.Loadable c a) (e sock : Nat) (he : e = 0) :
    loadWord c e sock a s = .ok (s.memWord a).plain (s.touch (pageOf a) false) := by
  obtain ⟨hm, hb, hr, hp, hf, hw, hi⟩ := h
  subst he
  unfold loadWord
  have hn : ¬ ((s.memWord a).t = tFWD) := hf
  simp [hm, hb, needPage_resident c hr hp, Out.andThen, hw, readBarrier, hn, hi]

theorem loadField_there {s : State} {c a : Nat} (h : s.Loadable c a) (sock : Nat) (he : s.cellEpoch c = 0) :
    loadField c sock a s = .ok (s.memWord a).plain (s.touch (pageOf a) false) := by
  have hs : slowLoad s a = false := by
    obtain ⟨hm, hb, hr, hp, hf, hw, hi⟩ := h
    have hn : ¬ ((s.memWord a).t = tFWD) := hf
    simp [slowLoad, hr, hn, hi]
  unfold loadField
  simp only [hs, Bool.false_eq_true, if_false]
  exact loadWord_there h _ _ he

end Sys2Proof.Machine
end

