-- ==== Sys2Proof/Machine/HostView.lean ====
section
/-!
DEFINITION. What the host reads of the endpoint beside BAR0: the configuration header, the doorbells of BAR2 and the
Larder's debug window in BAR4 (12 R595 to R603). No row of the table reads them, so they are views of the state.
-/
namespace Sys2Proof.Machine

/-- The aligned 32-bit words of the configuration header that the spec gives (R595); 64-bit BARs 0, 2 and 4 are the only
ones implemented (R596). -/
def configWord (off : Nat) : Option W32 :=
  if off = 0x00 then some 0x25601F3C#32
  else if off = 0x08 then some 0x038000A1#32
  else if off = 0x2C then some Config.subsystemFuses
  else none

/-- The size of a BAR in bytes; 0 where it reads as not implemented (R596, R597). -/
def barSize (n : Nat) : Nat :=
  if n = 0 then 0x10000
  else if n = 2 then 0x1000
  else if n = 4 then (if Config.debugFuse then 0 else 0x2000000)
  else 0

/-- What a doorbell reads back (R603). -/
def State.doorbell (s : State) (off : Nat) : Option Nat :=
  if off < 0x800 then
    let r := AMap.get CmdRing.reset s.evr.rings (off / 0x80)
    if off % 0x80 = 0 then some r.lastPi else if off % 0x80 = 4 then some r.lastAci else none
  else if off = 0x800 then some s.evr.evt.lastCi
  else if off = 0x880 then some s.evr.log.lastCi
  else none

/-- The 16 bytes of the debug window that show word w of bin b (R597): payload, tag and colour, zeros. A bin that holds
no resident page shows words of the opaque `Config.emptyBin` (log entry 132). -/
def State.larderBytes (s : State) (b w : Nat) : List Byte :=
  let v : TWord := match s.heap.bins.find? b with
    | some x => if x.transit then Config.emptyBin b w else s.heapRead (1024 * x.page + w)
    | none => Config.emptyBin b w
  leBytes 8 v.p ++ leBytes 1 (v.t + v.colour.toNat * 64) ++ List.replicate 7 0#8

/-- Byte off of BAR4; none where BAR4 is not implemented. -/
def State.bar4 (s : State) (off : Nat) : Option Byte :=
  if off < barSize 4 then some ((s.larderBytes (off / 16384) (off / 16 % 1024)).getD (off % 16) 0#8) else none

end Sys2Proof.Machine
end

