-- ==== Sys2Proof/WellFormed.lean ====
section
/-!
DEFINITION. Well-formed commands: the operands that a sender can put into a command. An ill-formed command has no
counterpart on the block's pins and buses.
-/
namespace Sys2Proof

/-- The offset of a 32-bit register of the setup window or of the platform window (01 R52, 19 R930). -/
def regOffOk (off : Nat) : Bool := off % 4 == 0 && decide (off < 0x11000)

/-- A word that a move can deliver: colour 0b00 (03 R104), and no FWD, which no cell register holds (03 R111). -/
def wordOk (w : TWord) : Bool := w.colour == 0#2 && w.t != tFWD

/-- Payload words of a packet of a virtual channel (02 R64). -/
def packetOk (vc : Machine.VC) (words : Nat) : Bool :=
  match vc with
  | .safe => decide (words ≤ 2)
  | _ => decide (words ≤ 16)

/-- The word of a command that is a move's write of a given socket. -/
def Instr.word : Instr → Option TWord
  | .syStWrite _ w | .gaAdd _ w | .gaSub _ w | .gaMul _ w | .gaDiv _ w | .gaRem _ w | .gaNeg _ w | .gaAbs _ w
  | .gaLt _ w | .gaLe _ w | .gaGt _ w | .gaGe _ w | .gaNumeq _ w | .gaEq _ w | .gaMin _ w | .gaMax _ w | .gaAnd _ w
  | .gaOr _ w | .gaXor _ w | .gaNot _ w | .gaShl _ w | .gaShr _ w | .gaShrl _ w | .gaTofix _ w | .gaTofixq _ w
  | .gaToflo _ w | .fxAdd _ w | .fxSub _ w | .fxMul _ w | .fxDiv _ w | .fxSqrt _ w | .fxFma _ w | .fxMin _ w
  | .fxMax _ w | .fxNeg _ w | .fxAbs _ w | .fxRint _ w | .fxTofix _ w | .fxFromfix _ w | .fxLt _ w | .fxLe _ w
  | .fxEq _ w | .fxUn _ w | .tgSettag _ w | .tgGettag _ w | .tgRaw _ w | .tgIs _ w | .tgClass _ w | .tgIsptr _ w
  | .lxCar _ w | .lxCdr _ w | .lxRef _ w | .lxLen _ w | .lxUnbox _ w | .lxCode _ w | .lxSetcar _ w | .lxSetcdr _ w
  | .lxSet _ w | .lxSetbox _ w | .lxCons _ w | .lxMkvec _ w | .lxMkstr _ w | .lxMkbox _ w | .lxMkclo _ w | .mxLd _ w
  | .mxSt _ w | .mxCas _ w | .mxFence _ w | .mxCodest _ w | .mxCodeld _ w | .mxSave _ w | .mxRest _ w | .brJmp _ w
  | .brCall _ w | .brRet _ w | .brTret _ w | .brEnter _ w | .brResync _ w | .brSpawn _ w | .brCancel _ w
  | .brYield _ w | .brExit _ w | .brSpeculate _ w | .brEconfirm _ w | .brEsquash _ w | .evWait _ w | .evUntil _ w
  | .evSend _ w | .evClr _ w | .syCpset _ w | .syHold _ w | .syReti _ w | .syConfirm _ w | .sySysld _ w _
  | .sySysst4 _ w | .sySysst8 _ w => some w
  | _ => none

/-- Operands within the ranges of the buses and memories they come from. -/
def Instr.operandsOk : Instr → Bool
  | .registerWrite _ off _ => regOffOk off
  | .snapshotReadLo _ off => regOffOk off
  | .weavePacket _ _ vc words _ => packetOk vc words
  | .gcRelocateObject page | .gcSweepPage page => decide (page < 2 ^ 30)
  | .pageInRequest _ page => decide (page < 2 ^ 30)
  | .cpsetPatchComplete page => decide (page < 8192)
  | .cmdPiDoorbell _ _ _ mem => mem.all fun m => decide (m.1 < 2 ^ 64)
  | .canFrameReceive _ f => f.data.length == f.len.val
  | .linHeaderRx _ _ _ seen => decide (seen.data.length ≤ 8)
  | .larderScrub finds => finds.all fun f => decide (f.1 < 2 ^ 40)
  | .dramPatrol finds => finds.all fun f => decide (f.1 < 2 ^ 33)
  | .xspiCmdDone _ left => decide (left.length ≤ 65536)
  | _ => true

/-- A well-formed command. -/
def Instr.wf (i : Instr) : Bool := i.operandsOk && i.word.all wordOk

end Sys2Proof
end

