-- ==== Sys2Proof/Tests/Slice0.lean ====
section
/-!
SUPPORT. Tests: one theorem for every statement with hypotheses that shows states and operands that meet them, clause by
clause (namespaces OfCore to OfFaults); smoke tests of well-formedness; and small tests whose expected results are the
worked examples of the spec or its rules by hand.
-/
namespace Sys2Proof.Tests

set_option Elab.async false

open Sys2Proof Sys2Proof.Machine

/-! ### Small states -/

/-- Set fields of registers. -/
def regs (l : List (Fld × Nat)) (s : State) : State := l.foldl (fun s e => s.setFld e.1 e.2) s

/-- Change a cell. -/
def cell (c : Nat) (f : Cell → Cell) (s : State) : State := s.setCell c (f (s.cell c))

/-- A cell whose status word has a field changed. -/
def st (hi lo v : Nat) (x : Cell) : Cell := x.setSt x.level hi lo v

/-- A cell one of whose sockets holds a word. -/
def put (n : Nat) (w : TWord) (x : Cell) : Cell := x.setSock x.level n w

/-- A built heap of 16 pages from page 16, of which pages 16 and 17 are resident and hold the words given. -/
def heapOf (l : List (Nat × TWord)) (s : State) : State :=
  regs [(F.SPN_HEAP_BASE_PAGE, 16), (F.SPN_HEAP_PAGES_COUNT, 16), (F.SPN_CTL_LOCK, 1)]
    { s with heap := { s.heap with
      words := l, built := true
      bins := [(0, ⟨16, false, false, false, false, none⟩), (1, ⟨17, false, false, false, false, none⟩)] } }

def w0 : State := State.reset

/-- Cells 0 to 255 released, and cell 3 changed by f and carrying the running sprig of slot 5. -/
def sprigged (f : Cell → Cell) (s : State) : State :=
  (cell 3 (fun x => f { x with sprig := some 5, pc := 0x100 }) { s with cellsHeld := false }).setSlot 5
    { Slot.reset with state := .running, cell := some 3, ctx := some 16400, gen := 1 }

theorem fpown_of_reset {s : State} (h : s.cells = State.reset.cells) (d : Nat) : (s.cell d).fpown = unb 0 := by
  simp only [State.cell, h, State.reset, AMap.get, AMap.find?]
  split <;> rfl

/-- A header of a black object of parity 1. -/
def obj (kind n : Nat) : TWord := mkHdr black n kind true false

/-- Set whole registers. -/
def setRegs (l : List (Nat × W32)) (s : State) : State := l.foldl (fun s e => s.setReg e.1 e.2) s

/-! ### What meets the hypotheses of the statements -/

namespace OfCore

def wQueue : State := { State.reset with pending := [.nop 0] }

def wUmber : State :=
  { State.reset with mode := .umber, power := { Power.reset with powered := false, pmicEn := false } }

def wStall : State := regs [(F.ALM_SRC_CLASS 8, 3)] w0

def wTrim : State := regs [(F.ALM_SRC_CLASS 6, 1)] { w0 with trims := [(0x1012, ⟨5#6, 5#6, 6#6⟩)] }

def wSlow : State := { w0 with time := { Timebase.reset with slow := true, toFast := true, pllLock := false } }

def wLocked : State :=
  { w0 with
    time := { Timebase.reset with slow := true, toFast := true, frac := 63#6, ns := 0xFFFFFFFFFFFFFFFF#64 } }

def wToSlow : State := { w0 with time := { Timebase.reset with toSlow := true, ns := 7#64 } }

def wRc : State := { w0 with time := { Timebase.reset with rc := true } }

theorem witness_StepRunsTheFrontCommand :
    wQueue.pending = [Instr.nop 0] :=
  by decide +kernel

theorem witness_NoAlarmOutlivesItsStep :
    w0.raised = [] ∧ step w0 = Host.Outcome.next w0 :=
  ⟨(rfl), (rfl)⟩

theorem witness_OnlyTimeCommandsMoveTheTimebase :
    exec (Instr.pmicInt false) w0 = Host.Outcome.next w0 :=
  (rfl)

theorem witness_SwitchedDomainOffDoesNothing :
    wUmber.power.powered = false :=
  by decide +kernel

theorem witness_RegisterWrites :
    (State.Live w0 ∧ (Req.warden = Req.warden ∧ 20 ∈ [20, 4104, 8208, 8216, 12316, 12320, 16448, 20496, 36904, 36908,
      36912, 47652, 53296, 57504, 57540, 60420, 60448] ∨ 20 ∈ [24640, 24896, 25092, 25096, 28696, 41992, 41232,
      41236, 41488, 45312, 45316]))
    ∧ (State.Live w0 ∧ (Req.warden = Req.warden ∧ 60448 ∈ [20, 4104, 8208, 8216, 12316, 12320, 16448, 20496, 36904, 36908,
      36912, 47652, 53296, 57504, 57540, 60420, 60448] ∨ 60448 ∈ [24640, 24896, 25092, 25096, 28696, 41992, 41232,
      41236, 41488, 45312, 45316]))
    ∧ (State.Live w0 ∧ (Req.host = Req.warden ∧ 24640 ∈ [20, 4104, 8208, 8216, 12316, 12320, 16448, 20496, 36904, 36908,
      36912, 47652, 53296, 57504, 57540, 60420, 60448] ∨ 24640 ∈ [24640, 24896, 25092, 25096, 28696, 41992, 41232,
      41236, 41488, 45312, 45316]))
    ∧ (State.Live w0 ∧ (Req.warden = Req.warden ∧ 45316 ∈ [20, 4104, 8208, 8216, 12316, 12320, 16448, 20496, 36904, 36908,
      36912, 47652, 53296, 57504, 57540, 60420, 60448] ∨ 45316 ∈ [24640, 24896, 25092, 25096, 28696, 41992, 41232,
      41236, 41488, 45312, 45316]))
    ∧ (State.Live w0 ∧ 4104 ∈ [4104, 8208, 8216, 12316, 16448, 20496, 36904, 53296] ∧ 1#32 ≠ State.reg w0 4104 ∧ State.fld
      w0 F.GEN_HOSTREJ_CNT_COUNT < 2 ^ 32 - 2)
    ∧ (State.Live w0 ∧ 53296 ∈ [4104, 8208, 8216, 12316, 16448, 20496, 36904, 53296] ∧ 4294967295#32 ≠ State.reg w0 53296 ∧
      State.fld w0 F.GEN_HOSTREJ_CNT_COUNT < 2 ^ 32 - 2) :=
  ⟨by unfold State.Live; decide +kernel,
    by unfold State.Live; decide +kernel,
    by unfold State.Live; decide +kernel,
    by unfold State.Live; decide +kernel,
    by unfold State.Live; decide +kernel,
    by unfold State.Live; decide +kernel⟩

theorem witness_HighHalfIsLatched :
    (State.Live w0 ∧ 8 ∈ [8, 12324, 24624, 24880, 24632, 24888, 32776, 32784, 32800, 36884, 36892, 43520, 49196, 53264,
      53284, 57352, 57412, 61440, 61448])
    ∧ (State.Live w0 ∧ 61448 ∈ [8, 12324, 24624, 24880, 24632, 24888, 32776, 32784, 32800, 36884, 36892, 43520, 49196,
      53264, 53284, 57352, 57412, 61440, 61448])
    ∧ (State.Live w0 ∧ 57352 ∈ [8, 12324, 24624, 24880, 24632, 24888, 32776, 32784, 32800, 36884, 36892, 43520, 49196,
      53264, 53284, 57352, 57412, 61440, 61448] ∧ AMap.get (0#32) (w0.snap.get Req.host) (57352 + 4) = 0#32)
    ∧ (State.Live w0 ∧ 43520 ∈ [8, 12324, 24624, 24880, 24632, 24888, 32776, 32784, 32800, 36884, 36892, 43520, 49196,
      53264, 53284, 57352, 57412, 61440, 61448] ∧ AMap.get (0#32) (w0.snap.get Req.warden) (43520 + 4) = 0#32) :=
  ⟨by unfold State.Live; decide +kernel,
    by unfold State.Live; decide +kernel,
    by unfold State.Live; decide +kernel,
    by unfold State.Live; decide +kernel⟩

theorem witness_WeaveAndTrims :
    (State.Live w0 ∧ w0.weave.packets = [] ∧ (VC.rsp = VC.rsp ∨ VC.rsp = VC.evt) ∧ 16 ≤ 16)
    ∧ (State.Live w0 ∧ w0.weave.packets = [] ∧ (VC.evt = VC.rsp ∨ VC.evt = VC.evt) ∧ 0 ≤ 16)
    ∧ (State.Live wStall ∧ State.bit wStall F.TBD_WV_STATUS_STALL = false ∧ wStall.mode = Mode.ochre ∧ State.fld wStall
      (F.ALM_SRC_CLASS 8) = 3)
    ∧ (State.Live w0 ∧ State.bit w0 F.TBD_TRIM_CTL_TRIM_LOCK = false)
    ∧ (State.Live wTrim ∧ wTrim.trims = [(4114, Trim.mk 5#6 5#6 6#6)] ∧ 5#6 ≠ 6#6 ∧ State.fld wTrim (F.ALM_SRC_CLASS 6) = 1) :=
  ⟨by unfold State.Live; decide +kernel,
    by unfold State.Live; decide +kernel,
    by unfold State.Live; decide +kernel,
    by unfold State.Live; decide +kernel,
    by unfold State.Live; decide +kernel⟩

theorem witness_TimebaseCommands :
    (wSlow.raised = [] ∧ wSlow.time.pllEn = true ∧ wSlow.time.pllLock = false)
    ∧ (wLocked.raised = [] ∧ wLocked.time.toFast = true ∧ wLocked.time.slow = true ∧ wLocked.time.pllLock = true)
    ∧ (wToSlow.raised = [] ∧ wToSlow.time.toSlow = true ∧ wToSlow.time.slow = false)
    ∧ (w0.raised = [] ∧ w0.time.rc = false)
    ∧ (wRc.raised = [] ∧ wRc.time.rc = true)
    ∧ wLocked.raised = []
    ∧ w0.raised = [] :=
  ⟨by decide +kernel,
    by decide +kernel,
    by decide +kernel,
    ⟨(rfl), by decide +kernel⟩,
    by decide +kernel,
    by decide +kernel,
    (rfl)⟩

end OfCore

namespace OfUnits

def wExact : State := cell 256 (st 7 7 1 ∘ st 10 10 1) w0

def wAdd : State := cell 256 (put 0x100 (fix 5)) wExact

def wOvf : State := cell 256 (put 0x100 (fix (2 ^ 63 - 1))) wExact

def wFma : State :=
  cell 256 (put 0x20A (mkN tFLO 0x3FF0000000000000) ∘ put 0x20B (mkN tFLO 0x4000000000000000)) wExact

def wFly : State := cell 256 (put 0x100 (fix 5)) w0

def wOp : PendOp := ⟨false, 0, fix 8, false, false, 0, 0, 0, 3, none, .l0⟩

def wDone : State := cell 256 (fun x => { x with ops := [wOp] }) w0

def wDiv : State := cell 256 (put 0x106 (fix 5) ∘ put 0x108 (mkN tFIXQ 5)) wExact

def wDivFly : State := cell 256 (put 0x106 (fix 5) ∘ put 0x108 (mkN tFIXQ 5)) wFly

def wTag : State := cell 256 (put 0x386 (fix 63) ∘ put 0x380 (fix 7)) w0

theorem witness_GaDeliversItsResult :
    ((Instr.gaAdd 256 (fix 3), 0) ∈ [(Instr.gaAdd 256 (fix 3), 0), (Instr.gaSub 256 (fix 3), 1), (Instr.gaMul 256 (fix
      3), 2), (Instr.gaDiv 256 (fix 3), 3), (Instr.gaRem 256 (fix 3), 4), (Instr.gaNeg 256 (fix 3), 5), (Instr.gaAbs
      256 (fix 3), 6), (Instr.gaLt 256 (fix 3), 7), (Instr.gaLe 256 (fix 3), 8), (Instr.gaGt 256 (fix 3), 9),
      (Instr.gaGe 256 (fix 3), 10), (Instr.gaNumeq 256 (fix 3), 11), (Instr.gaEq 256 (fix 3), 12), (Instr.gaMin 256
      (fix 3), 13), (Instr.gaMax 256 (fix 3), 14), (Instr.gaAnd 256 (fix 3), 15), (Instr.gaOr 256 (fix 3), 16),
      (Instr.gaXor 256 (fix 3), 17), (Instr.gaNot 256 (fix 3), 18), (Instr.gaShl 256 (fix 3), 19), (Instr.gaShr 256
      (fix 3), 20), (Instr.gaShrl 256 (fix 3), 21), (Instr.gaTofix 256 (fix 3), 22), (Instr.gaTofixq 256 (fix 3),
      23), (Instr.gaToflo 256 (fix 3), 24)] ∧ State.Ready wAdd 256 ∧ (State.cell wAdd 256).exact = true ∧ gaOp 0
      ((State.cell wAdd 256).sock (State.cell wAdd 256).level (256 + 2 * 0)) (fix 3).plain = GaOut.val (fix 8) false
      ∧ (false = true → (State.cell wAdd 256).ovfe = false))
    ∧ ((Instr.gaAdd 256 (fix 1), 0) ∈ [(Instr.gaAdd 256 (fix 1), 0), (Instr.gaSub 256 (fix 1), 1), (Instr.gaMul 256 (fix
      1), 2), (Instr.gaDiv 256 (fix 1), 3), (Instr.gaRem 256 (fix 1), 4), (Instr.gaNeg 256 (fix 1), 5), (Instr.gaAbs
      256 (fix 1), 6), (Instr.gaLt 256 (fix 1), 7), (Instr.gaLe 256 (fix 1), 8), (Instr.gaGt 256 (fix 1), 9),
      (Instr.gaGe 256 (fix 1), 10), (Instr.gaNumeq 256 (fix 1), 11), (Instr.gaEq 256 (fix 1), 12), (Instr.gaMin 256
      (fix 1), 13), (Instr.gaMax 256 (fix 1), 14), (Instr.gaAnd 256 (fix 1), 15), (Instr.gaOr 256 (fix 1), 16),
      (Instr.gaXor 256 (fix 1), 17), (Instr.gaNot 256 (fix 1), 18), (Instr.gaShl 256 (fix 1), 19), (Instr.gaShr 256
      (fix 1), 20), (Instr.gaShrl 256 (fix 1), 21), (Instr.gaTofix 256 (fix 1), 22), (Instr.gaTofixq 256 (fix 1),
      23), (Instr.gaToflo 256 (fix 1), 24)] ∧ State.Ready wOvf 256 ∧ (State.cell wOvf 256).exact = true ∧ gaOp 0
      ((State.cell wOvf 256).sock (State.cell wOvf 256).level (256 + 2 * 0)) (fix 1).plain = GaOut.val (fix (-2 ^
      63)) true ∧ (true = true → (State.cell wOvf 256).ovfe = false))
    ∧ ((Instr.gaToflo 256 (mkN tFLO 0), 24) ∈ [(Instr.gaAdd 256 (mkN tFLO 0), 0), (Instr.gaSub 256 (mkN tFLO 0), 1),
      (Instr.gaMul 256 (mkN tFLO 0), 2), (Instr.gaDiv 256 (mkN tFLO 0), 3), (Instr.gaRem 256 (mkN tFLO 0), 4),
      (Instr.gaNeg 256 (mkN tFLO 0), 5), (Instr.gaAbs 256 (mkN tFLO 0), 6), (Instr.gaLt 256 (mkN tFLO 0), 7),
      (Instr.gaLe 256 (mkN tFLO 0), 8), (Instr.gaGt 256 (mkN tFLO 0), 9), (Instr.gaGe 256 (mkN tFLO 0), 10),
      (Instr.gaNumeq 256 (mkN tFLO 0), 11), (Instr.gaEq 256 (mkN tFLO 0), 12), (Instr.gaMin 256 (mkN tFLO 0), 13),
      (Instr.gaMax 256 (mkN tFLO 0), 14), (Instr.gaAnd 256 (mkN tFLO 0), 15), (Instr.gaOr 256 (mkN tFLO 0), 16),
      (Instr.gaXor 256 (mkN tFLO 0), 17), (Instr.gaNot 256 (mkN tFLO 0), 18), (Instr.gaShl 256 (mkN tFLO 0), 19),
      (Instr.gaShr 256 (mkN tFLO 0), 20), (Instr.gaShrl 256 (mkN tFLO 0), 21), (Instr.gaTofix 256 (mkN tFLO 0), 22),
      (Instr.gaTofixq 256 (mkN tFLO 0), 23), (Instr.gaToflo 256 (mkN tFLO 0), 24)] ∧ State.Ready wExact 256 ∧
      (State.cell wExact 256).exact = true ∧ gaOp 24 ((State.cell wExact 256).sock (State.cell wExact 256).level (256
      + 2 * 24)) (mkN tFLO 0).plain = GaOut.val (mkN tFLO 0) false ∧ (false = true → (State.cell wExact 256).ovfe =
      false)) :=
  ⟨by unfold State.Ready State.Live; decide +kernel,
    by unfold State.Ready State.Live; decide +kernel,
    by unfold State.Ready State.Live; decide +kernel⟩

theorem witness_FxDeliversItsResult :
    ((Instr.fxFma 256 (mkN tFLO 4607182418800017408), 12) ∈ [(Instr.fxAdd 256 (mkN tFLO 4607182418800017408), 1),
      (Instr.fxSub 256 (mkN tFLO 4607182418800017408), 3), (Instr.fxMul 256 (mkN tFLO 4607182418800017408), 5),
      (Instr.fxDiv 256 (mkN tFLO 4607182418800017408), 7), (Instr.fxSqrt 256 (mkN tFLO 4607182418800017408), 9),
      (Instr.fxFma 256 (mkN tFLO 4607182418800017408), 12), (Instr.fxMin 256 (mkN tFLO 4607182418800017408), 15),
      (Instr.fxMax 256 (mkN tFLO 4607182418800017408), 17), (Instr.fxNeg 256 (mkN tFLO 4607182418800017408), 19),
      (Instr.fxAbs 256 (mkN tFLO 4607182418800017408), 21), (Instr.fxRint 256 (mkN tFLO 4607182418800017408), 23),
      (Instr.fxTofix 256 (mkN tFLO 4607182418800017408), 25), (Instr.fxFromfix 256 (mkN tFLO 4607182418800017408),
      27), (Instr.fxLt 256 (mkN tFLO 4607182418800017408), 29), (Instr.fxLe 256 (mkN tFLO 4607182418800017408), 31),
      (Instr.fxEq 256 (mkN tFLO 4607182418800017408), 33), (Instr.fxUn 256 (mkN tFLO 4607182418800017408), 35)] ∧
      State.Ready wFma 256 ∧ (State.cell wFma 256).exact = true ∧ (State.cell wFma 256).fpa = true ∧ ((mkN tFLO
      4607182418800017408).t = if 12 = 27 then tFIX else tFLO) ∧ (12 ∉ [9, 19, 21, 23, 25, 27] → ((State.cell wFma
      256).sock (State.cell wFma 256).level (if 12 = 12 then 522 else 511 + 12)).t = tFLO) ∧ (12 = 12 → ((State.cell
      wFma 256).sock (State.cell wFma 256).level 523).t = tFLO) ∧ (fxOp 12 (rmOf (((State.cell wFma 256).sock
      (State.cell wFma 256).level 609).p % 4)) ((State.cell wFma 256).sock (State.cell wFma 256).level (if 12 = 12
      then 522 else 511 + 12)).payload (mkN tFLO 4607182418800017408).payload ((State.cell wFma 256).sock (State.cell
      wFma 256).level 523).payload = (mkN tFLO 4613937818241073152, FFlags.mk false false false false false)) ∧
      (false = true → ((State.cell wFma 256).sock (State.cell wFma 256).level 609).p.testBit 2 = false) ∧ (false =
      true → ((State.cell wFma 256).sock (State.cell wFma 256).level 609).p.testBit 3 = false))
    ∧ ((Instr.fxFromfix 256 (fix 2), 27) ∈ [(Instr.fxAdd 256 (fix 2), 1), (Instr.fxSub 256 (fix 2), 3), (Instr.fxMul 256
      (fix 2), 5), (Instr.fxDiv 256 (fix 2), 7), (Instr.fxSqrt 256 (fix 2), 9), (Instr.fxFma 256 (fix 2), 12),
      (Instr.fxMin 256 (fix 2), 15), (Instr.fxMax 256 (fix 2), 17), (Instr.fxNeg 256 (fix 2), 19), (Instr.fxAbs 256
      (fix 2), 21), (Instr.fxRint 256 (fix 2), 23), (Instr.fxTofix 256 (fix 2), 25), (Instr.fxFromfix 256 (fix 2),
      27), (Instr.fxLt 256 (fix 2), 29), (Instr.fxLe 256 (fix 2), 31), (Instr.fxEq 256 (fix 2), 33), (Instr.fxUn 256
      (fix 2), 35)] ∧ State.Ready wExact 256 ∧ (State.cell wExact 256).exact = true ∧ (State.cell wExact 256).fpa =
      true ∧ ((fix 2).t = if 27 = 27 then tFIX else tFLO) ∧ (27 ∉ [9, 19, 21, 23, 25, 27] → ((State.cell wExact
      256).sock (State.cell wExact 256).level (if 27 = 12 then 522 else 511 + 27)).t = tFLO) ∧ (27 = 12 →
      ((State.cell wExact 256).sock (State.cell wExact 256).level 523).t = tFLO) ∧ (fxOp 27 (rmOf (((State.cell
      wExact 256).sock (State.cell wExact 256).level 609).p % 4)) ((State.cell wExact 256).sock (State.cell wExact
      256).level (if 27 = 12 then 522 else 511 + 27)).payload (fix 2).payload ((State.cell wExact 256).sock
      (State.cell wExact 256).level 523).payload = (mkN tFLO 4611686018427387904, FFlags.mk false false false false
      false)) ∧ (false = true → ((State.cell wExact 256).sock (State.cell wExact 256).level 609).p.testBit 2 = false)
      ∧ (false = true → ((State.cell wExact 256).sock (State.cell wExact 256).level 609).p.testBit 3 = false))
    ∧ ((Instr.fxSqrt 256 (mkN tFLO 4611686018427387904), 9) ∈ [(Instr.fxAdd 256 (mkN tFLO 4611686018427387904), 1),
      (Instr.fxSub 256 (mkN tFLO 4611686018427387904), 3), (Instr.fxMul 256 (mkN tFLO 4611686018427387904), 5),
      (Instr.fxDiv 256 (mkN tFLO 4611686018427387904), 7), (Instr.fxSqrt 256 (mkN tFLO 4611686018427387904), 9),
      (Instr.fxFma 256 (mkN tFLO 4611686018427387904), 12), (Instr.fxMin 256 (mkN tFLO 4611686018427387904), 15),
      (Instr.fxMax 256 (mkN tFLO 4611686018427387904), 17), (Instr.fxNeg 256 (mkN tFLO 4611686018427387904), 19),
      (Instr.fxAbs 256 (mkN tFLO 4611686018427387904), 21), (Instr.fxRint 256 (mkN tFLO 4611686018427387904), 23),
      (Instr.fxTofix 256 (mkN tFLO 4611686018427387904), 25), (Instr.fxFromfix 256 (mkN tFLO 4611686018427387904),
      27), (Instr.fxLt 256 (mkN tFLO 4611686018427387904), 29), (Instr.fxLe 256 (mkN tFLO 4611686018427387904), 31),
      (Instr.fxEq 256 (mkN tFLO 4611686018427387904), 33), (Instr.fxUn 256 (mkN tFLO 4611686018427387904), 35)] ∧
      State.Ready wExact 256 ∧ (State.cell wExact 256).exact = true ∧ (State.cell wExact 256).fpa = true ∧ ((mkN tFLO
      4611686018427387904).t = if 9 = 27 then tFIX else tFLO) ∧ (9 ∉ [9, 19, 21, 23, 25, 27] → ((State.cell wExact
      256).sock (State.cell wExact 256).level (if 9 = 12 then 522 else 511 + 9)).t = tFLO) ∧ (9 = 12 → ((State.cell
      wExact 256).sock (State.cell wExact 256).level 523).t = tFLO) ∧ (fxOp 9 (rmOf (((State.cell wExact 256).sock
      (State.cell wExact 256).level 609).p % 4)) ((State.cell wExact 256).sock (State.cell wExact 256).level (if 9 =
      12 then 522 else 511 + 9)).payload (mkN tFLO 4611686018427387904).payload ((State.cell wExact 256).sock
      (State.cell wExact 256).level 523).payload = (mkN tFLO 4609047870845172685, FFlags.mk false false false false
      true)) ∧ (false = true → ((State.cell wExact 256).sock (State.cell wExact 256).level 609).p.testBit 2 = false)
      ∧ (false = true → ((State.cell wExact 256).sock (State.cell wExact 256).level 609).p.testBit 3 = false)) :=
  ⟨by unfold State.Ready State.Live; decide +kernel,
    by unfold State.Ready State.Live; decide +kernel,
    by unfold State.Ready State.Live; decide +kernel⟩

theorem witness_OperationsInFlight :
    ((Instr.gaAdd 256 (fix 3), 0) ∈ [(Instr.gaAdd 256 (fix 3), 0), (Instr.gaSub 256 (fix 3), 1), (Instr.gaMul 256 (fix
      3), 2), (Instr.gaDiv 256 (fix 3), 3), (Instr.gaRem 256 (fix 3), 4), (Instr.gaNeg 256 (fix 3), 5), (Instr.gaAbs
      256 (fix 3), 6), (Instr.gaMin 256 (fix 3), 13), (Instr.gaMax 256 (fix 3), 14), (Instr.gaShl 256 (fix 3), 19),
      (Instr.gaTofix 256 (fix 3), 22)] ∧ State.Ready wFly 256 ∧ (State.cell wFly 256).exact = false ∧ gaOp 0
      ((State.cell wFly 256).sock (State.cell wFly 256).level (256 + 2 * 0)) (fix 3).plain = GaOut.val (fix 8) false
      ∧ (false = true → (State.cell wFly 256).ovfe = false))
    ∧ (State.Live wDone ∧ List.find? (fun o => o.fx == false && o.level == (State.cell wDone 256).level) (State.cell wDone
      256).ops = some wOp ∧ wOp.exc = 0) :=
  ⟨by unfold State.Ready State.Live; decide +kernel,
    by unfold State.Live; decide +kernel⟩

theorem witness_DivisionByZeroGivesUnb :
    ((Instr.gaDiv 256 (fix 0), 3) ∈ [(Instr.gaDiv 256 (fix 0), 3), (Instr.gaRem 256 (fix 0), 4)] ∧ State.Ready wDiv 256 ∧
      (State.cell wDiv 256).dze = false ∧ ((fix 0).t = tFIX ∨ (fix 0).t = tFIXQ) ∧ (fix 0).p = 0 ∧ (((State.cell wDiv
      256).sock (State.cell wDiv 256).level (256 + 2 * 3)).t = tFIX ∨ ((State.cell wDiv 256).sock (State.cell wDiv
      256).level (256 + 2 * 3)).t = tFIXQ))
    ∧ ((Instr.gaRem 256 (mkN tFIXQ 0), 4) ∈ [(Instr.gaDiv 256 (mkN tFIXQ 0), 3), (Instr.gaRem 256 (mkN tFIXQ 0), 4)] ∧
      State.Ready wDiv 256 ∧ (State.cell wDiv 256).dze = false ∧ ((mkN tFIXQ 0).t = tFIX ∨ (mkN tFIXQ 0).t = tFIXQ) ∧
      (mkN tFIXQ 0).p = 0 ∧ (((State.cell wDiv 256).sock (State.cell wDiv 256).level (256 + 2 * 4)).t = tFIX ∨
      ((State.cell wDiv 256).sock (State.cell wDiv 256).level (256 + 2 * 4)).t = tFIXQ))
    ∧ ((Instr.gaDiv 256 (mkN tFIXQ 0), 3) ∈ [(Instr.gaDiv 256 (mkN tFIXQ 0), 3), (Instr.gaRem 256 (mkN tFIXQ 0), 4)] ∧
      State.Ready wDivFly 256 ∧ (State.cell wDivFly 256).dze = false ∧ ((mkN tFIXQ 0).t = tFIX ∨ (mkN tFIXQ 0).t =
      tFIXQ) ∧ (mkN tFIXQ 0).p = 0 ∧ (((State.cell wDivFly 256).sock (State.cell wDivFly 256).level (256 + 2 * 3)).t
      = tFIX ∨ ((State.cell wDivFly 256).sock (State.cell wDivFly 256).level (256 + 2 * 3)).t = tFIXQ)) :=
  ⟨by unfold State.Ready State.Live; decide +kernel,
    by unfold State.Ready State.Live; decide +kernel,
    by unfold State.Ready State.Live; decide +kernel⟩

theorem witness_GaResultsAreColourless :
    gaOp 0 (fix 1) (fix 2) = GaOut.val (fix 3) false :=
  by decide +kernel

theorem witness_FixArithmeticWraps :
    ((fix 1).t = tFIX ∧ (fix 2).t = tFIX)
    ∧ ((fix (2 ^ 63 - 1)).t = tFIX ∧ (fix (-2 ^ 63)).t = tFIX) :=
  ⟨by decide +kernel,
    by decide +kernel⟩

theorem witness_TagCommandsDeliver :
    State.Ready wTag 256
    ∧ (State.Ready wTag 256 ∧ (State.cell wTag 256).sock (State.cell wTag 256).level 902 = fix 63 ∧ 0 ≤ 63 ∧ 63 ≤ 63)
    ∧ (State.Ready wTag 256 ∧ (fix 1).t = tFIX ∧ (fix 1).p ≤ 63 ∧ tagCheck (fix 1).p (State.cell wTag 256).sup = 0) :=
  ⟨by unfold State.Ready State.Live; decide +kernel,
    by unfold State.Ready State.Live; decide +kernel,
    by unfold State.Ready State.Live; decide +kernel⟩

end OfUnits

namespace OfFields

/-- A pair at 16384, a vector of two at 16387, a closure of two words at 16390, a box at 16393, a string of one at 16395. -/
def wObj (f : Cell → Cell) : State :=
  heapOf [(16384, obj 0 2), (16385, fix 7), (16386, fix 9), (16387, obj 1 2), (16388, fix 11), (16389, nil),
    (16390, obj 3 2), (16391, codeW 64), (16392, fix 5), (16393, obj 4 1), (16394, fix 3), (16395, obj 2 1),
    (16396, mkN tCHR 65)] (cell 256 f w0)

def entry : StoreEntry := ⟨0, false, 16385, fix 1⟩

def wBuf : State := wObj fun x => { x with sbuf := [entry] }

def wBad : State := { wBuf with heap := { wBuf.heap with poison := [16] } }

def wCas (old : TWord) : State := wObj (put 0x305 (ptrTo 0 16384) ∘ put 0x306 (fix 1) ∘ put 0x307 old)

def wCode : State :=
  { cell 3 (st 3 3 1 ∘ put 0x310 (codeW 0x10000) ∘ fun x => { x with sprig := some 5 })
      (regs [(F.FRY_CODE_PAGES_PAGES, 8)] w0) with
    cellsHeld := false }

def wRom : State := { w0 with wmem := [(0xFFFFD, 7#8)] }

theorem witness_FieldsLoad :
    (State.Ready (wObj id) 256 ∧ State.cellEpoch (wObj id) 256 = 0 ∧ State.Object (wObj id) (ptrTo 0 16384) 2 ∧ (ptrTo 0
      16384).t = tCONS ∧ (0 < 2 ∧ State.Loadable (wObj id) 256 (addrOf (ptrTo 0 16384) + 1 + 0)))
    ∧ (State.Ready (wObj id) 256 ∧ State.cellEpoch (wObj id) 256 = 0 ∧ State.Object (wObj id) (ptrTo 0 16384) 2 ∧ (ptrTo 0
      16384).t = tCONS ∧ (1 < 2 ∧ State.Loadable (wObj id) 256 (addrOf (ptrTo 0 16384) + 1 + 1)))
    ∧ (State.Ready (wObj id) 256 ∧ State.cellEpoch (wObj id) 256 = 0 ∧ State.Object (wObj id) (ptrTo 4 16393) 1 ∧ (ptrTo 4
      16393).t = tBOX ∧ (0 < 1 ∧ State.Loadable (wObj id) 256 (addrOf (ptrTo 4 16393) + 1 + 0)))
    ∧ (State.Ready (wObj id) 256 ∧ State.cellEpoch (wObj id) 256 = 0 ∧ State.Object (wObj id) (ptrTo 3 16390) 2 ∧ (ptrTo 3
      16390).t = tCLO ∧ (0 < 2 ∧ State.Loadable (wObj id) 256 (addrOf (ptrTo 3 16390) + 1 + 0)) ∧ (State.memWord
      (wObj id) (addrOf (ptrTo 3 16390) + 1 + 0)).plain.t = tCODE)
    ∧ (State.Ready (wObj id) 256 ∧ State.cellEpoch (wObj id) 256 = 0 ∧ State.Object (wObj id) (ptrTo 1 16387) 2 ∧ ((ptrTo 1
      16387).t = tVEC ∨ (ptrTo 1 16387).t = tSTR))
    ∧ (State.Ready (wObj id) 256 ∧ State.cellEpoch (wObj id) 256 = 0 ∧ State.Object (wObj id) (ptrTo 3 16390) 2 ∧ (ptrTo 3
      16390).t = tCLO)
    ∧ (State.Ready (wObj (put 644 (ptrTo 1 16387))) 256 ∧ State.cellEpoch (wObj (put 644 (ptrTo 1 16387))) 256 = 0 ∧
      State.Object (wObj (put 644 (ptrTo 1 16387))) (ptrTo 1 16387) 2 ∧ 1 < 2 ^ 63 ∧ ((ptrTo 1 16387).t = tVEC ∨
      (ptrTo 1 16387).t = tSTR) ∧ (State.cell (wObj (put 644 (ptrTo 1 16387))) 256).sock (State.cell (wObj (put 644
      (ptrTo 1 16387))) 256).level 644 = ptrTo 1 16387 ∧ (1 < 2 ∧ State.Loadable (wObj (put 644 (ptrTo 1 16387))) 256
      (addrOf (ptrTo 1 16387) + 1 + 1)))
    ∧ (State.Ready (wObj (put 644 (ptrTo 3 16390))) 256 ∧ State.cellEpoch (wObj (put 644 (ptrTo 3 16390))) 256 = 0 ∧
      State.Object (wObj (put 644 (ptrTo 3 16390))) (ptrTo 3 16390) 2 ∧ 0 < 2 ^ 63 ∧ (ptrTo 3 16390).t = tCLO ∧
      (State.cell (wObj (put 644 (ptrTo 3 16390))) 256).sock (State.cell (wObj (put 644 (ptrTo 3 16390))) 256).level
      644 = ptrTo 3 16390 ∧ (0 + 1 < 2 ∧ State.Loadable (wObj (put 644 (ptrTo 3 16390))) 256 (addrOf (ptrTo 3 16390)
      + 1 + (0 + 1))))
    ∧ (State.Ready (wObj (put 768 (fix 1))) 256 ∧ State.cellEpoch (wObj (put 768 (fix 1))) 256 = 0 ∧ State.Object (wObj
      (put 768 (fix 1))) (ptrTo 0 16384) 2 ∧ 1 < 2 ^ 63 ∧ ((ptrTo 0 16384).t = tCONS ∨ (ptrTo 0 16384).t = tVEC ∨
      (ptrTo 0 16384).t = tBOX) ∧ (State.cell (wObj (put 768 (fix 1))) 256).sock (State.cell (wObj (put 768 (fix 1)))
      256).level 768 = fix (↑1 : ℤ) ∧ (1 < 2 ∧ State.Loadable (wObj (put 768 (fix 1))) 256 (addrOf (ptrTo 0 16384) +
      1 + 1))) :=
  ⟨by unfold State.Ready State.Object State.Loadable State.Live; decide +kernel,
    by unfold State.Ready State.Object State.Loadable State.Live; decide +kernel,
    by unfold State.Ready State.Object State.Loadable State.Live; decide +kernel,
    by unfold State.Ready State.Object State.Loadable State.Live; decide +kernel,
    by unfold State.Ready State.Object State.Live; decide +kernel,
    by unfold State.Ready State.Object State.Live; decide +kernel,
    by unfold State.Ready State.Object State.Loadable State.Live; decide +kernel,
    by unfold State.Ready State.Object State.Loadable State.Live; decide +kernel,
    by unfold State.Ready State.Object State.Loadable State.Live; decide +kernel⟩

theorem witness_StoresEnterTheBuffer :
    (State.Ready (wObj (put 656 (ptrTo 0 16384))) 256 ∧ State.cellEpoch (wObj (put 656 (ptrTo 0 16384))) 256 = 0 ∧
      State.Object (wObj (put 656 (ptrTo 0 16384))) (ptrTo 0 16384) 2 ∧ (wObj (put 656 (ptrTo 0 16384))).heap.phase =
      Phase.idle ∧ (State.cell (wObj (put 656 (ptrTo 0 16384))) 256).sbuf.length < 16 ∧ State.region (wObj (put 656
      (ptrTo 0 16384))) (pageOf (addrOf (ptrTo 0 16384))) = Region.collected ∧ (ptrTo 0 16384).t = tCONS ∧
      (State.cell (wObj (put 656 (ptrTo 0 16384))) 256).sock (State.cell (wObj (put 656 (ptrTo 0 16384))) 256).level
      656 = ptrTo 0 16384 ∧ 0 < 2 ∧ State.region (wObj (put 656 (ptrTo 0 16384))) (pageOf (addrOf (ptrTo 0 16384) + 1
      + 0)) = Region.collected)
    ∧ (State.Ready (wObj (put 658 (ptrTo 0 16384))) 256 ∧ State.cellEpoch (wObj (put 658 (ptrTo 0 16384))) 256 = 0 ∧
      State.Object (wObj (put 658 (ptrTo 0 16384))) (ptrTo 0 16384) 2 ∧ (wObj (put 658 (ptrTo 0 16384))).heap.phase =
      Phase.idle ∧ (State.cell (wObj (put 658 (ptrTo 0 16384))) 256).sbuf.length < 16 ∧ State.region (wObj (put 658
      (ptrTo 0 16384))) (pageOf (addrOf (ptrTo 0 16384))) = Region.collected ∧ (ptrTo 0 16384).t = tCONS ∧
      (State.cell (wObj (put 658 (ptrTo 0 16384))) 256).sock (State.cell (wObj (put 658 (ptrTo 0 16384))) 256).level
      658 = ptrTo 0 16384 ∧ 1 < 2 ∧ State.region (wObj (put 658 (ptrTo 0 16384))) (pageOf (addrOf (ptrTo 0 16384) + 1
      + 1)) = Region.collected)
    ∧ (State.Ready (wObj (put 663 (ptrTo 4 16393))) 256 ∧ State.cellEpoch (wObj (put 663 (ptrTo 4 16393))) 256 = 0 ∧
      State.Object (wObj (put 663 (ptrTo 4 16393))) (ptrTo 4 16393) 1 ∧ (wObj (put 663 (ptrTo 4 16393))).heap.phase =
      Phase.idle ∧ (State.cell (wObj (put 663 (ptrTo 4 16393))) 256).sbuf.length < 16 ∧ State.region (wObj (put 663
      (ptrTo 4 16393))) (pageOf (addrOf (ptrTo 4 16393))) = Region.collected ∧ (ptrTo 4 16393).t = tBOX ∧ (State.cell
      (wObj (put 663 (ptrTo 4 16393))) 256).sock (State.cell (wObj (put 663 (ptrTo 4 16393))) 256).level 663 = ptrTo
      4 16393 ∧ 0 < 1 ∧ State.region (wObj (put 663 (ptrTo 4 16393))) (pageOf (addrOf (ptrTo 4 16393) + 1 + 0)) =
      Region.collected)
    ∧ (State.Ready (wObj (put 660 (ptrTo 1 16387) ∘ put 661 (fix 1))) 256 ∧ State.cellEpoch (wObj (put 660 (ptrTo 1 16387)
      ∘ put 661 (fix 1))) 256 = 0 ∧ State.Object (wObj (put 660 (ptrTo 1 16387) ∘ put 661 (fix 1))) (ptrTo 1 16387) 2
      ∧ (wObj (put 660 (ptrTo 1 16387) ∘ put 661 (fix 1))).heap.phase = Phase.idle ∧ (State.cell (wObj (put 660
      (ptrTo 1 16387) ∘ put 661 (fix 1))) 256).sbuf.length < 16 ∧ State.region (wObj (put 660 (ptrTo 1 16387) ∘ put
      661 (fix 1))) (pageOf (addrOf (ptrTo 1 16387))) = Region.collected ∧ 1 < 2 ^ 63 ∧ ((ptrTo 1 16387).t = tVEC ∨
      (ptrTo 1 16387).t = tSTR ∧ (fix 1).t = tCHR) ∧ (State.cell (wObj (put 660 (ptrTo 1 16387) ∘ put 661 (fix 1)))
      256).sock (State.cell (wObj (put 660 (ptrTo 1 16387) ∘ put 661 (fix 1))) 256).level 660 = ptrTo 1 16387 ∧
      (State.cell (wObj (put 660 (ptrTo 1 16387) ∘ put 661 (fix 1))) 256).sock (State.cell (wObj (put 660 (ptrTo 1
      16387) ∘ put 661 (fix 1))) 256).level 661 = fix (↑1 : ℤ) ∧ 1 < 2 ∧ State.region (wObj (put 660 (ptrTo 1 16387)
      ∘ put 661 (fix 1))) (pageOf (addrOf (ptrTo 1 16387) + 1 + 1)) = Region.collected)
    ∧ (State.Ready (wObj (put 660 (ptrTo 2 16395) ∘ put 661 (fix 0))) 256 ∧ State.cellEpoch (wObj (put 660 (ptrTo 2 16395)
      ∘ put 661 (fix 0))) 256 = 0 ∧ State.Object (wObj (put 660 (ptrTo 2 16395) ∘ put 661 (fix 0))) (ptrTo 2 16395) 1
      ∧ (wObj (put 660 (ptrTo 2 16395) ∘ put 661 (fix 0))).heap.phase = Phase.idle ∧ (State.cell (wObj (put 660
      (ptrTo 2 16395) ∘ put 661 (fix 0))) 256).sbuf.length < 16 ∧ State.region (wObj (put 660 (ptrTo 2 16395) ∘ put
      661 (fix 0))) (pageOf (addrOf (ptrTo 2 16395))) = Region.collected ∧ 0 < 2 ^ 63 ∧ ((ptrTo 2 16395).t = tVEC ∨
      (ptrTo 2 16395).t = tSTR ∧ (mkN tCHR 66).t = tCHR) ∧ (State.cell (wObj (put 660 (ptrTo 2 16395) ∘ put 661 (fix
      0))) 256).sock (State.cell (wObj (put 660 (ptrTo 2 16395) ∘ put 661 (fix 0))) 256).level 660 = ptrTo 2 16395 ∧
      (State.cell (wObj (put 660 (ptrTo 2 16395) ∘ put 661 (fix 0))) 256).sock (State.cell (wObj (put 660 (ptrTo 2
      16395) ∘ put 661 (fix 0))) 256).level 661 = fix (↑0 : ℤ) ∧ 0 < 1 ∧ State.region (wObj (put 660 (ptrTo 2 16395)
      ∘ put 661 (fix 0))) (pageOf (addrOf (ptrTo 2 16395) + 1 + 0)) = Region.collected)
    ∧ (State.Ready (wObj (put 770 (ptrTo 4 16393) ∘ put 771 (fix 0))) 256 ∧ State.cellEpoch (wObj (put 770 (ptrTo 4 16393)
      ∘ put 771 (fix 0))) 256 = 0 ∧ State.Object (wObj (put 770 (ptrTo 4 16393) ∘ put 771 (fix 0))) (ptrTo 4 16393) 1
      ∧ (wObj (put 770 (ptrTo 4 16393) ∘ put 771 (fix 0))).heap.phase = Phase.idle ∧ (State.cell (wObj (put 770
      (ptrTo 4 16393) ∘ put 771 (fix 0))) 256).sbuf.length < 16 ∧ State.region (wObj (put 770 (ptrTo 4 16393) ∘ put
      771 (fix 0))) (pageOf (addrOf (ptrTo 4 16393))) = Region.collected ∧ 0 < 2 ^ 63 ∧ ((ptrTo 4 16393).t = tCONS ∨
      (ptrTo 4 16393).t = tVEC ∨ (ptrTo 4 16393).t = tBOX) ∧ (State.cell (wObj (put 770 (ptrTo 4 16393) ∘ put 771
      (fix 0))) 256).sock (State.cell (wObj (put 770 (ptrTo 4 16393) ∘ put 771 (fix 0))) 256).level 770 = ptrTo 4
      16393 ∧ (State.cell (wObj (put 770 (ptrTo 4 16393) ∘ put 771 (fix 0))) 256).sock (State.cell (wObj (put 770
      (ptrTo 4 16393) ∘ put 771 (fix 0))) 256).level 771 = fix (↑0 : ℤ) ∧ 0 < 1 ∧ State.region (wObj (put 770 (ptrTo
      4 16393) ∘ put 771 (fix 0))) (pageOf (addrOf (ptrTo 4 16393) + 1 + 0)) = Region.collected) :=
  ⟨by unfold State.Ready State.Object State.Live; decide +kernel,
    by unfold State.Ready State.Object State.Live; decide +kernel,
    by unfold State.Ready State.Object State.Live; decide +kernel,
    by unfold State.Ready State.Object State.Live; decide +kernel,
    by unfold State.Ready State.Object State.Live; decide +kernel,
    by unfold State.Ready State.Object State.Live; decide +kernel⟩

theorem witness_BufferedStoresLeave :
    (State.Live wBuf ∧ (State.cell wBuf 256).performable 0 = some entry ∧ entry.code = false ∧ pageOf entry.addr ∉
      wBuf.heap.poison ∧ State.resident wBuf (pageOf entry.addr) = true ∧ State.heapReg wBuf F.ALM_KPORT_L_ADDR
      F.ALM_KPORT_H_ADDR = 0)
    ∧ (State.Live wBad ∧ (State.cell wBad 256).performable 0 = some entry ∧ entry.code = false ∧ pageOf entry.addr ∈
      wBad.heap.poison ∧ (State.cell wBad 256).latebus.find? entry.slot = none) :=
  ⟨by unfold State.Live; decide +kernel,
    by unfold State.Live; decide +kernel⟩

theorem witness_CompareAndSwap :
    (State.Ready (wCas (fix 9)) 256 ∧ State.cellEpoch (wCas (fix 9)) 256 = 0 ∧ State.Object (wCas (fix 9)) (ptrTo 0
      16384) 2 ∧ ((ptrTo 0 16384).t = tCONS ∨ (ptrTo 0 16384).t = tVEC ∨ (ptrTo 0 16384).t = tBOX) ∧ 1 < 2 ∧ 1 < 2 ^
      63 ∧ State.Loadable (wCas (fix 9)) 256 (addrOf (ptrTo 0 16384) + 1 + 1) ∧ State.region (wCas (fix 9)) (pageOf
      (addrOf (ptrTo 0 16384))) = Region.collected ∧ State.region (wCas (fix 9)) (pageOf (addrOf (ptrTo 0 16384) + 1
      + 1)) = Region.collected ∧ State.heapReg (wCas (fix 9)) F.ALM_KPORT_L_ADDR F.ALM_KPORT_H_ADDR = 0 ∧ (State.cell
      (wCas (fix 9)) 256).sock (State.cell (wCas (fix 9)) 256).level 773 = ptrTo 0 16384 ∧ (State.cell (wCas (fix 9))
      256).sock (State.cell (wCas (fix 9)) 256).level 774 = fix (↑1 : ℤ))
    ∧ (State.Ready (wCas (fix 8)) 256 ∧ State.cellEpoch (wCas (fix 8)) 256 = 0 ∧ State.Object (wCas (fix 8)) (ptrTo 0
      16384) 2 ∧ ((ptrTo 0 16384).t = tCONS ∨ (ptrTo 0 16384).t = tVEC ∨ (ptrTo 0 16384).t = tBOX) ∧ 1 < 2 ∧ 1 < 2 ^
      63 ∧ State.Loadable (wCas (fix 8)) 256 (addrOf (ptrTo 0 16384) + 1 + 1) ∧ State.region (wCas (fix 8)) (pageOf
      (addrOf (ptrTo 0 16384))) = Region.collected ∧ State.region (wCas (fix 8)) (pageOf (addrOf (ptrTo 0 16384) + 1
      + 1)) = Region.collected ∧ State.heapReg (wCas (fix 8)) F.ALM_KPORT_L_ADDR F.ALM_KPORT_H_ADDR = 0 ∧ (State.cell
      (wCas (fix 8)) 256).sock (State.cell (wCas (fix 8)) 256).level 773 = ptrTo 0 16384 ∧ (State.cell (wCas (fix 8))
      256).sock (State.cell (wCas (fix 8)) 256).level 774 = fix (↑1 : ℤ)) :=
  ⟨by unfold State.Ready State.Object State.Loadable State.Live; decide +kernel,
    by unfold State.Ready State.Object State.Loadable State.Live; decide +kernel⟩

theorem witness_FenceAndCode :
    (State.Ready w0 256 ∧ (State.cell w0 256).sbuf = [])
    ∧ (State.Ready wRom 256 ∧ (codeW 1048572).t = tCODE ∧ (State.cell wRom 256).sup = true ∧ State.fetchable wRom 256
      (codeW 1048572).p = true ∧ (State.cell wRom 256).sbuf = [])
    ∧ (State.Ready wCode 3 ∧ (rawW 5).t = tRAW ∧ (State.cell wCode 3).sup = true ∧ (State.cell wCode 3).sock (State.cell
      wCode 3).level 784 = codeW 65536 ∧ 65536 < 2 ^ 32 ∧ 3 < 256 ∧ State.cellEpoch wCode 3 = 0 ∧ State.codeWindow
      wCode 65536 = true ∧ 65536 / 16384 ∉ wCode.codeExec ∧ (State.cell wCode 3).sbuf.length < 16) :=
  ⟨by unfold State.Ready State.Live; decide +kernel,
    by unfold State.Ready State.Live; decide +kernel,
    by unfold State.Ready State.Live; decide +kernel⟩

end OfFields

namespace OfCells

def slab : Slab := ⟨66, 16900, 17152, false, 0⟩

def wSlab (f : Cell → Cell) : State := heapOf [] (cell 256 (fun x => f { x with slab := some slab }) w0)

def wVec (f : Cell → Cell) : State :=
  heapOf [(16384, obj 1 152), (16397, fix 1), (16398, fix 2), (16399, fix 3), (16400, nil)] (cell 256 f w0)

def wSave : State := wVec (put 0x318 (ptrTo 1 16384) ∘ fun x => (x.setReg 12 (fix 5)).setReg 15 (fix 6))

def wRest : State := wVec (put 0x31A (ptrTo 1 16384) ∘ fun x => (x.setReg 12 (fix 5)).setReg 15 (fix 6))

def wGate : State :=
  { cell 256 (fun x => { x with gatebase := codeW 0x400 }) w0 with wmem := [(0x7FC, 0x05#8), (0x7FD, 0x10#8)] }

def wRet (d : Bool) : State :=
  cell 256 (fun x => ((st 2 0 1 x).setOwner 1 (some .l0)).setLink 1 (linkOf 0x84 0 d true)) w0

def wSprig : State := sprigged (put 0x3C8 (fix 0x25)) (heapOf [] w0)

def wSpawn : State := wSprig.setSlot 0 { Slot.reset with ctx := some 16500 }

def wReady : State := wSprig.setSlot 7 { Slot.reset with state := .ready, gen := 2, ctx := some 16600 }

def wIvory : State := { regs [(F.SHP_CTL_SPEC_EN, 1)] wSprig with mode := .ivory }

def wEpoch : State := { wIvory with shep := { wIvory.shep with epochs := [(1, ⟨0, 5, 1, 0⟩)] } }

def wPend : State :=
  (sprigged (put 0x401 (evtW 6) ∘ put 0x403 (sprgW 7 2)) w0).modSlot 5 fun x => { x with pend := 0xA#64 }

def wSend : State := wPend.setSlot 7 { Slot.reset with state := .ready, gen := 2, pend := 1#64 }

def wWait : State :=
  w0.setSlot 5 { Slot.reset with state := .blocked, waitMask := some 6#64, waitStamp := some 0, pend := 4#64 }

def late (x : Cell) : Cell :=
  { x with level := .l1, wait := some ⟨0, 4, 0x400, 6, none⟩, vbase := PerLevel.all (codeW 0x10000) }

def wLate : State := { cell 256 late w0 with time := { Timebase.reset with ns := 20000#64 } }

def wResync : State := { cell 256 (fun x => { x with fetch := [(0, 1#32)] }) w0 with resyncs := [(1, 256)] }

def wPage : State :=
  { cell 256 (put 0x610 (codeW 0x1FFFC)) (regs [(F.FRY_CODE_PAGES_PAGES, 8), (F.GKP_STATUS_GATED, 0)] w0) with
    patchReqs := [7]
    codeExec := [2, 7] }

def wLocal (a : Nat) : State :=
  { cell 256 (put 0x700 (rawW a) ∘ put 0x701 (boolW true)) w0 with wmem := [(0xFFFF8, 9#8), (0xFFFFD, 7#8)] }

def wVec1 (f : Cell → Cell) : State :=
  cell 256 (fun x => f { x with vbase := PerLevel.all (codeW 0x8000), pc := 0x1000 }) w0

def wTwo : State :=
  wVec1 fun x => { x with
    level := .l2
    st := PerLevel.all 8#32
    save := x.save.set .l2 { SaveSet.reset with pc := codeW 0x2000, fromLevel := .l1, win := rawW 3 } }

def pkt : IrqPacket := ⟨256, 31, 9#32, false⟩

def wPkt : State := { w0 with irqs := [pkt] }

def wTake : State := wVec1 fun x => { x with irqPend := 0x80000000#32, irqPay := [(31, 9#32)] }

def wHold (l e : Nat) : State := wVec1 fun x => { x with hold := some ⟨.l0, l, e⟩ }

def wRoute : State :=
  regs [(F.ALM_IRQ_ROUTE_EN 31, 1), (F.ALM_IRQ_ROUTE_WDN 31, 1), (F.ALM_IRQ_ROUTE_FIRST 31, 254),
    (F.ALM_IRQ_ROUTE_LAST 31, 255)] w0

def wMv (w : W32) : State :=
  cell 256 (fun x => { (x.setReg 2 (fix 5)).setReg 3 (fix 6) with fetch := [(0xFFFF0000, w)] }) w0

def wDefer : State := cell 256 (fun x => { x with defer := some ⟨0x447, 0x1F0, 0⟩ }) w0

def wUser : State := wVec1 (st 3 3 0)

theorem witness_ObjectsComeFromTheSlab :
    (State.Ready (wSlab (put 672 (fix 1))) 256 ∧ State.cellEpoch (wSlab (put 672 (fix 1))) 256 = 0 ∧ (State.cell (wSlab
      (put 672 (fix 1))) 256).slab = some slab ∧ slab.epoch = 0 ∧ State.resident (wSlab (put 672 (fix 1))) (pageOf
      slab.ptr) = true ∧ (wSlab (put 672 (fix 1))).cstoreBad = [] ∧ State.loaded (wSlab (put 672 (fix 1))) 256 1 =
      false ∧ State.loaded (wSlab (put 672 (fix 1))) 256 2 = false ∧ slab.ptr + 1 + [((State.cell (wSlab (put 672
      (fix 1))) 256).sock (State.cell (wSlab (put 672 (fix 1))) 256).level 672).plain, (fix 2).plain].length ≤
      slab.lim ∧ [((State.cell (wSlab (put 672 (fix 1))) 256).sock (State.cell (wSlab (put 672 (fix 1))) 256).level
      672).plain, (fix 2).plain].length < 256 ∧ pageOf (slab.ptr + [((State.cell (wSlab (put 672 (fix 1))) 256).sock
      (State.cell (wSlab (put 672 (fix 1))) 256).level 672).plain, (fix 2).plain].length) = pageOf slab.ptr)
    ∧ (State.Ready (wSlab (put 674 (fix 251))) 256 ∧ State.cellEpoch (wSlab (put 674 (fix 251))) 256 = 0 ∧ (State.cell
      (wSlab (put 674 (fix 251))) 256).slab = some slab ∧ slab.epoch = 0 ∧ State.resident (wSlab (put 674 (fix 251)))
      (pageOf slab.ptr) = true ∧ (wSlab (put 674 (fix 251))).cstoreBad = [] ∧ State.loaded (wSlab (put 674 (fix
      251))) 256 1 = false ∧ State.loaded (wSlab (put 674 (fix 251))) 256 2 = false ∧ 251 < 256 ∧ (State.cell (wSlab
      (put 674 (fix 251))) 256).sock (State.cell (wSlab (put 674 (fix 251))) 256).level 674 = fix (↑251 : ℤ) ∧
      slab.ptr + 1 + (List.replicate 251 (fix 2).plain).length ≤ slab.lim ∧ (List.replicate 251 (fix 2).plain).length
      < 256 ∧ pageOf (slab.ptr + (List.replicate 251 (fix 2).plain).length) = pageOf slab.ptr)
    ∧ (State.Ready (wSlab (put 674 (fix 0))) 256 ∧ State.cellEpoch (wSlab (put 674 (fix 0))) 256 = 0 ∧ (State.cell (wSlab
      (put 674 (fix 0))) 256).slab = some slab ∧ slab.epoch = 0 ∧ State.resident (wSlab (put 674 (fix 0))) (pageOf
      slab.ptr) = true ∧ (wSlab (put 674 (fix 0))).cstoreBad = [] ∧ State.loaded (wSlab (put 674 (fix 0))) 256 1 =
      false ∧ State.loaded (wSlab (put 674 (fix 0))) 256 2 = false ∧ 0 < 256 ∧ (State.cell (wSlab (put 674 (fix 0)))
      256).sock (State.cell (wSlab (put 674 (fix 0))) 256).level 674 = fix (↑0 : ℤ) ∧ slab.ptr + 1 + (List.replicate
      0 (fix 2).plain).length ≤ slab.lim ∧ (List.replicate 0 (fix 2).plain).length < 256 ∧ pageOf (slab.ptr +
      (List.replicate 0 (fix 2).plain).length) = pageOf slab.ptr)
    ∧ (State.Ready (wSlab id) 256 ∧ State.cellEpoch (wSlab id) 256 = 0 ∧ (State.cell (wSlab id) 256).slab = some slab ∧
      slab.epoch = 0 ∧ State.resident (wSlab id) (pageOf slab.ptr) = true ∧ (wSlab id).cstoreBad = [] ∧ State.loaded
      (wSlab id) 256 1 = false ∧ State.loaded (wSlab id) 256 2 = false ∧ 3 < 256 ∧ slab.ptr + 1 + (List.replicate 3
      (mkN tCHR 0)).length ≤ slab.lim ∧ (List.replicate 3 (mkN tCHR 0)).length < 256 ∧ pageOf (slab.ptr +
      (List.replicate 3 (mkN tCHR 0)).length) = pageOf slab.ptr)
    ∧ (State.Ready (wSlab id) 256 ∧ State.cellEpoch (wSlab id) 256 = 0 ∧ (State.cell (wSlab id) 256).slab = some slab ∧
      slab.epoch = 0 ∧ State.resident (wSlab id) (pageOf slab.ptr) = true ∧ (wSlab id).cstoreBad = [] ∧ State.loaded
      (wSlab id) 256 1 = false ∧ State.loaded (wSlab id) 256 2 = false ∧ slab.ptr + 1 + [(fix 2).plain].length ≤
      slab.lim ∧ [(fix 2).plain].length < 256 ∧ pageOf (slab.ptr + [(fix 2).plain].length) = pageOf slab.ptr)
    ∧ (State.Ready (wSlab (put 680 (codeW 64))) 256 ∧ State.cellEpoch (wSlab (put 680 (codeW 64))) 256 = 0 ∧ (State.cell
      (wSlab (put 680 (codeW 64))) 256).slab = some slab ∧ slab.epoch = 0 ∧ State.resident (wSlab (put 680 (codeW
      64))) (pageOf slab.ptr) = true ∧ (wSlab (put 680 (codeW 64))).cstoreBad = [] ∧ State.loaded (wSlab (put 680
      (codeW 64))) 256 1 = false ∧ State.loaded (wSlab (put 680 (codeW 64))) 256 2 = false ∧ 2 < 255 ∧ ((State.cell
      (wSlab (put 680 (codeW 64))) 256).sock (State.cell (wSlab (put 680 (codeW 64))) 256).level 680).t = tCODE ∧
      slab.ptr + 1 + (((State.cell (wSlab (put 680 (codeW 64))) 256).sock (State.cell (wSlab (put 680 (codeW 64)))
      256).level 680).plain :: List.replicate 2 (unb 0)).length ≤ slab.lim ∧ (((State.cell (wSlab (put 680 (codeW
      64))) 256).sock (State.cell (wSlab (put 680 (codeW 64))) 256).level 680).plain :: List.replicate 2 (unb
      0)).length < 256 ∧ pageOf (slab.ptr + (((State.cell (wSlab (put 680 (codeW 64))) 256).sock (State.cell (wSlab
      (put 680 (codeW 64))) 256).level 680).plain :: List.replicate 2 (unb 0)).length) = pageOf slab.ptr) :=
  ⟨by unfold State.Ready State.Live; decide +kernel,
    by unfold State.Ready State.Live; decide +kernel,
    by unfold State.Ready State.Live; decide +kernel,
    by unfold State.Ready State.Live; decide +kernel,
    by unfold State.Ready State.Live; decide +kernel,
    by unfold State.Ready State.Live; decide +kernel⟩

theorem witness_MasksTransferRegisters :
    (State.Ready wSave 256 ∧ State.cellEpoch wSave 256 = 0 ∧ State.Object wSave (ptrTo 1 16384) 152 ∧ (ptrTo 1 16384).t =
      tVEC ∧ 152 ≤ 152 ∧ 3 < 4 ∧ wSave.heap.phase = Phase.idle ∧ wSave.cstoreBad = [] ∧ State.loaded wSave 256 7 =
      false ∧ State.loaded wSave 256 8 = false ∧ (State.cell wSave 256).mlPend = none ∧ State.region wSave (pageOf
      (addrOf (ptrTo 1 16384))) = Region.collected ∧ (∀ k < 4, State.region wSave (pageOf (addrOf (ptrTo 1 16384) + 1
      + 4 * 3 + k)) = Region.collected) ∧ (State.cell wSave 256).sbuf = [] ∧ (State.cell wSave 256).sock (State.cell
      wSave 256).level 792 = ptrTo 1 16384)
    ∧ (State.Ready wRest 256 ∧ State.cellEpoch wRest 256 = 0 ∧ State.Object wRest (ptrTo 1 16384) 152 ∧ (ptrTo 1 16384).t =
      tVEC ∧ 152 ≤ 152 ∧ 3 < 4 ∧ wRest.heap.phase = Phase.idle ∧ wRest.cstoreBad = [] ∧ State.loaded wRest 256 7 =
      false ∧ State.loaded wRest 256 8 = false ∧ (State.cell wRest 256).mlPend = none ∧ State.region wRest (pageOf
      (addrOf (ptrTo 1 16384))) = Region.collected ∧ (∀ k < 4, State.Loadable wRest 256 (addrOf (ptrTo 1 16384) + 1 +
      4 * 3 + k)) ∧ (State.cell wRest 256).sock (State.cell wRest 256).level 794 = ptrTo 1 16384) :=
  ⟨by unfold State.Ready State.Object State.Live; decide +kernel,
    by unfold State.Ready State.Object State.Loadable State.Live; decide +kernel⟩

theorem witness_ControlGoesWhereLinked :
    (State.Ready w0 256 ∧ (codeW 135).t = tCODE)
    ∧ (State.Ready w0 256 ∧ (codeW 135).t = tCODE ∧ (State.cell w0 256).owner (((State.cell w0 256).win + 1) % 8) = none)
    ∧ (State.Ready wGate 256 ∧ fix 255 = fix (↑255 : ℤ) ∧ 255 < 256 ∧ (State.cell wGate 256).gatebase.t = tCODE ∧
      (State.cell wGate 256).owner (((State.cell wGate 256).win + 1) % 8) = none ∧ (State.cell wGate 256).sbuf = [] ∧
      State.fetchable wGate 256 ((State.cell wGate 256).gatebase.p % 2 ^ 32 + 4 * 255) = true ∧ State.execPage wGate
      256 ((State.cell wGate 256).gatebase.p % 2 ^ 32 + 4 * 255) = true ∧ BitVec.toNat (State.codeWord wGate 256
      ((State.cell wGate 256).gatebase.p % 2 ^ 32 + 4 * 255)) = 4101 ∧ 4 ≤ 4101 ∧ 4101 / 2 % 2 = 0 ∧ (4101 % 2 = 1 ∨
      (State.cell wGate 256).sup = true))
    ∧ (State.Ready (wRet false) 256 ∧ (State.cell (wRet false) 256).isLent (State.cell (wRet false) 256).win = false ∧
      BitVec.getLsbD ((State.cell (wRet false) 256).link (State.cell (wRet false) 256).win) 49 = true ∧
      BitVec.getLsbD ((State.cell (wRet false) 256).link (State.cell (wRet false) 256).win) 48 = false ∧ (State.cell
      (wRet false) 256).owner (((State.cell (wRet false) 256).win + 7) % 8) = some (State.cell (wRet false)
      256).level ∧ State.epochPending (wRet false) 256 = false)
    ∧ (State.Ready (wRet true) 256 ∧ (State.cell (wRet true) 256).isLent (State.cell (wRet true) 256).win = false ∧
      BitVec.getLsbD ((State.cell (wRet true) 256).link (State.cell (wRet true) 256).win) 49 = true ∧ BitVec.getLsbD
      ((State.cell (wRet true) 256).link (State.cell (wRet true) 256).win) 48 = true ∧ (State.cell (wRet true)
      256).owner (((State.cell (wRet true) 256).win + 7) % 8) = some (State.cell (wRet true) 256).level ∧ (wRet
      true).cstoreBad = [] ∧ State.loaded (wRet true) 256 6 = false)
    ∧ State.Ready w0 256 :=
  ⟨by unfold State.Ready State.Live; decide +kernel,
    by unfold State.Ready State.Live; decide +kernel,
    by unfold State.Ready State.Live; decide +kernel,
    by unfold State.Ready State.Live; decide +kernel,
    by unfold State.Ready State.Live; decide +kernel,
    by unfold State.Ready State.Live; decide +kernel⟩

theorem witness_SprigsSpawnAndEnd :
    (State.Ready wSpawn 3 ∧ (State.cell wSpawn 3).level = Level.l0 ∧ State.cellEpoch wSpawn 3 = 0 ∧ State.epochPending
      wSpawn 3 = false ∧ (State.cell wSpawn 3).ops = [] ∧ (codeW 64).t = tCODE ∧ (State.cell wSpawn 3).sbuf = [] ∧
      ((State.cell wSpawn 3).sock Level.l0 968).t = tFIX ∧ ((State.cell wSpawn 3).sock Level.l0 968).p &&& 55 =
      ((State.cell wSpawn 3).sock Level.l0 968).p ∧ ((State.cell wSpawn 3).sock Level.l0 968).p < 64 ∧ (bits
      ((State.cell wSpawn 3).sock Level.l0 968).p 5 4 = 0 ∨ bits ((State.cell wSpawn 3).sock Level.l0 968).p 5 4 = 2)
      ∧ State.freeSlotNo wSpawn = some 0 ∧ (State.slot wSpawn 0).ctx.isSome = true)
    ∧ (State.Ready wReady 3 ∧ (State.cell wReady 3).level = Level.l0 ∧ State.cellEpoch wReady 3 = 0 ∧ State.epochPending
      wReady 3 = false ∧ (State.cell wReady 3).ops = [] ∧ (sprgW 7 1).t = tSPRG ∧ State.stale wReady (sprgW 7 1) =
      true)
    ∧ (State.Ready wReady 3 ∧ (State.cell wReady 3).level = Level.l0 ∧ State.cellEpoch wReady 3 = 0 ∧ State.epochPending
      wReady 3 = false ∧ (State.cell wReady 3).ops = [] ∧ (sprgW 7 2).t = tSPRG ∧ State.stale wReady (sprgW 7 2) =
      false ∧ (State.slot wReady (sprgSlot (sprgW 7 2))).state = SlotState.ready ∧ (State.cell wReady 3).sprig ≠ some
      (sprgSlot (sprgW 7 2)))
    ∧ (State.Ready wSprig 3 ∧ (State.cell wSprig 3).level = Level.l0 ∧ State.cellEpoch wSprig 3 = 0 ∧ State.epochPending
      wSprig 3 = false ∧ (State.cell wSprig 3).ops = [] ∧ (State.cell wSprig 3).sprig = some 5 ∧ (State.slot wSprig
      5).ctx.isSome = true)
    ∧ (State.Ready wSprig 3 ∧ (State.cell wSprig 3).level = Level.l0 ∧ State.cellEpoch wSprig 3 = 0 ∧ State.epochPending
      wSprig 3 = false ∧ (State.cell wSprig 3).ops = [] ∧ (State.cell wSprig 3).sprig = some 5) :=
  ⟨by unfold State.Ready State.Live; decide +kernel,
    by unfold State.Ready State.Live; decide +kernel,
    by unfold State.Ready State.Live; decide +kernel,
    by unfold State.Ready State.Live; decide +kernel,
    by unfold State.Ready State.Live; decide +kernel⟩

theorem witness_EpochsOpenAndResolve :
    (State.Ready wIvory 3 ∧ (State.cell wIvory 3).level = Level.l0 ∧ (State.cell wIvory 3).sprig = some 5 ∧
      State.epochPending wIvory 3 = false ∧ wIvory.mode = Mode.ivory ∧ State.bit wIvory F.SHP_CTL_SPEC_EN = true ∧
      wIvory.shep.leavingIvory = false ∧ State.freeEpoch wIvory = some 1)
    ∧ (State.Ready wEpoch 3 ∧ (State.cell wEpoch 3).level = Level.l0 ∧ (State.cell wEpoch 3).sprig = some 5 ∧
      State.epochPending wEpoch 3 = false ∧ wEpoch.mode = Mode.ivory ∧ State.bit wEpoch F.SHP_CTL_SPEC_EN = true ∧
      wEpoch.shep.leavingIvory = false ∧ State.freeEpoch wEpoch = some 2)
    ∧ (State.Ready wEpoch 3 ∧ (State.cell wEpoch 3).level = Level.l0 ∧ (State.cell wEpoch 3).sprig = some 5 ∧
      State.epochPending wEpoch 3 = false ∧ fix 1 = fix (↑1 : ℤ) ∧ 1 ≤ 1 ∧ 1 ≤ 15 ∧ wEpoch.shep.epochs.find? 1 = some
      (Epoch.mk 0 5 1 0) ∧ 1 = (State.slot wEpoch 5).gen) :=
  ⟨by unfold State.Ready State.Live; decide +kernel,
    by unfold State.Ready State.Live; decide +kernel,
    by unfold State.Ready State.Live; decide +kernel⟩

theorem witness_EventsAreTakenAndSent :
    (State.Ready wPend 3 ∧ (State.cell wPend 3).sprig = some 5 ∧ (evtW 255).t = tEVT ∧ (State.slot wPend 5).pend &&&
      ((evtW 255).payload &&& evMask) ≠ 0#64)
    ∧ (State.Ready wPend 3 ∧ (State.cell wPend 3).sprig = some 5 ∧ (mkN tSTAMP 0).t = tSTAMP ∧ (mkN tSTAMP 0).p ≤ State.now
      wPend ∧ ((State.cell wPend 3).sock (State.cell wPend 3).level 1025).t = tEVT)
    ∧ (State.Ready wPend 3 ∧ (State.cell wPend 3).sprig = some 5 ∧ (evtW 2).t = tEVT)
    ∧ (State.Ready wSend 3 ∧ (State.cell wSend 3).sprig = some 5 ∧ (evtW 4).t = tEVT ∧ (evtW 4).p < 2 ^ 48 ∧ (State.cell
      wSend 3).sock (State.cell wSend 3).level 1027 = sprgW 7 2 ∧ State.liveHandle wSend (sprgW 7 2) = true ∧
      (State.cell wSend 3).sbuf = [] ∧ State.cellEpoch wSend 3 = 0) :=
  ⟨by unfold State.Ready State.Live; decide +kernel,
    by unfold State.Ready State.Live; decide +kernel,
    by unfold State.Ready State.Live; decide +kernel,
    by unfold State.Ready State.Live; decide +kernel⟩

theorem witness_WaitsEnd :
    (State.Live wWait ∧ (State.slot wWait 5).state = SlotState.blocked ∧ (State.slot wWait 5).waitMask = some 6#64 ∧
      (State.slot wWait 5).pend &&& 6#64 ≠ 0#64)
    ∧ (State.Live wWait ∧ (State.slot wWait 5).state = SlotState.blocked ∧ (State.slot wWait 5).waitStamp = some 0 ∧ 0 ≤
      State.now wWait)
    ∧ (State.Live wLate ∧ (State.cell wLate 256).wait = some (WaitInPlace.mk 0 4 1024 6 none) ∧ State.running wLate 256 =
      true ∧ (State.cell wLate 256).level = Level.l1 ∧ (WaitInPlace.mk 0 4 1024 6 none).isEvent = true ∧ 0 + 20000 ≤
      State.now wLate ∧ (State.cell wLate 256).ops = [] ∧ ((State.cell wLate 256).vbase.get Level.l3).t = tCODE ∧
      State.fetchable wLate 256 ((((State.cell wLate 256).vbase.get Level.l3).p + cDOUBLE * 64) % 2 ^ 32) = true)
    ∧ (State.Live wResync ∧ List.find? (fun p => p.2 == 256) wResync.resyncs = some (1, 256)) :=
  ⟨by unfold State.Live; decide +kernel,
    by unfold State.Live; decide +kernel,
    by unfold State.Live; decide +kernel,
    by unfold State.Live; decide +kernel⟩

theorem witness_StatusPagesHoldsAndConfirm :
    (State.Ready w0 256 ∧ (State.cell w0 256).level = Level.l0 ∧ (State.cell w0 256).sup = true ∧ (State.cell w0 256).ops
      = [] ∧ ((fix 903).t = tFIX ∨ (fix 903).t = tRAW))
    ∧ (State.Ready w0 256 ∧ (State.cell w0 256).level = Level.l0 ∧ (State.cell w0 256).sup = true ∧ (State.cell w0 256).ops
      = [] ∧ ((rawW 0).t = tFIX ∨ (rawW 0).t = tRAW))
    ∧ (State.Ready wPage 256 ∧ (State.cell wPage 256).sup = true ∧ State.cellEpoch wPage 256 = 0 ∧ (State.cell wPage
      256).sock (State.cell wPage 256).level 1552 = codeW 131068 ∧ 131068 < 2 ^ 32 ∧ State.codeWindow wPage 131068 =
      true ∧ State.codeStoresTo wPage (131068 / 16384) = false)
    ∧ (State.Ready wPage 256 ∧ (State.cell wPage 256).sup = true ∧ State.cellEpoch wPage 256 = 0 ∧ 7 ∈ wPage.patchReqs)
    ∧ (State.Ready wPage 256 ∧ (State.cell wPage 256).sup = true ∧ State.cellEpoch wPage 256 = 0 ∧ 1 ≤ 512 ∧ 512 ≤ 512 ∧
      ((State.cell wPage 256).level = Level.l0 ∨ (State.cell wPage 256).level = Level.l1))
    ∧ (State.Ready wPage 256 ∧ (State.cell wPage 256).sup = true ∧ State.cellEpoch wPage 256 = 0 ∧ State.gated wPage =
      false ∧ State.bit wPage F.GKP_BOOT_TRIAL = false) :=
  ⟨by unfold State.Ready State.Live; decide +kernel,
    by unfold State.Ready State.Live; decide +kernel,
    by unfold State.Ready State.Live; decide +kernel,
    by unfold State.Ready State.Live; decide +kernel,
    by unfold State.Ready State.Live; decide +kernel,
    by unfold State.Ready State.Live; decide +kernel⟩

theorem witness_WardenReachesItsMemory :
    (State.Ready (wLocal 1048572) 256 ∧ (State.cell (wLocal 1048572) 256).sup = true ∧ (State.cell (wLocal 1048572)
      256).sock (State.cell (wLocal 1048572) 256).level 1792 = rawW 1048572 ∧ (State.cell (wLocal 1048572) 256).sock
      (State.cell (wLocal 1048572) 256).level 1793 = boolW true ∧ (4 = 4 ∨ 4 = 8) ∧ 1048572 % 4 = 0 ∧ 1048572 + 4 ≤
      1048576)
    ∧ (State.Ready (wLocal 1048568) 256 ∧ (State.cell (wLocal 1048568) 256).sup = true ∧ (State.cell (wLocal 1048568)
      256).sock (State.cell (wLocal 1048568) 256).level 1792 = rawW 1048568 ∧ (State.cell (wLocal 1048568) 256).sock
      (State.cell (wLocal 1048568) 256).level 1793 = boolW true ∧ (8 = 4 ∨ 8 = 8) ∧ 1048568 % 8 = 0 ∧ 1048568 + 8 ≤
      1048576)
    ∧ (State.Ready (wLocal 1048572) 256 ∧ (State.cell (wLocal 1048572) 256).sup = true ∧ (State.cell (wLocal 1048572)
      256).sock (State.cell (wLocal 1048572) 256).level 1792 = rawW 1048572 ∧ (State.cell (wLocal 1048572) 256).sock
      (State.cell (wLocal 1048572) 256).level 1793 = boolW true ∧ ((fix 305419896).t = tFIX ∨ (fix 305419896).t =
      tRAW) ∧ 1048572 % 4 = 0 ∧ 1048572 + 4 ≤ 1048576)
    ∧ (State.Ready (wLocal 1048568) 256 ∧ (State.cell (wLocal 1048568) 256).sup = true ∧ (State.cell (wLocal 1048568)
      256).sock (State.cell (wLocal 1048568) 256).level 1792 = rawW 1048568 ∧ (State.cell (wLocal 1048568) 256).sock
      (State.cell (wLocal 1048568) 256).level 1793 = boolW true ∧ ((rawW 1234605616436508552).t = tFIX ∨ (rawW
      1234605616436508552).t = tRAW) ∧ 1048568 % 8 = 0 ∧ 1048568 + 8 ≤ 1048576) :=
  ⟨by unfold State.Ready State.Live; decide +kernel,
    by unfold State.Ready State.Live; decide +kernel,
    by unfold State.Ready State.Live; decide +kernel,
    by unfold State.Ready State.Live; decide +kernel⟩

theorem witness_LevelsAreEnteredAndLeft :
    (State.Ready (wVec1 id) 256 ∧ (State.cell (wVec1 id) 256).level = Level.l0 ∧ (State.cell (wVec1 id) 256).ops = [] ∧
      (fix 5).t ≠ tEVT ∧ ((State.cell (wVec1 id) 256).sprig.isSome = true ∨ 256 = 256) ∧ (State.cell (wVec1 id)
      256).pc < 2 ^ 32 ∧ ((State.cell (wVec1 id) 256).vbase.get Level.l1).t = tCODE ∧ State.fetchable (wVec1 id) 256
      ((((State.cell (wVec1 id) 256).vbase.get Level.l1).p + cTAGMISS * 64) % 2 ^ 32) = true)
    ∧ (State.Ready wTwo 256 ∧ (State.cell wTwo 256).sup = true ∧ (State.cell wTwo 256).level = Level.l2 ∧ (State.cell wTwo
      256).ops = [] ∧ (State.cell wTwo 256).dropEpoch = none ∧ ((State.cell wTwo 256).save.get Level.l2).fromLevel =
      Level.l1) :=
  ⟨by unfold State.Ready State.Live; decide +kernel,
    by unfold State.Ready State.Live; decide +kernel⟩

theorem witness_InterruptsReachTheirCells :
    (State.Live wPkt ∧ List.find? (fun p => p.cell == 256) wPkt.irqs = some pkt ∧ pkt.irq < 32 ∧ State.inPlacement wPkt
      256 = true)
    ∧ (State.Live wTake ∧ 31 < 32 ∧ (State.cell wTake 256).takeable = some (Event.irq 31) ∧ (State.cell wTake 256).level =
      Level.l0 ∧ State.mayTake wTake 256 = true ∧ (State.cell wTake 256).irqL2 = 0#32 ∧ (State.cell wTake 256).nmi =
      none ∧ (State.cell wTake 256).ops = [] ∧ (State.cell wTake 256).defer = none ∧ (State.cell wTake 256).early =
      [] ∧ (State.cell wTake 256).lowIrq true = none ∧ ((State.cell wTake 256).sprig.isSome = true ∨ 256 = 256) ∧
      ((State.cell wTake 256).vbase.get Level.l1).t = tCODE ∧ State.fetchable wTake 256 ((((State.cell wTake
      256).vbase.get Level.l1).p + (32 + 31) * 64) % 2 ^ 32) = true)
    ∧ (State.Live (wHold 0 5) ∧ (State.cell (wHold 0 5) 256).hold = some (Hold.mk Level.l0 0 5) ∧ (State.cell (wHold 0 5)
      256).level = Level.l0 ∧ (State.cell (wHold 0 5) 256).ops = [] ∧ (State.cell (wHold 0 5) 256).defer = none ∧
      (State.cell (wHold 0 5) 256).early = [] ∧ ((State.cell (wHold 0 5) 256).vbase.get Level.l1).t = tCODE ∧
      State.fetchable (wHold 0 5) 256 ((((State.cell (wHold 0 5) 256).vbase.get Level.l1).p + cHOLDX * 64) % 2 ^ 32)
      = true)
    ∧ (State.Live (wHold 5 0) ∧ (State.cell (wHold 5 0) 256).hold = some (Hold.mk Level.l0 5 0) ∧ (State.cell (wHold 5 0)
      256).level = Level.l0 ∧ (State.cell (wHold 5 0) 256).ops = [] ∧ (State.cell (wHold 5 0) 256).defer = none ∧
      (State.cell (wHold 5 0) 256).early = [] ∧ ((State.cell (wHold 5 0) 256).vbase.get Level.l1).t = tCODE ∧
      State.fetchable (wHold 5 0) 256 ((((State.cell (wHold 5 0) 256).vbase.get Level.l1).p + cHOLDX * 64) % 2 ^ 32)
      = true ∧ 0 ≤ State.now (wHold 5 0))
    ∧ State.Live w0
    ∧ (State.Live wRoute ∧ State.bit wRoute (F.ALM_IRQ_ROUTE_EN (24 + 7)) = true ∧ State.bit wRoute (F.ALM_IRQ_ROUTE_ONE
      (24 + 7)) = false ∧ State.bit wRoute (F.ALM_IRQ_ROUTE_WDN (24 + 7)) = true) :=
  ⟨by unfold State.Live; decide +kernel,
    by unfold State.Live; decide +kernel,
    by unfold State.Live; decide +kernel,
    by unfold State.Live; decide +kernel,
    by unfold State.Live; decide +kernel,
    by unfold State.Live; decide +kernel⟩

theorem witness_MovesTransfer :
    (State.Ready (wMv 268370000#32) 256 ∧ (State.cell (wMv 268370000#32) 256).fetch.find? (State.cell (wMv 268370000#32)
      256).pc = some 268370000#32 ∧ (State.cell (wMv 268370000#32) 256).pc % 4 = 0 ∧ bits (268370000#32).toNat 2 0 =
      0 ∧ mvLong 268370000#32 = false ∧ mvGuard 268370000#32 = 0 ∧ mvInv 268370000#32 = false ∧ mvImm 268370000#32 =
      true ∧ mvDst 268370000#32 < 16)
    ∧ (State.Ready (wMv 196640#32) 256 ∧ (State.cell (wMv 196640#32) 256).fetch.find? (State.cell (wMv 196640#32) 256).pc =
      some 196640#32 ∧ (State.cell (wMv 196640#32) 256).pc % 4 = 0 ∧ bits (196640#32).toNat 2 0 = 0 ∧ mvLong
      196640#32 = false ∧ mvGuard 196640#32 = 0 ∧ mvInv 196640#32 = false ∧ mvImm 196640#32 = false ∧ mvDst 196640#32
      < 16 ∧ mvSrc 196640#32 < 16)
    ∧ (State.Ready (wMv 1879244832#32) 256 ∧ (State.cell (wMv 1879244832#32) 256).fetch.find? (State.cell (wMv
      1879244832#32) 256).pc = some 1879244832#32 ∧ (State.cell (wMv 1879244832#32) 256).pc % 4 = 0 ∧ bits
      (1879244832#32).toNat 2 0 = 0 ∧ mvLong 1879244832#32 = false ∧ mvGuard 1879244832#32 ≠ 0 ∧ ((State.cell (wMv
      1879244832#32) 256).preds.get (State.cell (wMv 1879244832#32) 256).level).getLsbD (mvGuard 1879244832#32) =
      mvInv 1879244832#32) :=
  ⟨by unfold State.Ready State.Live; decide +kernel,
    by unfold State.Ready State.Live; decide +kernel,
    by unfold State.Ready State.Live; decide +kernel⟩

theorem witness_GuardsResolve :
    State.Live wDefer ∧ (State.cell wDefer 256).defer = some (Defer.mk 1095 496 0) ∧ (State.cell wDefer 256).early = [] ∧
      (State.cell wDefer 256).busyOp (496 == 608) = false ∧ 1089 ≤ 1095 ∧ 1095 ≤ 1095 :=
  by unfold State.Live; decide +kernel

theorem witness_SupervisorSocketsNeedSup :
    ((Instr.syStWrite 256 (fix 0), 1536) ∈ [(Instr.syStWrite 256 (fix 0), 1536), (Instr.syCpset 256 (fix 0), 1553),
      (Instr.syHold 256 (fix 0), 1560), (Instr.syReti 256 (fix 0), 1561), (Instr.syConfirm 256 (fix 0), 1616)] ∧
      State.Ready wUser 256 ∧ (State.cell wUser 256).level = Level.l0 ∧ (State.cell wUser 256).ops = [] ∧ (State.cell
      wUser 256).sup = false ∧ ((State.cell wUser 256).vbase.get Level.l1).t = tCODE ∧ State.fetchable wUser 256
      ((((State.cell wUser 256).vbase.get Level.l1).p + cPRIV * 64) % 2 ^ 32) = true)
    ∧ ((Instr.syReti 256 (fix 0), 1561) ∈ [(Instr.syStWrite 256 (fix 0), 1536), (Instr.syCpset 256 (fix 0), 1553),
      (Instr.syHold 256 (fix 0), 1560), (Instr.syReti 256 (fix 0), 1561), (Instr.syConfirm 256 (fix 0), 1616)] ∧
      State.Ready wUser 256 ∧ (State.cell wUser 256).level = Level.l0 ∧ (State.cell wUser 256).ops = [] ∧ (State.cell
      wUser 256).sup = false ∧ ((State.cell wUser 256).vbase.get Level.l1).t = tCODE ∧ State.fetchable wUser 256
      ((((State.cell wUser 256).vbase.get Level.l1).p + cPRIV * 64) % 2 ^ 32) = true) :=
  ⟨by unfold State.Ready State.Live; decide +kernel,
    by unfold State.Ready State.Live; decide +kernel⟩

end OfCells

namespace OfHeap

def wMc : State := regs [(F.ALM_MC_ADDR_ADDR, 77), (F.ALM_MC_DATA_DATA 0, 5)] w0

def wCob : State := { wMc with mode := .cobalt }

def wAbort : State :=
  cell 256 (fun x => { x with vbase := PerLevel.all (codeW 0x10000) }) (regs [(F.ALM_SRC_CLASS aMcAbort, 3)] w0)

def wSeq (w : BitVec 120) : State :=
  { sprigged (fun x => { x with vbase := PerLevel.all (codeW 0x10000) }) (regs [(F.ALM_SRC_CLASS aMcAbort, 3), (F.FRY_CODE_PAGES_PAGES, 64)] w0) with
    cstore := [(1, w)] }

def wSpn (r : SpinReq) : State := { heapOf [] w0 with heap := { (heapOf [] w0).heap with reqs := [r] } }

def wLock : State := regs [(F.SPN_HEAP_BASE_PAGE, 16), (F.SPN_HEAP_PAGES_COUNT, 16)] w0

def rSlab : SpinReq := ⟨.cell 256, 0, 0, nil, nil, 0, 0⟩

def rLarge (n : Nat) : SpinReq := ⟨.cell 256, 1, n, fix 7, nil, 0, 0⟩

def wPin : State := regs [(F.SPN_PIN_L_ADDR_L, 16384)] (heapOf [(16384, mkHdr black 2 0 true false)] w0)

def gc (ph : Phase) (s : State) : State :=
  { s with cellsHeld := false, heap := { s.heap with phase := ph, cycle := 1#32 } }

def wStart : State := regs [(F.SPN_CTL_GC_EN, 1)] (gc .idle (heapOf [] w0))

def wPeriod : State := { wStart with act := [(0x4024, 1#32)], time := { Timebase.reset with ns := 1000000#64 } }

def wRoots : State :=
  gc .roots (cell 3 (put 0x20 (ptrTo 1 16384)) (heapOf [(16384, mkHdr 0 1 1 false false), (16385, ptrTo 1 16400), (16400, mkHdr 0 1 1 false false)] w0))

def wReg : State := { wRoots with heap := { wRoots.heap with registered := [16384] } }

def wMark : State :=
  { wRoots with
    heap := { wRoots.heap with
      phase := .mark
      grey := [(0, [16384])]
      words := [(16384, mkHdr grey 1 1 false false), (16385, ptrTo 1 16400), (16400, mkHdr 0 1 1 false false)]
      grans := [(64, ⟨.used, false, 0, false⟩)] } }

def wSteal : State := { wMark with heap := { wMark.heap with grey := [(1, [16384, 16400])] } }

def wTerm : State := { wMark with heap := { wMark.heap with grey := [] } }

def wMove : State :=
  gc .relocate { heapOf [(17408, mkHdr 1 1 1 false false), (17409, fix 5)] w0 with
    heap := { (heapOf [] w0).heap with
      condemned := [17]
      grans := [(68, ⟨.used, false, 0, false⟩)]
      gslabs := [(1, (64, 16384))]
      words := [(17408, mkHdr black 1 1 true false), (17409, fix 5)] } }

def wSweep : State :=
  { wMove with
    heap := { wMove.heap with
      phase := .sweep
      condemned := []
      words := [(17408, mkHdr 0 1 1 false false), (17409, fix 5)] } }

def wLarge : State :=
  { wMove with
    heap := { wMove.heap with
      phase := .sweep
      condemned := []
      grans := [(64, ⟨.largeHead, false, 0, false⟩), (65, ⟨.largeTail, false, 0, false⟩)]
      words := [(16384, mkHdr 0 300 1 false true), (16385, fix 5)] } }

def wSel : State :=
  regs [(F.SPN_GC_CTL_EVAC_MAX, 1)] { wMove with heap := { wMove.heap with phase := .select, condemned := [] } }

def wFry : State := regs [(F.PLT_DDR_STAT_CAP, 64), (F.FRY_SIDE_DBASE_BASE, 1)] (heapOf [(16384, fix 5)] w0)

def wIn : State :=
  { wFry with
    heap := { wFry.heap with bins := [(2, ⟨18, true, false, false, false, none⟩)], queues := [(2, [⟨18, 0, 0⟩])] } }

def bWait : Nat × Bin := (0, ⟨16, true, false, false, true, some 18⟩)

def wBack : State :=
  { wFry with heap := { wFry.heap with words := [], bins := [bWait], queues := [(2, [⟨18, 0, 0⟩])] } }

def wBins : State :=
  { cell 256 (fun x => { x with pageWait := some (18432, 0), vbase := PerLevel.all (codeW 0x10000) })
      { wFry with time := { Timebase.reset with ns := 30000#64 } } with
    heap := { wFry.heap with bins := (List.range 2048).map fun n => (n, ⟨32 + n, false, true, false, false, none⟩) } }

def wShp : State := { heapOf [] w0 with cellsHeld := false }

def rdy (pri g : Nat) : Slot :=
  { Slot.reset with state := .ready, pri := pri, grove := g, gen := 2, ctx := some 16400 }

def wPlace : State :=
  { wShp.setSlot 7 (rdy 5 0) with
    heap := { wShp.heap with words := [(16399, mkHdr black 240 4 true true), (16555, codeW 0x40)] } }

def wOther : State := regs [(F.SHP_CTL_STEAL, 1)] (wShp.setSlot 7 (rdy 5 1))

def onCell (s : State) (c : Nat) : State :=
  { s.setSlot (100 + c) { rdy 3 0 with state := .running, cell := some c, order := c } with
    cells := (s.setCell c { s.cell c with sprig := some (100 + c) }).cells }

def allOn : State := (List.range 16).foldl onCell wShp

def wPre : State := allOn.setSlot 7 (rdy 5 0)

def wSlice : State := (allOn.setSlot 7 (rdy 3 0)).setSlot 103 { rdy 3 0 with state := .running, cell := some 3 }

def wDead : State := wShp.setSlot 7 { rdy 3 0 with deadline := some 0 }

def fApply : Flight := ⟨2, 0, 6, false, 0, [], 0, .apply [] [] 0 true false⟩

def wApply : State := { w0 with evr := { Evr.reset with flights := [fApply] } }

def wEp (r : EpochReq) : State :=
  regs [(F.TAL_STATUS_FROZEN, 0x7F)] { heapOf ((List.range 128).map fun i => (16643 + i, nil)) w0 with
    shep := { Shep.reset with
      epochs := [(1, ⟨0, 5, 1, 0⟩)]
      reqs := [r]
      log := [⟨1, 16384, nil, fix 7⟩]
      slots := [(5, { Slot.reset with state := .held, epoch := 1, gen := 1 })] } }

def wLog : State := { heapOf [] w0 with shep := { Shep.reset with writeback := [⟨0, 16385, nil, fix 4⟩] } }

def wRep : State := { w0 with tally := { Tally.reset with reports := [⟨3, 0, [(0, -1)]⟩] } }

def wAud : State :=
  regs [(F.TAL_STATUS_FROZEN, 0x3F)] { w0 with time := { Timebase.reset with ns := 10000000000#64 } }

theorem witness_ControlStoreCommands :
    (State.Live wMc ∧ State.bit wMc F.ALM_MC_CTL_MC_LOCK = false)
    ∧ (State.Live wCob ∧ wCob.mode = Mode.cobalt ∧ wCob.cellsHeld = true)
    ∧ (State.Live wMc ∧ (3, State.fld wMc F.ALM_MC_ADDR_ADDR) ∉ wMc.cstoreBad)
    ∧ (State.Live w0 ∧ w0.cstoreBad = [] ∧ State.fld w0 (F.ALM_SRC_CLASS aMcFix) ≤ 1 ∧ State.fld w0 F.ALM_MCFIX_CNT_COUNT <
      2 ^ 32 - 2)
    ∧ (State.Live wAbort ∧ State.running wAbort 256 = true ∧ (State.cell wAbort 256).level = Level.l0 ∧ (State.cell wAbort
      256).ops = [] ∧ ((State.cell wAbort 256).vbase.get Level.l1).t = tCODE ∧ State.fetchable wAbort 256
      ((((State.cell wAbort 256).vbase.get Level.l1).p + cMCABORT * 64) % 2 ^ 32) = true ∧ wAbort.mode = Mode.ochre ∧
      State.fld wAbort (F.ALM_SRC_CLASS aMcAbort) = 3)
    ∧ (State.Live (wSeq (↑(10 <<< 116) : BitVec 120)) ∧ State.Ready (wSeq (↑(10 <<< 116) : BitVec 120)) 3 ∧ (wSeq (↑(10 <<<
      116) : BitVec 120)).cstoreBad = [] ∧ State.loaded (wSeq (↑(10 <<< 116) : BitVec 120)) 3 1 = true ∧
      (State.microAt (wSeq (↑(10 <<< 116) : BitVec 120)) 1).seq ≥ 10 ∧ (State.cell (wSeq (↑(10 <<< 116) : BitVec
      120)) 3).level = Level.l0 ∧ (State.cell (wSeq (↑(10 <<< 116) : BitVec 120)) 3).ops = [] ∧ ((State.cell (wSeq
      (↑(10 <<< 116) : BitVec 120)) 3).vbase.get Level.l1).t = tCODE ∧ State.fetchable (wSeq (↑(10 <<< 116) : BitVec
      120)) 3 ((((State.cell (wSeq (↑(10 <<< 116) : BitVec 120)) 3).vbase.get Level.l1).p + cMCABORT * 64) % 2 ^ 32)
      = true ∧ (wSeq (↑(10 <<< 116) : BitVec 120)).mode = Mode.ochre ∧ State.fld (wSeq (↑(10 <<< 116) : BitVec 120))
      (F.ALM_SRC_CLASS aMcAbort) = 3)
    ∧ (State.Live (wSeq 581537248233253052770882559231918080#120) ∧ State.Ready (wSeq
      581537248233253052770882559231918080#120) 3 ∧ (wSeq 581537248233253052770882559231918080#120).cstoreBad = [] ∧
      State.loaded (wSeq 581537248233253052770882559231918080#120) 3 1 = true ∧ (State.microAt (wSeq
      581537248233253052770882559231918080#120) 1).seq = 7 ∧ (State.microAt (wSeq
      581537248233253052770882559231918080#120) 1).reserved = false ∧ (State.microAt (wSeq
      581537248233253052770882559231918080#120) 1).mem = 0 ∧ (State.microAt (wSeq
      581537248233253052770882559231918080#120) 1).alu = 0 ∧ (State.microAt (wSeq
      581537248233253052770882559231918080#120) 1).srca = 4094 ∧ (State.microAt (wSeq
      581537248233253052770882559231918080#120) 1).srcb = 4094 ∧ (State.microAt (wSeq
      581537248233253052770882559231918080#120) 1).dst = 4094) :=
  ⟨by unfold State.Live; decide +kernel,
    by unfold State.Live; decide +kernel,
    by unfold State.Live; decide +kernel,
    by unfold State.Live; decide +kernel,
    by unfold State.Live; decide +kernel,
    by unfold State.Ready State.Live; decide +kernel,
    by unfold State.Ready State.Live; decide +kernel⟩

theorem witness_SpinnerAnswers :
    (State.Live wLock ∧ State.bit wLock F.SPN_CTL_LOCK = false ∧ 4 ≤ State.fld wLock F.SPN_HEAP_PAGES_COUNT)
    ∧ (State.Live (wSpn rSlab) ∧ List.find? (fun r => decide (r.len = 0)) (wSpn rSlab).heap.reqs = some rSlab ∧ rSlab.who =
      SpinWho.cell 256 ∧ State.pickGran (wSpn rSlab) (groveOf 256) = some ((State.pickGran (wSpn rSlab) (groveOf
      256)).getD 0))
    ∧ (State.Live (wSpn (rLarge 300)) ∧ List.find? (fun r => decide (r.len ≠ 0)) (wSpn (rLarge 300)).heap.reqs = some
      (rLarge 300) ∧ (rLarge 300).who = SpinWho.cell 256 ∧ State.pickRun (wSpn (rLarge 300)) (largePages (rLarge
      300).len) = some 16 ∧ (∀ k < largePages (rLarge 300).len, State.resident (wSpn (rLarge 300)) (16 + k) = true))
    ∧ (State.Live (wSpn (rLarge 65535)) ∧ List.find? (fun r => State.unservable (wSpn (rLarge 65535)) r &&
      (State.exhaustNow (wSpn (rLarge 65535)) r || State.sweptSince (wSpn (rLarge 65535)) r)) (wSpn (rLarge
      65535)).heap.reqs = some (rLarge 65535) ∧ (rLarge 65535).who = SpinWho.cell 256 ∧ State.fld (wSpn (rLarge
      65535)) (F.ALM_SRC_CLASS aHeapExhaust) ≤ 1)
    ∧ (State.Live wPin ∧ (State.heapRead wPin (State.pinAddr wPin)).t = tHDR ∧ State.resident wPin (pageOf (State.pinAddr
      wPin)) = true) :=
  ⟨by unfold State.Live; decide +kernel,
    by unfold State.Live; decide +kernel,
    by unfold State.Live; decide +kernel,
    by unfold State.Live; decide +kernel,
    by unfold State.Live; decide +kernel⟩

theorem witness_CyclesStartAndMark :
    (State.Live wStart ∧ State.gcMay wStart = true)
    ∧ (State.Live wPeriod ∧ State.gcMay wPeriod = true ∧ State.actFld wPeriod F.SPN_GC_PERIOD_MS ≠ 0 ∧
      wPeriod.heap.lastStart + State.actFld wPeriod F.SPN_GC_PERIOD_MS * 1000000 ≤ State.now wPeriod)
    ∧ (State.Live wRoots ∧ State.gleaning wRoots Phase.roots = true ∧ (State.cell wRoots 3).placed = true ∧ (State.cell
      wRoots 3).level = Level.l0 ∧ (State.cell wRoots 3).hold = none ∧ (State.cell wRoots 3).takeable = none ∧ 3 ∉
      wRoots.heap.scanned ∧ (State.cell wRoots 3).ops = [] ∧ (State.cell wRoots 3).defer = none ∧ (State.cell wRoots
      3).early = [] ∧ (State.cell wRoots 3).slab = none)
    ∧ (State.Live wReg ∧ State.gleaning wReg Phase.roots = true ∧ (State.openRoots wReg).contains (Root.registered 16384) =
      true ∧ (Root.registered 16384 = Root.registered 16384 ∨ Root.registered 16384 = Root.obj 16384 ∨
      Root.registered 16384 = Root.vec ∧ 16384 = State.rootVec wReg) ∧ 16384 < 2 ^ 40 ∧ hdrKind (State.heapRead wReg
      16384) ≤ 4 ∧ (State.heapRead wReg 16384).colour ≠ pinned)
    ∧ (State.Live wMark ∧ State.gleaning wMark Phase.mark = true ∧ State.greyQueue wMark 0 = [16384] ∧ State.deadEntry
      wMark 16384 = false ∧ (State.heapRead wMark 16384).t = tHDR ∧ (State.heapRead wMark 16384).colour = grey ∧
      wMark.heap.condemned = [] ∧ State.resident wMark (pageOf 16384) = true ∧ (∀ k < hdrLen (State.heapRead wMark
      16384), State.resident wMark (pageOf (16384 + 1 + k)) = true ∧ (State.heapRead wMark (16384 + 1 + k)).t ≠ tFWD
      ∧ (isPtrTag (State.heapRead wMark (16384 + 1 + k)).t = true → State.resident wMark (pageOf (addrOf
      (State.heapRead wMark (16384 + 1 + k)))) = true)))
    ∧ (State.Live wSteal ∧ State.gleaning wSteal Phase.mark = true ∧ State.greyQueue wSteal 0 = [])
    ∧ (State.Live wTerm ∧ State.gleaning wTerm Phase.mark = true ∧ wTerm.heap.overflow = [] ∧ wTerm.heap.grey = [] ∧
      State.openRoots wTerm = []) :=
  ⟨by unfold State.Live; decide +kernel,
    by unfold State.Live; decide +kernel,
    by unfold State.Live; decide +kernel,
    by unfold State.Live; decide +kernel,
    by unfold State.Live; decide +kernel,
    by unfold State.Live; decide +kernel,
    by unfold State.Live; decide +kernel⟩

theorem witness_CyclesMoveAndSweep :
    (State.Live wMove ∧ State.gleaning wMove Phase.relocate = true ∧ 17 ∈ wMove.heap.condemned ∧ List.find?
      (State.movable wMove) (State.pageObjects wMove 17) = some (Found.mk 17408 2 (mkHdr black 1 1 true false)) ∧ 2 ≤
      2 ∧ wMove.heap.gslabs.find? (17 % 16) = some (64, 16384) ∧ 16384 + 2 ≤ 256 * 64 + 256 ∧ (16384 + 2 ≤ 17408 ∨
      17408 + 2 ≤ 16384) ∧ (∀ k < 2, State.resident wMove (pageOf (16384 + k)) = true ∧ State.resident wMove (pageOf
      (17408 + k)) = true))
    ∧ (State.Live wSweep ∧ State.gleaning wSweep Phase.sweep = true ∧ State.region wSweep 17 = Region.collected ∧ 17 ∉
      wSweep.heap.swept)
    ∧ (State.Live wLarge ∧ State.gleaning wLarge Phase.sweep = true ∧ State.region wLarge 16 = Region.collected ∧ 16 ∉
      wLarge.heap.swept)
    ∧ (State.Live wSel ∧ State.gleaning wSel Phase.select = true ∧ State.bit wSel F.SPN_CTL_GC_EN = false) :=
  ⟨by unfold State.Live; decide +kernel,
    by unfold State.Live; decide +kernel,
    by unfold State.Live; decide +kernel,
    by unfold State.Live; decide +kernel⟩

theorem witness_FerrymenMovePages :
    (State.Live wFry ∧ State.pageable wFry 18 = true ∧ State.resident wFry 18 = false ∧ State.fryQueue wFry (18 % 4) = []
      ∧ State.binOf wFry 18 = none ∧ (List.any wFry.heap.bins fun e => e.2.next == some 18) = false ∧ State.freeBin
      wFry 5 = some ((State.freeBin wFry 5).getD 0))
    ∧ (State.Live wIn ∧ State.fryQueue wIn 2 = [FryReq.mk 18 0 0] ∧ State.resident wIn 18 = false ∧ State.pageReady wIn 18
      = true ∧ State.binOf wIn 18 = some (2, Bin.mk 18 true false false false none) ∧ State.sidecarBad wIn 18 = false)
    ∧ ((∀ w < 1024,
       have x := AMap.get (TWord.mk 0#6 0#2 0#64) wBack.heap.words (bWait.2.page * 1024 + w);
       if x.t = tHDR then x.p < 2 ^ 62 else x.colour = 0#2) ∧ State.Live wBack ∧ State.fryQueue wBack 2 = [FryReq.mk
      18 0 0] ∧ List.find? (fun e => e.2.next == some 18) wBack.heap.bins = some bWait ∧ State.binOf wBack
      bWait.2.page = some bWait ∧ (∀ a ∈ wBack.heap.badWords, pageOf a ≠ bWait.2.page) ∧ (State.payloadAt wBack
      bWait.2.page + 8192 ≤ State.sidecarAt wBack bWait.2.page ∨ State.sidecarAt wBack bWait.2.page + 1024 ≤
      State.payloadAt wBack bWait.2.page))
    ∧ (State.Live wBins ∧ (State.cell wBins 256).pageWait = some (18432, 0) ∧ State.running wBins 256 = true ∧
      State.binsBusy wBins = true ∧ State.resident wBins (pageOf 18432) = false ∧ 0 + 20000 ≤ State.now wBins ∧
      (State.cell wBins 256).level = Level.l0 ∧ (State.cell wBins 256).ops = [] ∧ ((State.cell wBins 256).vbase.get
      Level.l1).t = tCODE ∧ State.fetchable wBins 256 ((((State.cell wBins 256).vbase.get Level.l1).p + cBINX * 64) %
      2 ^ 32) = true)
    ∧ (State.Live wFry ∧ (2147483664#32).getLsbD 31 = true ∧ State.bit wFry (F.FRY_PIN_EN 4) = false ∧ (∀ j < 32, State.bit
      wFry (F.FRY_PIN_EN j) = true → State.fld wFry (F.FRY_PIN_PAGE j) ≠ bits (2147483664#32).toNat 29 0) ∧
      State.pageable wFry (bits (2147483664#32).toNat 29 0) = true ∧ State.binOf wFry (bits (2147483664#32).toNat 29
      0) = some (0, Bin.mk 16 false false false false none)) :=
  ⟨by unfold State.Live; decide +kernel,
    by unfold State.Live; decide +kernel,
    ⟨(fun w _ => by show (0#2 : BitVec 2) = 0#2; rfl), by unfold State.Live; decide +kernel⟩,
    by unfold State.Live; decide +kernel,
    by unfold State.Live; decide +kernel⟩

theorem witness_ShepherdPlacesAndPreempts :
    ((∀ (d : ℕ), d ≠ 0 → (State.cell wPlace d).fpown ≠ State.handle wPlace 7) ∧ State.Live wPlace ∧ wPlace.cellsHeld =
      false ∧ State.topRanked wPlace (State.readyIn wPlace 0) = some 7 ∧ (State.slot wPlace 7).cls ≠ clsIdle ∧
      State.preferCell wPlace 7 (State.freeCells wPlace 0) = some 0 ∧ (State.slot wPlace 7).ctx = some 16400 ∧
      (State.cell wPlace 0).slab = none ∧ State.Loadable wPlace 0 (16400 + 155))
    ∧ (State.Live wOther ∧ wOther.cellsHeld = false ∧ State.bit wOther F.SHP_CTL_STEAL = true ∧ State.shed wOther = 0 ∧
      State.readyBusy wOther 0 = [] ∧ State.stealFrom wOther 0 = some 1 ∧ State.topRanked wOther (State.readyBusy
      wOther 1) = some 7 ∧ State.preferCell wOther 7 (State.freeCells wOther 0) = some 0)
    ∧ (State.Live wPre ∧ State.shedOut wPre 0 = none ∧ State.topRanked wPre (State.readyBusy wPre 0) = some 7 ∧
      State.lowRanked wPre (State.runningIn wPre 0) = some 115 ∧ wPre.cellsHeld = false ∧ State.freeCells wPre 0 = []
      ∧ (State.slot wPre 115).pri < (State.slot wPre 7).pri ∧ (State.slot wPre 115).cell = some 15 ∧ (State.cell wPre
      15).sprig = some 115 ∧ (State.cell wPre 15).level = Level.l0 ∧ (State.cell wPre 15).hold = none ∧ (State.cell
      wPre 15).ops = [] ∧ (State.cell wPre 15).defer = none ∧ (State.slot wPre 115).ctx.isSome = true)
    ∧ (State.Live wSlice ∧ (State.slot wSlice 103).placedAt + (State.slot wSlice 103).slice * 1000 ≤ State.now wSlice ∧
      (State.slot wSlice 103).cls ≠ clsDeadline ∧ 7 ∈ State.readyIn wSlice (State.slot wSlice 103).grove ∧ lexLt
      (rankClass (State.slot wSlice 103)) (rankClass (State.slot wSlice 7)) = false ∧ (State.cell wSlice 3).sprig =
      some 103 ∧ (State.cell wSlice 3).level = Level.l0 ∧ (State.cell wSlice 3).hold = none ∧ (State.cell wSlice
      3).ops = [] ∧ (State.cell wSlice 3).defer = none)
    ∧ (State.Live wDead ∧ (State.slot wDead 7).deadline = some 0 ∧ (State.slot wDead 7).state.live = true ∧ (State.slot
      wDead 7).missed = false ∧ 0 ≤ State.now wDead ∧ (State.slot wDead 7).gen < 4096 ∧ State.bit wDead
      F.SHP_CTL_DLIRQ = false ∧ State.fld wDead F.SHP_DLMISS_CNT_COUNT < 2 ^ 32 - 2)
    ∧ (State.Live wApply ∧ wApply.evr.flights = [fApply] ∧ fApply.ring = 2 ∧ fApply.op = 6 ∧ fApply.field 8 1 = 0 ∧
      fApply.wait = FlightWait.apply [] [] 0 true false ∧ allHeld wApply [] = true) :=
  ⟨⟨(fun d _ => by rw [fpown_of_reset (s := wPlace) rfl d]; decide), by unfold State.Live State.Loadable; decide +kernel⟩,
    by unfold State.Live; decide +kernel,
    by unfold State.Live; decide +kernel,
    by unfold State.Live; decide +kernel,
    by unfold State.Live; decide +kernel,
    by unfold State.Live; decide +kernel⟩

theorem witness_EpochsResolveInOrder :
    ((∀ (l : ℕ), 1 ≤ l → l ≤ 7 → State.frozen (wEp (EpochReq.mk false 1 none)) l = true) ∧ State.Live (wEp (EpochReq.mk
      false 1 none)) ∧ (wEp (EpochReq.mk false 1 none)).shep.reqs = [EpochReq.mk false 1 none] ∧ State.epochOpen (wEp
      (EpochReq.mk false 1 none)) 1 = true ∧ 1 ≠ 0 ∧ State.parentOf (wEp (EpochReq.mk false 1 none)) 1 ≠ 1 ∧ (wEp
      (EpochReq.mk false 1 none)).shep.leavingIvory = false ∧ State.portBusy (wEp (EpochReq.mk false 1 none)) 1 =
      false ∧ (wEp (EpochReq.mk false 1 none)).tally.reports = [])
    ∧ ((∀ (l : ℕ), 1 ≤ l → l ≤ 7 → State.frozen (wEp (EpochReq.mk true 1 none)) l = true) ∧ State.Live (wEp (EpochReq.mk
      true 1 none)) ∧ (wEp (EpochReq.mk true 1 none)).shep.reqs = [EpochReq.mk true 1 none] ∧ State.epochOpen (wEp
      (EpochReq.mk true 1 none)) 1 = true ∧ 1 ≠ 0 ∧ State.squashList (wEp (EpochReq.mk true 1 none)) 1 = [1] ∧
      State.portBusy (wEp (EpochReq.mk true 1 none)) 1 = false ∧ (wEp (EpochReq.mk true 1 none)).tally.reports = [] ∧
      (State.slotsOf (wEp (EpochReq.mk true 1 none)) 1).Nodup ∧ (∀ n ∈ State.slotsOf (wEp (EpochReq.mk true 1 none))
      1, (State.slot (wEp (EpochReq.mk true 1 none)) n).cell = none))
    ∧ (State.Live wLog ∧ wLog.shep.writeback = [LogEntry.mk 0 16385 nil (fix 4)] ∧ State.resident wLog (pageOf 16385) =
      true ∧ wLog.heap.phase = Phase.idle) :=
  ⟨⟨(by intro l h1 h2; interval_cases l <;> decide +kernel), by unfold State.Live; decide +kernel⟩,
    ⟨(by intro l h1 h2; interval_cases l <;> decide +kernel), by unfold State.Live; decide +kernel⟩,
    by unfold State.Live; decide +kernel⟩

theorem witness_TallyTakesAndAudits :
    (State.Live wRep ∧ wRep.tally.reports = [Report.mk 3 0 [(0, -1)]] ∧ 3 < 5 ∧ 0 < 16 ∧ 0 < 2 ^ 16 ∧ State.ledgerBuilt
      wRep 3 0 = true ∧ 0 ≤ (↑(wRep.tally.term 3 0 0) : ℤ) + -1)
    ∧ (State.Live wAud ∧ wAud.tally.lastAudit + State.actFld wAud F.TAL_AUDIT_MS * 1000000 ≤ State.now wAud ∧
      wAud.tally.reports = [] ∧ (∀ l ∈ State.auditable wAud, auditLedger wAud l = none) ∧ State.bit wAud
      F.TAL_CTL_AUDIRQ = false) :=
  ⟨by unfold State.Live; decide +kernel,
    by unfold State.Live; decide +kernel⟩

end OfHeap

namespace OfRings

def desc (op : Nat) (l : List (Nat × Nat × Nat)) : List Byte :=
  l.foldl (fun b e => b.take e.1 ++ leBytes e.2.1 e.2.2 ++ b.drop (e.1 + e.2.1)) (leBytes 64 op)

def cmd (op : Nat) (l : List (Nat × Nat × Nat)) (w : FlightWait) : Flight :=
  ⟨2, 0, op, false, 0x77, desc op l, 1, w⟩

/-- Ring 2 enabled with 16 entries, the link up, the gates open, a service sprig, an inbox and a signal table. -/
def evr (fs : List Flight) (s : State) : State :=
  regs [(F.PLT_PCIE_CTL_LINKUP, 1), (F.GKP_STATUS_GATED, 0), (F.EVR_MBOX_L_ADDR_L, 0x100), (F.EVR_CBASE_L_ADDR 2, 0x800),
    (F.EVR_ABASE_L_ADDR 2, 0x1800), (F.EVR_RCTL_EN 2, 1), (F.EVR_RCTL_K 2, 4), (F.EVR_CREDIT_CREDIT 2, 16),
    (F.EVR_INBOX_L_ADDR_L, 16384), (F.EVR_SIGTAB_L_ADDR_L, 16500), (F.EVR_SVC_HANDLE, (sprgW 5 1).p)]
    { s with
      mode := .ivory
      evr := { s.evr with
        rings := [(2, { CmdRing.reset with active := true, ci := 1, pi := 3 })]
        flights := fs
        order := 9 } }

def wEvr (fs : List Flight) : State :=
  evr fs (sprigged id (heapOf [(16384, mkHdr black 16 1 true false), (16395, nil), (16500, mkHdr black 4 1 true false)] w0))

def wDesc : State := { wEvr [] with host := Memory.writeN 0#8 [] 0x20040 (desc 0 [(2, 2, 0x77)]) }

def wBadDesc : State := { wEvr [] with host := Memory.writeN 0#8 [] 0x20040 (desc 0 [(4, 1, 1)]) }

def wEvt : State :=
  regs [(F.EVR_ECTL_EN, 1), (F.EVR_LCTL_EN, 1)] { wEvr [] with
    evr := { (wEvr []).evr with evt := ⟨7, 3, 2, true⟩, log := ⟨6, 1, 1, true⟩ } }

def wDrain : State :=
  { wEvr [] with
    evr := { (wEvr []).evr with rings := [(2, { CmdRing.reset with active := true, draining := true })] } }

def wLink : State := regs [(F.PLT_PCIE_CTL_LINKEN, 1)] w0

def wUp : State :=
  regs [(F.PLT_PCIE_CTL_LINKUP, 1), (F.EVR_MBOX_L_ADDR_L, 0x100), (F.ALM_SRC_CLASS aPcieDown, 0)] w0

def cf (op : Nat) (l : List (Nat × Nat × Nat)) : Flight := cmd op l .todo

def wf (op : Nat) (l : List (Nat × Nat × Nat)) : State := wEvr [cf op l]

def wTrial : State := regs [(F.GKP_BOOT_TRIAL, 1)] (wf 8 [])

def fImg : Flight := cf 7 [(8, 1, 1), (16, 8, 0x60000), (24, 4, 256)]

def wImg : State :=
  { wEvr [fImg] with gkp := { Gkp.reset with keys := (List.range 16).map fun n => (n, .bytes []) } }

def wStaged : State := (wf 6 []).modRing 2 fun r => { r with staged := [⟨0x4024, 9#32⟩] }

def fScene (w : FlightWait) : Flight := cmd 2 [(8, 8, 0x40000), (16, 4, 2), (20, 4, 0)] w

def graph : List Byte := leBytes 8 (mkHdr 0 1 1 false false).p ++ leBytes 8 tHDR ++ leBytes 8 5 ++ leBytes 8 tFIX

def wScene : State :=
  { wEvr [fScene .spin] with
    host := Memory.writeN 0#8 [] 0x40000 graph
    heap := { (wEvr []).heap with answers := [(1, .large 17408 1023)] } }

def wCopied : State := wEvr [fScene (.copied 17408 17408)]

def fIn : Flight := fScene (.inbox 0)

def wIn : State :=
  { wEvr [fIn] with
    heap := { (wEvr []).heap with
      words := [(16384, mkHdr black 16 1 true false), (16395, fix 0x500), (16396, fix 1), (16397, fix 2), (16398, fix 3)] } }

def pict : List (Nat × Nat × Nat) :=
  [(16, 8, 0x50000), (24, 2, 1), (26, 2, 1), (28, 4, 64), (32, 2, 33), (34, 2, 0)]

def wPict : State :=
  regs [(F.PNT_POOL_TILES_COUNT, 64), (F.PNT_POOL_RSV_COUNT, 2)] { wf 3 pict with
    host := Memory.writeN 0#8 [] 0x50000 [4#8, 5#8, 6#8, 255#8] }

def fCopy : Flight := cmd 3 pict (.picture [(posKey 0 (1, 0), 2)])

theorem witness_RingsDoorbellsAndLink :
    (State.Live (wEvr []) ∧ (State.ring (wEvr []) 2).active = true ∧ (State.ring (wEvr []) 2).draining = false ∧ idxSub
      (10#16).toNat (State.ring (wEvr []) 2).aci ≤ State.credit (wEvr []) 2 ∧ idxSub (10#16).toNat (State.ring (wEvr
      []) 2).pi < 2 ^ 15)
    ∧ (State.Live (wEvr []) ∧ (State.ring (wEvr []) 2).active = true ∧ (State.ring (wEvr []) 2).draining = false ∧
      State.credit (wEvr []) 2 < idxSub (17#16).toNat (State.ring (wEvr []) 2).aci)
    ∧ (State.Live (wEvr []) ∧ (State.ring (wEvr []) 2).active = true ∧ (State.ring (wEvr []) 2).draining = false ∧ idxSub
      (0#16).toNat (State.ring (wEvr []) 2).aci ≤ idxSub (State.ring (wEvr []) 2).aw (State.ring (wEvr []) 2).aci)
    ∧ (State.Live wEvt ∧ State.bit wEvt F.EVR_ECTL_EN = true ∧ idxSub (5#16).toNat wEvt.evr.evt.lastCi ≤ idxSub
      wEvt.evr.evt.pi wEvt.evr.evt.lastCi)
    ∧ (State.Live wEvt ∧ State.bit wEvt F.EVR_LCTL_EN = true ∧ idxSub (5#16).toNat wEvt.evr.log.lastCi ≤ idxSub
      wEvt.evr.log.pi wEvt.evr.log.lastCi)
    ∧ (State.Live wDesc ∧ State.ringOn wDesc 2 = true ∧ (State.ring wDesc 2).pi ≠ (State.ring wDesc 2).ci ∧ State.Answering
      wDesc 2 ∧ (∀ f ∈ wDesc.evr.flights, ¬(f.ring = 2 ∧ f.op = 12)))
    ∧ (State.Live wBadDesc ∧ State.ringOn wBadDesc 2 = true ∧ (State.ring wBadDesc 2).pi ≠ (State.ring wBadDesc 2).ci ∧
      State.Answering wBadDesc 2 ∧ (∀ f ∈ wBadDesc.evr.flights, ¬(f.ring = 2 ∧ f.op = 12)))
    ∧ (State.Live w0 ∧ (State.ring w0 2).active = false ∧ 4 ≤ 4 ∧ 4 ≤ 16)
    ∧ (State.Live (wEvr []) ∧ State.ringOn (wEvr []) 2 = true ∧ State.bit (wEvr []) (F.EVR_RCTL_EN 2) = true ∧ (∀ f ∈ (wEvr
      []).evr.flights, f.ring ≠ 2))
    ∧ (State.Live wDrain ∧ (State.ring wDrain 2).draining = true ∧ (∀ f ∈ wDrain.evr.flights, f.ring ≠ 2))
    ∧ (State.Live wLink ∧ State.bit wLink F.PLT_PCIE_CTL_LINKEN = true ∧ wLink.mode ≠ Mode.sable ∧ wLink.mode ≠ Mode.umber)
    ∧ ((∀ (n : ℕ), (State.ring wUp n).active = false) ∧ State.Live wUp ∧ wUp.evr.flights = [])
    ∧ ((∀ (n : ℕ), (State.ring wUp n).active = false) ∧ State.Live wUp ∧ wUp.evr.flights = [] ∧ State.bit wUp
      F.PLT_PCIE_CTL_LINKUP = true ∧ State.fld wUp (F.ALM_SRC_CLASS aPcieDown) = 0) :=
  ⟨by unfold State.Live; decide +kernel,
    by unfold State.Live; decide +kernel,
    by unfold State.Live; decide +kernel,
    by unfold State.Live; decide +kernel,
    by unfold State.Live; decide +kernel,
    by unfold State.Live State.Answering; decide +kernel,
    by unfold State.Live State.Answering; decide +kernel,
    by unfold State.Live; decide +kernel,
    by unfold State.Live; decide +kernel,
    by unfold State.Live; decide +kernel,
    by unfold State.Live; decide +kernel,
    ⟨(by intro n; rfl), by unfold State.Live; decide +kernel⟩,
    ⟨(by intro n; rfl), by unfold State.Live; decide +kernel⟩⟩

theorem witness_RingCommandsAnsweredAtOnce :
    (State.Live (wf 0 []) ∧ State.Answering (wf 0 []) 2 ∧ State.todo (wf 0 []) 2 0 = some (cf 0 []))
    ∧ (State.Live (wf 12 []) ∧ State.Answering (wf 12 []) 2 ∧ State.todo (wf 12 []) 2 12 = some (cf 12 []) ∧ (∀ g ∈ (wf 12
      []).evr.flights, (cf 12 []).field 8 1 = 1 ∨ g.ring = 2 → (cf 12 []).order ≤ g.order))
    ∧ (State.Live (wf 11 []) ∧ State.Answering (wf 11 []) 2 ∧ State.todo (wf 11 []) 2 11 = some (cf 11 []) ∧ (wf 11
      []).lamps.records = [])
    ∧ (State.Live (wf 9 []) ∧ State.Answering (wf 9 []) 2 ∧ State.todo (wf 9 []) 2 9 = some (cf 9 []) ∧ (cf 9 []).field 8 1
      = 0)
    ∧ (State.Live (wf 9 [(8, 1, 3)]) ∧ State.Answering (wf 9 [(8, 1, 3)]) 2 ∧ State.todo (wf 9 [(8, 1, 3)]) 2 9 = some (cf
      9 [(8, 1, 3)]) ∧ (cf 9 [(8, 1, 3)]).field 8 1 = 3)
    ∧ (State.Live (wf 5 [(8, 1, 1), (16, 4, 12304), (20, 4, 9)]) ∧ State.Answering (wf 5 [(8, 1, 1), (16, 4, 12304), (20,
      4, 9)]) 2 ∧ State.todo (wf 5 [(8, 1, 1), (16, 4, 12304), (20, 4, 9)]) 2 5 = some (cf 5 [(8, 1, 1), (16, 4,
      12304), (20, 4, 9)]) ∧ (∀ j < (cf 5 [(8, 1, 1), (16, 4, 12304), (20, 4, 9)]).field 8 1, hostMayWrite ((cf 5
      [(8, 1, 1), (16, 4, 12304), (20, 4, 9)]).field (16 + 8 * j) 4) = true) ∧ (State.ring (wf 5 [(8, 1, 1), (16, 4,
      12304), (20, 4, 9)]) 2).staged.length + (cf 5 [(8, 1, 1), (16, 4, 12304), (20, 4, 9)]).field 8 1 ≤ 256)
    ∧ (State.Live (wf 1 [(8, 1, 1), (16, 2, 3), (20, 4, 4294967295)]) ∧ State.Answering (wf 1 [(8, 1, 1), (16, 2, 3), (20,
      4, 4294967295)]) 2 ∧ State.todo (wf 1 [(8, 1, 1), (16, 2, 3), (20, 4, 4294967295)]) 2 1 = some (cf 1 [(8, 1,
      1), (16, 2, 3), (20, 4, 4294967295)]) ∧ (cf 1 [(8, 1, 1), (16, 2, 3), (20, 4, 4294967295)]).field 8 1 = 1 ∧ (cf
      1 [(8, 1, 1), (16, 2, 3), (20, 4, 4294967295)]).field 16 2 < State.vecLen (wf 1 [(8, 1, 1), (16, 2, 3), (20, 4,
      4294967295)]) (State.sigtab (wf 1 [(8, 1, 1), (16, 2, 3), (20, 4, 4294967295)])) ∧ (wf 1 [(8, 1, 1), (16, 2,
      3), (20, 4, 4294967295)]).heap.phase = Phase.idle ∧ State.resident (wf 1 [(8, 1, 1), (16, 2, 3), (20, 4,
      4294967295)]) (pageOf (State.sigtab (wf 1 [(8, 1, 1), (16, 2, 3), (20, 4, 4294967295)]) + 1 + (cf 1 [(8, 1, 1),
      (16, 2, 3), (20, 4, 4294967295)]).field 16 2)) = true ∧ State.liveHandle (wf 1 [(8, 1, 1), (16, 2, 3), (20, 4,
      4294967295)]) (State.svc (wf 1 [(8, 1, 1), (16, 2, 3), (20, 4, 4294967295)])) = true)
    ∧ (State.Live wTrial ∧ State.Answering wTrial 2 ∧ State.todo wTrial 2 8 = some (cf 8 []) ∧ State.bit wTrial
      F.GKP_BOOT_TRIAL = true ∧ wTrial.gkp.confirmed = false) :=
  ⟨by unfold State.Live State.Answering; decide +kernel,
    by unfold State.Live State.Answering; decide +kernel,
    by unfold State.Live State.Answering; decide +kernel,
    by unfold State.Live State.Answering; decide +kernel,
    by unfold State.Live State.Answering; decide +kernel,
    by unfold State.Live State.Answering; decide +kernel,
    by unfold State.Live State.Answering; decide +kernel,
    by unfold State.Live State.Answering; decide +kernel⟩

theorem witness_RingCommandsThatWait :
    (State.Live (wf 4 [(8, 4, 5), (12, 4, 2)]) ∧ State.todo (wf 4 [(8, 4, 5), (12, 4, 2)]) 2 4 = some (cf 4 [(8, 4, 5),
      (12, 4, 2)]))
    ∧ (State.Live (wf 10 []) ∧ State.todo (wf 10 []) 2 10 = some (cf 10 []))
    ∧ (State.Live wStaged ∧ State.todo wStaged 2 6 = some (cf 6 []) ∧ (cf 6 []).field 11 1 ≠ 1 ∧ (cf 6 []).field 10 1 = 0 ∧
      (State.ring wStaged 2).staged ≠ [])
    ∧ (State.Live wImg ∧ State.todo wImg 2 7 = some fImg ∧ fImg.field 8 1 = 1 ∧ (∀ g ∈ wImg.evr.flights, g.op = 7 → g.wait
      ≠ FlightWait.image) ∧ State.bit wImg F.GKP_STATUS_BUSY = false ∧ State.gkpRefusal wImg 13 0 = none)
    ∧ (State.Live (wEvr [fScene FlightWait.todo]) ∧ List.find? (fun g => g.ring == 2 && g.op == 2 && (g.wait ==
      FlightWait.todo || g.wait == FlightWait.spin)) (wEvr [fScene FlightWait.todo]).evr.flights = some (fScene
      FlightWait.todo) ∧ (fScene FlightWait.todo).wait = FlightWait.todo)
    ∧ (State.Live wScene ∧ List.find? (fun g => g.ring == 2 && g.op == 2 && (g.wait == FlightWait.todo || g.wait ==
      FlightWait.spin)) wScene.evr.flights = some (fScene FlightWait.spin) ∧ (fScene FlightWait.spin).wait =
      FlightWait.spin ∧ wScene.heap.answers.find? (fScene FlightWait.spin).order = some (SpinAnswer.large 17408 1023)
      ∧ graphCheck wScene ((fScene FlightWait.spin).field 8 8) ((fScene FlightWait.spin).field 16 4) ((fScene
      FlightWait.spin).field 20 4) ((fScene FlightWait.spin).field 16 4) 0 0 = none ∧ (∀ w < 1024 * (((fScene
      FlightWait.spin).field 16 4 + 1023) / 1024), State.resident wScene (pageOf (17408 + w)) = true))
    ∧ (State.Live wCopied ∧ (List.find?
         (fun g =>
           g.ring == 2 &&
             match g.wait with
             | FlightWait.copied _ _ => true
             | _ => false)
         wCopied.evr.flights =
       some (fScene (FlightWait.copied 17408 17408))) ∧ (fScene (FlightWait.copied 17408 17408)).wait =
      FlightWait.copied 17408 17408 ∧ State.liveHandle wCopied (State.svc wCopied) = true ∧ List.find? (fun r =>
      (State.elem wCopied (State.inbox wCopied) (16 * r + 10)).t == tNIL) (List.range (State.vecLen wCopied
      (State.inbox wCopied) / 16)) = some 0 ∧ wCopied.heap.phase = Phase.idle ∧ State.bit wCopied F.SPN_CTL_GC_EN =
      false ∧ (∀ i < 16, State.resident wCopied (pageOf (State.inbox wCopied + 1 + (16 * 0 + i))) = true))
    ∧ (State.Live wIn ∧ List.find? (fun g => g.wait == FlightWait.inbox 0) wIn.evr.flights = some fIn ∧ State.Answering wIn
      fIn.ring ∧ fIn.ring < 16 ∧ (State.elem wIn (State.inbox wIn) (16 * 0 + 10)).t = tFIX ∧ (State.elem wIn
      (State.inbox wIn) (16 * 0 + 10)).p % 256 ≤ 13 ∧ State.resident wIn (pageOf (State.inbox wIn + 1 + (16 * 0 +
      10))) = true)
    ∧ (State.Live wPict ∧ List.find? (fun g => g.ring == 2 && g.op == 3) wPict.evr.flights = some (cf 3 pict) ∧ (cf 3
      pict).wait = FlightWait.todo ∧ picturePlaces (cf 3 pict) = [(1, 0)] ∧ State.freeTile wPict = some 2)
    ∧ (State.Live (wEvr [fCopy]) ∧ (List.find?
         (fun g =>
           g.ring == 2 &&
             match g.wait with
             | FlightWait.picture _ => true
             | _ => false)
         (wEvr [fCopy]).evr.flights =
       some fCopy) ∧ fCopy.wait = FlightWait.picture [(posKey 0 (1, 0), 2)] ∧ [(posKey 0 (1, 0), 2)].length =
      (picturePlaces fCopy).length ∧ fCopy.field 8 1 < 2 ∧ ((wEvr [fCopy]).pic.out (fCopy.field 8 1)).guestNext =
      none ∧ State.Answering (wEvr [fCopy]) 2) :=
  ⟨by unfold State.Live; decide +kernel,
    by unfold State.Live; decide +kernel,
    by unfold State.Live; decide +kernel,
    by unfold State.Live; decide +kernel,
    by unfold State.Live; decide +kernel,
    by unfold State.Live; decide +kernel,
    by unfold State.Live; decide +kernel,
    by unfold State.Live State.Answering; decide +kernel,
    by unfold State.Live; decide +kernel,
    by unfold State.Live State.Answering; decide +kernel⟩

end OfRings

namespace OfPicture

/-- Output 0 on with a frame of 640 by 480, the Painters on with 62 tiles, and job 17408 of one tile in port 0. -/
def wPic : State :=
  regs [(F.PNT_CTL_EN, 1), (F.PNT_POOL_TILES_COUNT, 64), (F.PNT_POOL_RSV_COUNT, 2), (F.MIR_CTL_EN 0, 1),
    (F.MIR_HTIMA_HACT 0, 640), (F.MIR_VTIMA_VACT 0, 480)]
    (heapOf [(16384, mkHdr pinned 255 1 true false), (16385, fix 0), (16386, fix 0), (16387, ptrTo 1 17408),
      (17408, mkHdr black 6 1 true false), (17409, fix 0), (17410, fix 0), (17411, ptrTo 1 17420),
      (17412, mkN tRGBA 0xFF0000FF), (17413, nil), (17414, fix 9), (17420, mkHdr black 0 1 true false)] w0)

def wJob : Job :=
  ⟨0, 0, 0, 17408, 0, 0, 0, 0, 0, 0, ptrTo 1 17420, mkN tRGBA 0xFF0000FF, nil, 1, [(0, 2)], [], [], false⟩

def newJob : Job :=
  ⟨0, 0, 0, 17408, 0, 0, 0, 0, 0, 0, ptrTo 1 17420, mkN tRGBA 0xFF0000FF, nil, 0, [], [], [], false⟩

def wTile : State := { wPic with pic := { Pic.reset with jobs := [wJob], work := [(3, ⟨0, 0⟩)], used := [(2, 0)] } }

def painted : List Byte := (List.replicate 1024 (rgba (mkN tRGBA 0xFF0000FF)).premul).flatMap Px.bytes

def wShow : State := regs [(F.MIR_STATUS_LINKUP 0, 1), (F.MIR_CTL_PLANES 0, 5)] wPic

def wMir : State :=
  regs [(F.MIR_HTIMA_HACT 0, 1280), (F.MIR_HTIMA_HFP 0, 48), (F.MIR_HTIMB_HSYNC 0, 32), (F.MIR_HTIMB_HBP 0, 80),
    (F.MIR_VTIMA_VACT 0, 720), (F.MIR_VTIMA_VFP 0, 3), (F.MIR_VTIMB_VSYNC 0, 5), (F.MIR_VTIMB_VBP 0, 13),
    (F.MIR_PCLK_KHZ 0, 64000), (F.MIR_LINK_LANES 0, 2), (F.MIR_LINK_RATE 0, 1)] w0

def wTrain : State := { wPic with pic := { Pic.reset with outA := { Output.reset with training := true } } }

def wDcs (on : Nat) : State := regs [(F.MIR_CTL_EN 1, on), (F.MIR_DCS_CMD_DT, 5), (F.MIR_DCS_CMD_LEN, 2)] w0

def wSent : State := regs [(F.MIR_DCS_CMD_BUSY, 1)] (wDcs 1)

def wUnder : State := regs [(F.ALM_SRC_CLASS aMirUnderrun, 1)] wPic

/-- A lamp book of one lamp and one glyph of one pixel. -/
def book (flags minon bulb : Nat) : List Byte :=
  leBytes 4 0x314B424C ++ leBytes 2 1 ++ leBytes 2 1 ++ leBytes 2 bulb ++ leBytes 2 0 ++ leBytes 4 1
    ++ leBytes 112 0 ++ leBytes 4 0 ++ leBytes 2 0 ++ leBytes 2 flags ++ leBytes 8 0x2000 ++ leBytes 2 minon
    ++ leBytes 6 0 ++ leBytes 4 0 ++ leBytes 20 0 ++ leBytes 65 0

def lampOf (flags minon bulb : Nat) : State :=
  { w0 with lamps := { Lamps.reset with store := Memory.writeN 0#8 [] 0 (book flags minon bulb) } }

def wCheck (flags : Nat) : State :=
  regs [(F.ALM_SRC_CLASS aLmpBook, 3)] { lampOf flags 0 0 with
    lamps := { (lampOf flags 0 0).lamps with checking := true } }

def wArmed (bulb : Bool) : State :=
  regs [(F.LMP_CTL_ARM, 1), (F.LMP_HFLAG_HF, 1)] { lampOf 2 20 9 with
    lamps := { (lampOf 2 20 9).lamps with armed := true, bulb := bulb, changed := true, lamps := [(0, ⟨.hold, 0⟩)] }
    time := { Timebase.reset with ns := 30000000#64 } }

def wLed : State :=
  regs [(F.LMP_LEDMAP_MODE 2, 2), (F.LMP_LEDON_ON, 4), (F.LMP_LEDCFG_SHORTV, 7), (F.ALM_SRC_CLASS aLedFault, 1)] (wArmed false)

def wWit : State :=
  regs [(F.WIT_CTL_EN, 1), (F.MIR_CTL_EN 0, 1), (F.MIR_HTIMA_HACT 0, 640), (F.MIR_VTIMA_VACT 0, 480),
    (F.ALM_SRC_CLASS aWitStest, 3), (F.WIT_PROVEN_LO_PROVEN, 1), (F.VIO_CAN_CTL_EN 1, 1)]
    { wArmed false with
      lamps := { (wArmed false).lamps with samples := [(0, ⟨true, true⟩)] }
      gkp := { Gkp.reset with keys := [(2, .bytes (leBytes 16 7))] } }

def wProof : State := { wWit with act := [(0x9000, 3#32), (0x9004, 10#32), (0x900C, 1#32)] }

theorem witness_PaintersAndOutputs :
    (State.Live wPic ∧ State.bit wPic F.PNT_CTL_EN = true ∧ wPic.heap.built = true ∧ State.elem wPic (State.port wPic 0)
      1 = fix (↑0 : ℤ) ∧ 0 < 2 ^ 60 ∧ (State.elem wPic (State.port wPic 0) (2 + 0 % 128)).t = tVEC ∧ State.resident
      wPic (pageOf (State.port wPic 0 + 1 + (2 + 0 % 128))) = true ∧ State.resident wPic (pageOf (State.port wPic 0 +
      1 + 1)) = true ∧ readJob ((State.setElem wPic (State.port wPic 0) (2 + 0 % 128) nil).setElem (State.port wPic
      0) 1 (fix (↑(0 + 1) : ℤ))) 0 (State.elem wPic (State.port wPic 0) (2 + 0 % 128)) = Except.ok newJob)
    ∧ (paintTile (State.setPic wTile fun q => Pic.mk q.jobs q.order (q.work.erase 3) q.used q.turn q.held q.outA q.outB)
      wJob.list wJob.fill (wJob.place 0).1 (wJob.place 0).2 = Except.ok painted ∧ State.Live wTile ∧
      wTile.pic.work.find? 3 = some (PaintWork.mk 0 0) ∧ State.job wTile 0 = some wJob ∧ wJob.tiles.find? 0 = some 2
      ∧ wJob.done.length + 1 = wJob.positions ∧ State.resident wTile (pageOf (wJob.addr + 1 + 5)) = true)
    ∧ (State.Live wShow ∧ State.bit wShow (F.MIR_CTL_EN 0) = true ∧ State.bit wShow (F.MIR_STATUS_LINKUP 0) = true ∧
      wShow.evr.flights = [] ∧ State.pair wShow (24624 + 256 * 0) + 1 < 2 ^ 64)
    ∧ (State.Live wUnder ∧ State.bit wUnder (F.MIR_CTL_EN 0) = true ∧ State.fld wUnder (F.ALM_SRC_CLASS aMirUnderrun) ≤ 1)
    ∧ (State.Live wMir ∧ State.bit wMir (F.MIR_CTL_EN 0) = false ∧ State.outputOk wMir 0 = true)
    ∧ (State.Live wPic ∧ State.bit wPic (F.MIR_CTL_EN 0) = true)
    ∧ (State.Live wTrain ∧ State.bit wTrain (F.MIR_CTL_EN 0) = true ∧ (wTrain.pic.out 0).training = true)
    ∧ (State.Live (wDcs 0) ∧ State.bit (wDcs 0) F.MIR_DCS_CMD_BUSY = false ∧ State.fld (wDcs 0) F.MIR_DCS_CMD_DT ≠ 0 ∧
      State.fld (wDcs 0) F.MIR_DCS_CMD_LEN ≠ 0)
    ∧ (State.Live (wDcs 1) ∧ State.bit (wDcs 1) F.MIR_DCS_CMD_BUSY = false ∧ State.fld (wDcs 1) F.MIR_DCS_CMD_DT ≠ 0 ∧
      State.fld (wDcs 1) F.MIR_DCS_CMD_LEN ≠ 0)
    ∧ (State.Live wSent ∧ State.bit wSent F.MIR_DCS_CMD_BUSY = true) :=
  ⟨by unfold State.Live; decide +kernel,
    ⟨(by rfl), by unfold State.Live; decide +kernel⟩,
    by unfold State.Live; decide +kernel,
    by unfold State.Live; decide +kernel,
    by unfold State.Live; decide +kernel,
    by unfold State.Live; decide +kernel,
    by unfold State.Live; decide +kernel,
    by unfold State.Live; decide +kernel,
    by unfold State.Live; decide +kernel,
    by unfold State.Live; decide +kernel⟩

theorem witness_LampEngine :
    (State.Live w0 ∧ State.bit w0 F.LMP_CTL_ARM = false ∧ BitVec.toNat (State.reg w0 32832) < 307200)
    ∧ (State.Live w0 ∧ State.bit w0 F.LMP_CTL_ARM = false)
    ∧ ((∀ (k : ℕ), 1 ≤ k → k ≤ 8 → State.bookPasses (wCheck 0) k = true) ∧ State.Live (wCheck 0) ∧ (wCheck
      0).lamps.checking = true)
    ∧ (State.Live (wCheck 128) ∧ (wCheck 128).lamps.checking = true ∧ List.find? (fun k => !State.bookPasses (wCheck 128)
      k) (range' 1 8) = some 1 ∧ (wCheck 128).mode = Mode.ochre ∧ State.fld (wCheck 128) (F.ALM_SRC_CLASS aLmpBook) =
      3)
    ∧ (State.Live (wArmed false) ∧ (wArmed false).lamps.armed = true)
    ∧ (State.Live (wArmed false) ∧ (wArmed false).lamps.armed = true ∧ (State.lamp (wArmed false) 0).st = LampState.hold ∧
      (State.lamp (wArmed false) 0).ta + (State.lampRec (wArmed false) 0).minon * 1000000 ≤ State.now (wArmed false))
    ∧ (State.Live (wArmed true) ∧ (wArmed true).lamps.bulb = true ∧ (wArmed true).lamps.armed = true ∧ (wArmed
      true).lamps.armAt + State.bulbMs (wArmed true) * 1000000 ≤ State.now (wArmed true))
    ∧ (State.Live (wArmed true) ∧ AMap.get 0 (wArmed true).vio.rawAt 5 + State.debounceNs (wArmed true) 5 ≤ State.now
      (wArmed true))
    ∧ State.Live w0
    ∧ State.Live wLed
    ∧ (State.Live wLed ∧ wLed.lamps.armed = true ∧ State.fld wLed (F.LMP_LEDMAP_MODE 2) ≠ 0 ∧ (State.fld wLed
      F.LMP_LEDON_ON).testBit 2 = true ∧ 5 ≤ State.fld wLed F.LMP_LEDCFG_SHORTV ∧ State.fld wLed (F.ALM_SRC_CLASS
      aLedFault) ≤ 1) :=
  ⟨by unfold State.Live; decide +kernel,
    by unfold State.Live; decide +kernel,
    ⟨(by intro k h1 h2; interval_cases k <;> decide +kernel), by unfold State.Live; decide +kernel⟩,
    by unfold State.Live; decide +kernel,
    by unfold State.Live; decide +kernel,
    by unfold State.Live; decide +kernel,
    by unfold State.Live; decide +kernel,
    by unfold State.Live; decide +kernel,
    by unfold State.Live; decide +kernel,
    by unfold State.Live; decide +kernel,
    by unfold State.Live; decide +kernel⟩

theorem witness_Witness :
    (State.Live wWit ∧ wWit.lamps.armed = true ∧ State.lampPresent wWit 0 = true ∧ State.boxVisible wWit (State.lampRec
      wWit 0) = true)
    ∧ (State.Live wWit ∧ wWit.lamps.armed = true ∧ State.lampPresent wWit 0 = true ∧ wWit.lamps.samples.find? 0 = some
      (Sample.mk true true) ∧ State.bit wWit F.WIT_CTL_EN = true)
    ∧ ((∀ (t : ℕ), wWit.lamps.compared.find? 0 = some t → t + State.twoFrames wWit (State.lampRec wWit 0).out < State.now
      wWit) ∧ State.Live wWit ∧ wWit.lamps.armed = true ∧ State.lampPresent wWit 0 = true)
    ∧ (State.Live wWit ∧ State.witRuns wWit = true ∧ State.bit wWit (F.MIR_CTL_EN 0) = true ∧ 1#32 ≠ 0#32 ∧ wWit.mode =
      Mode.ochre ∧ State.fld wWit (F.ALM_SRC_CLASS aWitStest) = 3 ∧ State.actBit wWit F.WIT_CTL_CANEN = false)
    ∧ (State.Live wProof ∧ State.witRuns wProof = true ∧ State.actBit wProof F.WIT_CTL_CANEN = true ∧ State.now wProof %
      (State.actFld wProof F.WIT_PERIOD_MS * 1000000) < 10 ∧ (∀ (t : ℕ), wProof.lamps.lastProof = some t → t /
      (State.actFld wProof F.WIT_PERIOD_MS * 1000000) < State.now wProof / (State.actFld wProof F.WIT_PERIOD_MS *
      1000000)) ∧ State.canSends wProof (State.actFld wProof F.WIT_CAN_CTRL) = true ∧ (State.proofKey wProof).isSome
      = true) :=
  ⟨by unfold State.Live; decide +kernel,
    by unfold State.Live; decide +kernel,
    ⟨(by intro t h; cases h), by unfold State.Live; decide +kernel⟩,
    by unfold State.Live; decide +kernel,
    by unfold State.Live; decide +kernel⟩

end OfPicture

namespace OfPorts

def adc (x : Conv) (l : List (Nat × W32)) (s : State) : State :=
  regs [(F.ADC_CTL_EN 1, 1), (F.ADC_REF_READY, 1)] { s with adc := { Adc.reset with convs := [(1, x)] }, act := l }

def wIdle (l : List (Nat × W32)) : State := adc { Conv.reset with lastPeriod := some 7 } l w0

def wRef : State :=
  { w0 with adc := { Adc.reset with refAt := some 5 }, time := { Timebase.reset with ns := 150005#64 } }

def wUrg : State := regs [(F.ADC_URG_EN 1 2, 1), (F.ADC_URG_CH 1 2, 9)] (wIdle [])

def wRun : State := adc { Conv.reset with running := some ⟨some 2, 9, false⟩ } [] w0

def wStale : State :=
  regs [(F.ADC_WINB_EN 37, 1), (F.ADC_WINB_AGE 37, 3), (F.ADC_WINB_STALEVAL 37, 1), (F.ALM_SRC_CLASS aAdcStale, 1)] { w0 with
    time := { Timebase.reset with ns := 30000#64 }
    adc := { Adc.reset with comps := [(37, { Comparator.reset with count := 2 })] } }

def wFifo : State := { w0 with adc := { Adc.reset with fifo := [(0x8123, 77), (5, 78)] } }

def wDma : State :=
  regs [(F.ADC_DMA_CTL_EN, 1), (F.ADC_DMA_L_ADDR, 16384)] { heapOf [(16384, mkHdr black 18 1 true false), (16385, fix 20), (16386, fix 10)] w0 with
    adc := { Adc.reset with fifo := [(0x8123, 77), (5, 78)] } }

def taken (p : Nat) (q : VioReq) (st : Bool) : Taken := ⟨p, 16500, 4, nil, q, st⟩

def vio (p : Nat) (q : VioReq) (st : Bool) : State :=
  regs [(F.VIO_CAN_CTL_EN 1, 1), (F.VIO_LIN_CTL_EN 1, 1), (F.VIO_LIN_CTL_CMDR 1, 1), (F.VIO_I3C_CTL_EN 1, 1),
    (F.VIO_SPI_CTL_EN 1, 1), (F.VIO_UART_CTL_EN, 1), (F.GKP_STATUS_GATED, 0)]
    { heapOf [(16500, mkHdr black 14 1 true false)] w0 with
      vio := { Vio.reset with taken := [taken p q st], order := 5 } }

def wAsk : State :=
  regs [(F.VIO_PORTCTL_PORTEN, 0x40), (F.VIO_PORT_L_ADDR 6, 16384)] (heapOf [(16384, mkHdr black 130 1 true false), (16386, fix 0), (16387, ptrTo 1 16600),
      (16600, mkHdr black 5 1 true false), (16601, fix 1), (16602, nil), (16603, fix 0), (16604, fix 6),
      (16605, fix 9)] w0)

def wDaa : State := regs [(F.VIO_I3C_DAA_BUSY 1, 1)] (vio 11 .linWakeup false)

def wCan : State := vio 1 (.can 5 [1#8]) true

def wWitB : State := { vio 6 .linWakeup true with vio := { Vio.reset with wit := [(1, ⟨0x123, [7#8]⟩)] } }

def frame : CanFrame := ⟨0x123#29, false, false, false, false, false, 2, [0xF5#8, 1#8]⟩

def wSlot : State :=
  regs [(⟨0xB400, 31, 0⟩, 0x40000123), (⟨0xB404, 31, 0⟩, 0x00110E04), (F.ALM_SRC_CLASS aCanBusoff, 1),
    (F.ALM_SRC_CLASS aLisTimeout, 1)]
    { vio 6 .linWakeup true with act := [(0xB400, 0x40000123#32), (0xB404, 0x00110E04#32)] }

def wOff : State := regs [(F.VIO_CAN_STAT_BUSOFF 1, 1)] wSlot

def wBack : State := { wOff with vio := { Vio.reset with recovering := [1] } }

def wLate : State :=
  { wSlot with
    vio := { Vio.reset with accepted := [(0, 3)] }
    act := [(0xB400, 0x40000123#32), (0xB404, 0x00130E04#32)]
    time := { Timebase.reset with ns := 1000003#64 } }

def wLin : State :=
  regs [(F.VIO_LIN_CTL_EN 1, 1), (F.VIO_LIN_CTL_CMDR 1, 0)] { vio 5 (.linFrame 5 1 true true []) true with
    act := [(0xBE1C, 0x8225#32), (0xBE20, 0xBBAA#32)] }

def wGpio : State := { w0 with vio := { Vio.reset with raw := 0x20#32 } }

def wPwm : State :=
  regs [(F.VIO_PWM_EN 3, 1), (F.VIO_PWMD_DUTY 3, 7), (F.VIO_PWM_PER 3, 9), (F.VIO_UART_CTL_EN, 1),
    (F.VIO_I3C_CTL_EN 1, 1), (F.VIO_I3C_CTL_IBIEN 1, 1)] w0

def wUart : State :=
  { wPwm with
    vio := { Vio.reset with uartBytes := [1#8], uartAt := 0, uartErr := 1 }
    time := { Timebase.reset with ns := 100000000#64 } }

def seen : LinSeen := ⟨[], true, false⟩

theorem witness_ConvertersConvert :
    (State.Live wRef ∧ wRef.adc.refAt = some 5 ∧ State.bit wRef F.ADC_REF_READY = false ∧ 5 + 150000 ≤ State.now wRef ∧
      (∀ n < 3, State.bit wRef (F.ADC_CTL_EN n) = false))
    ∧ (State.Live (wIdle []) ∧ (State.converts (wIdle []) 1 = true ∧ (State.conv (wIdle []) 1).running = none ∧ (State.conv
      (wIdle []) 1).seq = false ∧ (State.conv (wIdle []) 1).trig = false ∧ (State.conv (wIdle []) 1).urgent = []))
    ∧ (State.Live (wIdle [(41472, 140#32)]) ∧ (State.converts (wIdle [(41472, 140#32)]) 1 = true ∧ (State.conv (wIdle
      [(41472, 140#32)]) 1).running = none ∧ (State.conv (wIdle [(41472, 140#32)]) 1).seq = false ∧ (State.conv
      (wIdle [(41472, 140#32)]) 1).trig = false ∧ (State.conv (wIdle [(41472, 140#32)]) 1).urgent = []) ∧
      State.actFld (wIdle [(41472, 140#32)]) (F.ADC_CTL_TSRC 1) = 1 + 2 ∧ State.actFld (wIdle [(41472, 140#32)])
      (F.ADC_CTL_TEDGE 1) = 2 ∧ (∀ u < 4, State.actFld (wIdle [(41472, 140#32)]) (F.ADC_URG_TSRC 1 u) ≠ 1 + 2))
    ∧ (State.Live (wIdle [(41472, 20#32), (41480, 5#32)]) ∧ (State.converts (wIdle [(41472, 20#32), (41480, 5#32)]) 1 =
      true ∧ (State.conv (wIdle [(41472, 20#32), (41480, 5#32)]) 1).running = none ∧ (State.conv (wIdle [(41472,
      20#32), (41480, 5#32)]) 1).seq = false ∧ (State.conv (wIdle [(41472, 20#32), (41480, 5#32)]) 1).trig = false ∧
      (State.conv (wIdle [(41472, 20#32), (41480, 5#32)]) 1).urgent = []) ∧ State.actFld (wIdle [(41472, 20#32),
      (41480, 5#32)]) (F.ADC_CTL_TSRC 1) = 5 ∧ State.now (wIdle [(41472, 20#32), (41480, 5#32)]) % (State.actFld
      (wIdle [(41472, 20#32), (41480, 5#32)]) (F.ADC_PER_US 1) * 1000) = 0 ∧ (State.conv (wIdle [(41472, 20#32),
      (41480, 5#32)]) 1).lastPeriod ≠ some (State.now (wIdle [(41472, 20#32), (41480, 5#32)])))
    ∧ (State.Live wUrg ∧ (State.converts wUrg 1 = true ∧ (State.conv wUrg 1).running = none ∧ (State.conv wUrg 1).seq =
      false ∧ (State.conv wUrg 1).trig = false ∧ (State.conv wUrg 1).urgent = []) ∧ State.bit wUrg (F.ADC_URG_EN 1 2)
      = true)
    ∧ (State.Live wRun ∧ (State.conv wRun 1).running = some (Conversion.mk (some 2) 9 false) ∧ 9 < 16 ∧ 4095 ≤ 4095 ∧
      (State.conv wRun 1).seq = false ∧ (State.conv wRun 1).trig = false ∧ (State.conv wRun 1).urgent = [] ∧
      State.actBit wRun (F.ADC_URG_FIFO 1 2) = false ∧ State.bit wRun (F.ADC_WINB_EN (16 * 1 + 9)) = false)
    ∧ (State.Live (wIdle []) ∧ (State.conv (wIdle []) 1).recovering (State.now (wIdle [])) = false)
    ∧ (State.Live wStale ∧ 2 ≤ 37 ∧ State.bit wStale (F.ADC_WINB_EN 37) = true ∧ State.fld wStale (F.ADC_WINB_AGE 37) ≠ 0 ∧
      (State.comp wStale 37).stale = false ∧ (State.comp wStale 37).last + State.fld wStale (F.ADC_WINB_AGE 37) *
      10000 ≤ State.now wStale ∧ State.fld wStale (F.ALM_SRC_CLASS aAdcStale) ≤ 1)
    ∧ (State.Live wFifo ∧ State.bit wFifo F.ADC_DMA_CTL_EN = false ∧ wFifo.adc.fifo = [(33059, 77), (5, 78)])
    ∧ (State.Live w0 ∧ State.bit w0 F.ADC_DMA_CTL_EN = false ∧ w0.adc.fifo = [])
    ∧ ((∀ (b : ℕ), b = State.heapReg wDma F.ADC_DMA_L_ADDR F.ADC_DMA_H_ADDR ∨ b = State.heapReg wDma F.ADC_DMA_L_ADDR
      F.ADC_DMA_H_ADDR + 1 ∨ b = State.heapReg wDma F.ADC_DMA_L_ADDR F.ADC_DMA_H_ADDR + 2 ∨ b = State.heapReg wDma
      F.ADC_DMA_L_ADDR F.ADC_DMA_H_ADDR + 3 + 20 % (hdrLen (State.heapRead wDma (State.heapReg wDma F.ADC_DMA_L_ADDR
      F.ADC_DMA_H_ADDR)) - 2) → State.resident wDma (pageOf b) = true) ∧ State.Live wDma ∧ wDma.adc.fifo = [(33059,
      77), (5, 78)] ∧ State.bit wDma F.ADC_DMA_CTL_EN = true ∧ State.engineBad wDma (State.heapReg wDma
      F.ADC_DMA_L_ADDR F.ADC_DMA_H_ADDR) = false ∧ State.engineBad wDma (State.heapReg wDma F.ADC_DMA_L_ADDR
      F.ADC_DMA_H_ADDR + 2) = false ∧ State.engineBad wDma (State.heapReg wDma F.ADC_DMA_L_ADDR F.ADC_DMA_H_ADDR + 3
      + 20 % (hdrLen (State.heapRead wDma (State.heapReg wDma F.ADC_DMA_L_ADDR F.ADC_DMA_H_ADDR)) - 2)) = false ∧
      (State.heapRead wDma (State.heapReg wDma F.ADC_DMA_L_ADDR F.ADC_DMA_H_ADDR)).t = tHDR ∧ hdrKind (State.heapRead
      wDma (State.heapReg wDma F.ADC_DMA_L_ADDR F.ADC_DMA_H_ADDR)) = kVec ∧ 18 ≤ hdrLen (State.heapRead wDma
      (State.heapReg wDma F.ADC_DMA_L_ADDR F.ADC_DMA_H_ADDR)) ∧ hdrLen (State.heapRead wDma (State.heapReg wDma
      F.ADC_DMA_L_ADDR F.ADC_DMA_H_ADDR)) ≤ 65534 ∧ State.elem wDma (State.heapReg wDma F.ADC_DMA_L_ADDR
      F.ADC_DMA_H_ADDR) 0 = fix (↑20 : ℤ) ∧ State.elem wDma (State.heapReg wDma F.ADC_DMA_L_ADDR F.ADC_DMA_H_ADDR) 1
      = fix (↑10 : ℤ) ∧ 20 < 2 ^ 62 ∧ 10 ≤ 20 ∧ 20 - 10 < hdrLen (State.heapRead wDma (State.heapReg wDma
      F.ADC_DMA_L_ADDR F.ADC_DMA_H_ADDR)) - 2 ∧ wDma.heap.phase = Phase.idle)
    ∧ (State.Live wRun ∧ State.bit wRun (F.ADC_CTL_EN 1) = true) :=
  ⟨by unfold State.Live; decide +kernel,
    by unfold State.Live; decide +kernel,
    by unfold State.Live; decide +kernel,
    by unfold State.Live; decide +kernel,
    by unfold State.Live; decide +kernel,
    by unfold State.Live; decide +kernel,
    by unfold State.Live; decide +kernel,
    by unfold State.Live; decide +kernel,
    by unfold State.Live; decide +kernel,
    by unfold State.Live; decide +kernel,
    ⟨(by intro b hb; rcases hb with rfl | rfl | rfl | rfl <;> decide +kernel), by unfold State.Live; decide +kernel⟩,
    by unfold State.Live; decide +kernel⟩

theorem witness_PortsServeRequests :
    ((∃ es, ((State.engineStore wAsk (State.heapReg wAsk (F.VIO_PORT_L_ADDR 6) (F.VIO_PORT_H_ADDR 6)) (2 + 0 % 128)
      nil).engineStore (State.heapReg wAsk (F.VIO_PORT_L_ADDR 6) (F.VIO_PORT_H_ADDR 6)) 1 (fix (↑(0 + 1) :
      ℤ))).reqElems tVEC (State.elem wAsk (State.heapReg wAsk (F.VIO_PORT_L_ADDR 6) (F.VIO_PORT_H_ADDR 6)) (2 + 0 %
      128)) = Except.ok es ∧ parseReq ((State.engineStore wAsk (State.heapReg wAsk (F.VIO_PORT_L_ADDR 6)
      (F.VIO_PORT_H_ADDR 6)) (2 + 0 % 128) nil).engineStore (State.heapReg wAsk (F.VIO_PORT_L_ADDR 6)
      (F.VIO_PORT_H_ADDR 6)) 1 (fix (↑(0 + 1) : ℤ))) 6 es = Except.ok (VioReq.pins 6 9)) ∧ State.Live wAsk ∧
      (State.fld wAsk F.VIO_PORTCTL_PORTEN).testBit 6 = true ∧ (State.takenOf wAsk 6).length < 16 ∧ State.engineBad
      wAsk (State.heapReg wAsk (F.VIO_PORT_L_ADDR 6) (F.VIO_PORT_H_ADDR 6)) = false ∧ State.engineBad wAsk
      (State.heapReg wAsk (F.VIO_PORT_L_ADDR 6) (F.VIO_PORT_H_ADDR 6) + 130) = false ∧ State.elem wAsk (State.heapReg
      wAsk (F.VIO_PORT_L_ADDR 6) (F.VIO_PORT_H_ADDR 6)) 1 = fix (↑0 : ℤ) ∧ 0 < 2 ^ 60 ∧ (State.elem wAsk
      (State.heapReg wAsk (F.VIO_PORT_L_ADDR 6) (F.VIO_PORT_H_ADDR 6)) (2 + 0 % 128)).t ≠ tNIL ∧ ((State.engineStore
      wAsk (State.heapReg wAsk (F.VIO_PORT_L_ADDR 6) (F.VIO_PORT_H_ADDR 6)) (2 + 0 % 128) nil).engineStore
      (State.heapReg wAsk (F.VIO_PORT_L_ADDR 6) (F.VIO_PORT_H_ADDR 6)) 1 (fix (↑(0 + 1) : ℤ))).paintObj (State.elem
      wAsk (State.heapReg wAsk (F.VIO_PORT_L_ADDR 6) (F.VIO_PORT_H_ADDR 6)) (2 + 0 % 128)) = some (16600, 5) ∧ (¬(6 =
      8 ∧ State.bit wAsk (F.VIO_I3C_CTL_PMIC 1) = true)) ∧ State.portRuns wAsk 6 = true ∧ wAsk.heap.phase =
      Phase.idle ∧ State.resident wAsk (pageOf (State.heapReg wAsk (F.VIO_PORT_L_ADDR 6) (F.VIO_PORT_H_ADDR 6) + 1 +
      (2 + 0 % 128))) = true ∧ State.resident wAsk (pageOf (State.heapReg wAsk (F.VIO_PORT_L_ADDR 6)
      (F.VIO_PORT_H_ADDR 6) + 1 + 1)) = true)
    ∧ (State.Live (vio 1 (VioReq.can 5 [1#8]) false) ∧ State.nextReq (vio 1 (VioReq.can 5 [1#8]) false) 1 = some (taken 1
      (VioReq.can 5 [1#8]) false) ∧ State.portRuns (vio 1 (VioReq.can 5 [1#8]) false) 1 = true)
    ∧ (State.Live (vio 5 (VioReq.linFrame 5 1 false true [1#8]) false) ∧ (State.underWay (vio 5 (VioReq.linFrame 5 1 false
      true [1#8]) false) (4 + 1) = none ∧ State.portRuns (vio 5 (VioReq.linFrame 5 1 false true [1#8]) false) (4 + 1)
      = true ∧ State.nextReq (vio 5 (VioReq.linFrame 5 1 false true [1#8]) false) (4 + 1) = some (taken 5
      (VioReq.linFrame 5 1 false true [1#8]) false)) ∧ (taken 5 (VioReq.linFrame 5 1 false true [1#8]) false).req =
      VioReq.linFrame 5 1 false true [1#8] ∧ State.bit (vio 5 (VioReq.linFrame 5 1 false true [1#8]) false)
      (F.VIO_LIN_CTL_CMDR 1) = true)
    ∧ (State.Live (vio 5 VioReq.linWakeup false) ∧ (State.underWay (vio 5 VioReq.linWakeup false) (4 + 1) = none ∧
      State.portRuns (vio 5 VioReq.linWakeup false) (4 + 1) = true ∧ State.nextReq (vio 5 VioReq.linWakeup false) (4
      + 1) = some (taken 5 VioReq.linWakeup false)) ∧ (taken 5 VioReq.linWakeup false).req = VioReq.linWakeup)
    ∧ (State.Live (vio 6 (VioReq.pins 6 9) false) ∧ (State.underWay (vio 6 (VioReq.pins 6 9) false) 6 = none ∧
      State.portRuns (vio 6 (VioReq.pins 6 9) false) 6 = true ∧ State.nextReq (vio 6 (VioReq.pins 6 9) false) 6 =
      some (taken 6 (VioReq.pins 6 9) false)) ∧ (taken 6 (VioReq.pins 6 9) false).req = VioReq.pins 6 9)
    ∧ (State.Live (vio 6 (VioReq.duty 3 77) false) ∧ (State.underWay (vio 6 (VioReq.duty 3 77) false) 6 = none ∧
      State.portRuns (vio 6 (VioReq.duty 3 77) false) 6 = true ∧ State.nextReq (vio 6 (VioReq.duty 3 77) false) 6 =
      some (taken 6 (VioReq.duty 3 77) false)) ∧ (taken 6 (VioReq.duty 3 77) false).req = VioReq.duty 3 77 ∧ 77 < 2 ^
      20 ∧ State.blDrives (vio 6 (VioReq.duty 3 77) false) 3 = false)
    ∧ (State.Live (vio 8 (VioReq.i3c 5 [1#8] 2) false) ∧ State.bit (vio 8 (VioReq.i3c 5 [1#8] 2) false) (F.VIO_I3C_DAA_BUSY
      1) = false ∧ (State.underWay (vio 8 (VioReq.i3c 5 [1#8] 2) false) (7 + 1) = none ∧ State.portRuns (vio 8
      (VioReq.i3c 5 [1#8] 2) false) (7 + 1) = true ∧ State.nextReq (vio 8 (VioReq.i3c 5 [1#8] 2) false) (7 + 1) =
      some (taken 8 (VioReq.i3c 5 [1#8] 2) false)) ∧ (taken 8 (VioReq.i3c 5 [1#8] 2) false).req = VioReq.i3c 5 [1#8]
      2)
    ∧ (State.Live (vio 10 (VioReq.spi 1 2 0 [1#8]) false) ∧ (State.underWay (vio 10 (VioReq.spi 1 2 0 [1#8]) false) (9 + 1)
      = none ∧ State.portRuns (vio 10 (VioReq.spi 1 2 0 [1#8]) false) (9 + 1) = true ∧ State.nextReq (vio 10
      (VioReq.spi 1 2 0 [1#8]) false) (9 + 1) = some (taken 10 (VioReq.spi 1 2 0 [1#8]) false)) ∧ (taken 10
      (VioReq.spi 1 2 0 [1#8]) false).req = VioReq.spi 1 2 0 [1#8])
    ∧ (State.Live (vio 11 (VioReq.uart [1#8]) false) ∧ (State.underWay (vio 11 (VioReq.uart [1#8]) false) 11 = none ∧
      State.portRuns (vio 11 (VioReq.uart [1#8]) false) 11 = true ∧ State.nextReq (vio 11 (VioReq.uart [1#8]) false)
      11 = some (taken 11 (VioReq.uart [1#8]) false)) ∧ (taken 11 (VioReq.uart [1#8]) false).req = VioReq.uart [1#8])
    ∧ ((VioEnd.ok = VioEnd.ok ∧ 0 = 0 ∧ ((taken 11 (VioReq.uart [1#8]) true).req = VioReq.linWakeup ∨ (∃ a b, (taken 11
      (VioReq.uart [1#8]) true).req = VioReq.pins a b) ∨ (∃ a b, (taken 11 (VioReq.uart [1#8]) true).req =
      VioReq.duty a b) ∨ ∃ d, (taken 11 (VioReq.uart [1#8]) true).req = VioReq.uart d) ∨ (VioEnd.ok = VioEnd.noAck ∧
      0 = 6 ∧ ∃ a w n, (taken 11 (VioReq.uart [1#8]) true).req = VioReq.i3c a w n) ∨ VioEnd.ok = VioEnd.busError ∧ 0
      = 7 ∧ ∃ a w n, (taken 11 (VioReq.uart [1#8]) true).req = VioReq.i3c a w n) ∧ State.Live (vio 11 (VioReq.uart
      [1#8]) true) ∧ State.underWay (vio 11 (VioReq.uart [1#8]) true) 11 = some (taken 11 (VioReq.uart [1#8]) true) ∧
      State.resident (vio 11 (VioReq.uart [1#8]) true) (pageOf ((taken 11 (VioReq.uart [1#8]) true).addr + 1 + 2)) =
      true ∧ (vio 11 (VioReq.uart [1#8]) true).heap.phase = Phase.idle)
    ∧ ((VioEnd.busError = VioEnd.ok ∧ 7 = 0 ∧ ((taken 8 (VioReq.i3c 5 [1#8] 2) true).req = VioReq.linWakeup ∨ (∃ a b,
      (taken 8 (VioReq.i3c 5 [1#8] 2) true).req = VioReq.pins a b) ∨ (∃ a b, (taken 8 (VioReq.i3c 5 [1#8] 2)
      true).req = VioReq.duty a b) ∨ ∃ d, (taken 8 (VioReq.i3c 5 [1#8] 2) true).req = VioReq.uart d) ∨
      (VioEnd.busError = VioEnd.noAck ∧ 7 = 6 ∧ ∃ a w n, (taken 8 (VioReq.i3c 5 [1#8] 2) true).req = VioReq.i3c a w
      n) ∨ VioEnd.busError = VioEnd.busError ∧ 7 = 7 ∧ ∃ a w n, (taken 8 (VioReq.i3c 5 [1#8] 2) true).req =
      VioReq.i3c a w n) ∧ State.Live (vio 8 (VioReq.i3c 5 [1#8] 2) true) ∧ State.underWay (vio 8 (VioReq.i3c 5 [1#8]
      2) true) 8 = some (taken 8 (VioReq.i3c 5 [1#8] 2) true) ∧ State.resident (vio 8 (VioReq.i3c 5 [1#8] 2) true)
      (pageOf ((taken 8 (VioReq.i3c 5 [1#8] 2) true).addr + 1 + 2)) = true ∧ (vio 8 (VioReq.i3c 5 [1#8] 2)
      true).heap.phase = Phase.idle)
    ∧ (State.Live (vio 11 VioReq.linWakeup false) ∧ State.bit (vio 11 VioReq.linWakeup false) (F.VIO_I3C_CTL_EN 1) = true)
    ∧ (State.Live wDaa ∧ State.bit wDaa (F.VIO_I3C_DAA_BUSY 1) = true) :=
  ⟨⟨(⟨_, rfl, rfl⟩), by unfold State.Live; decide +kernel⟩,
    by unfold State.Live; decide +kernel,
    by unfold State.Live; decide +kernel,
    by unfold State.Live; decide +kernel,
    by unfold State.Live; decide +kernel,
    by unfold State.Live; decide +kernel,
    by unfold State.Live; decide +kernel,
    by unfold State.Live; decide +kernel,
    by unfold State.Live; decide +kernel,
    ⟨(.inl ⟨rfl, rfl, .inr (.inr (.inr ⟨_, rfl⟩))⟩), by unfold State.Live; decide +kernel⟩,
    ⟨(.inr (.inr ⟨rfl, rfl, _, _, _, rfl⟩)), by unfold State.Live; decide +kernel⟩,
    by unfold State.Live; decide +kernel,
    by unfold State.Live; decide +kernel⟩

theorem witness_BusesAndPins :
    (State.Live wCan ∧ wCan.vio.wit.find? 1 = none ∧ State.portRuns wCan 1 = true ∧ firstSend (State.takenOf wCan 1) =
      some (taken 1 (VioReq.can 5 [1#8]) true, 5, [1#8]) ∧ State.fld wCan (F.VIO_CAN_CTL_MODE 1) ≠ 3 ∧
      wCan.heap.phase = Phase.idle ∧ State.resident wCan (pageOf ((taken 1 (VioReq.can 5 [1#8]) true).addr + 1 + 2))
      = true)
    ∧ (State.Live wWitB ∧ wWitB.vio.wit.find? 1 = some (WitFrame.mk 291 [7#8]) ∧ State.canSends wWitB 1 = true ∧ firstSend
      (State.takenOf wWitB 1) = none)
    ∧ (State.Live wSlot ∧ State.bit wSlot (F.VIO_CAN_CTL_EN 1) = true ∧ State.busOff wSlot 1 = false ∧ State.fld wSlot
      (F.VIO_CAN_CTL_MODE 1) ≠ 3 ∧ canBoundary 1 wSlot = wSlot ∧ (State.passes wSlot 1 frame = false ∨ (State.fld
      wSlot F.VIO_PORTCTL_RINGEN).testBit 1 = false) ∧ 0 < 128 ∧ State.actFld wSlot (F.VIO_LSA_CTRL 0) = 1 ∧
      State.actBit wSlot (F.VIO_LSB_EN 0) = true ∧ State.actFld wSlot (F.VIO_LSA_ID 0) = frame.id.toNat ∧
      State.actBit wSlot (F.VIO_LSA_IDE 0) = frame.ide ∧ frame.rtr = false ∧ (State.actFld wSlot (F.VIO_LSB_BITPOS 0)
      + (State.actFld wSlot (F.VIO_LSB_LENM1 0) + 1) + 7) / 8 ≤ frame.bytes.length)
    ∧ (State.Live wSlot ∧ State.bit wSlot (F.VIO_CAN_CTL_EN 1) = true ∧ State.busOff wSlot 1 = false)
    ∧ (State.Live wSlot ∧ State.bit wSlot (F.VIO_CAN_CTL_EN 1) = true ∧ State.busOff wSlot 1 = false ∧ State.takenOf wSlot
      1 = [] ∧ wSlot.vio.wit.find? 1 = none ∧ State.fld wSlot (F.ALM_SRC_CLASS aCanBusoff) ≤ 1)
    ∧ (State.Live wOff ∧ State.busOff wOff 1 = true ∧ 1 ∉ wOff.vio.recovering)
    ∧ (State.Live wBack ∧ State.busOff wBack 1 = true ∧ (State.bit wBack (F.VIO_CAN_CTL_AUTOREC 1) = true ∨ 1 ∈
      wBack.vio.recovering))
    ∧ (State.Live wLate ∧ wLate.vio.accepted.find? 0 = some 3 ∧ State.actBit wLate (F.VIO_LSB_EN 0) = true ∧ State.actFld
      wLate (F.VIO_LSB_TIMEOUT 0) ≠ 0 ∧ 3 + State.actFld wLate (F.VIO_LSB_TIMEOUT 0) * 1000000 ≤ State.now wLate ∧
      State.fld wLate (F.ALM_SRC_CLASS aLisTimeout) ≤ 1)
    ∧ (State.Live wLin ∧ State.bit wLin (F.VIO_LIN_CTL_EN 1) = true ∧ State.bit wLin (F.VIO_LIN_CTL_CMDR 1) = false)
    ∧ (State.Live wLin ∧ State.bit wLin (F.VIO_LIN_CTL_EN 1) = true ∧ State.bit wLin (F.VIO_LIN_CTL_CMDR 1) = false ∧
      State.linEntry wLin 1 37 = some 1)
    ∧ (State.Live wLin ∧ State.bit wLin (F.VIO_LIN_CTL_EN 1) = true ∧ State.underWay wLin (4 + 1) = some (taken 5
      (VioReq.linFrame 5 1 true true []) true) ∧ (taken 5 (VioReq.linFrame 5 1 true true []) true).req =
      VioReq.linFrame 5 1 true true [] ∧ wLin.heap.phase = Phase.idle ∧ State.resident wLin (pageOf ((taken 5
      (VioReq.linFrame 5 1 true true []) true).addr + 1 + 2)) = true)
    ∧ (State.Live wLin ∧ State.bit wLin (F.VIO_LIN_CTL_EN 1) = true)
    ∧ (State.Live wGpio ∧ BitVec.getLsbD wGpio.vio.raw 5 ≠ (State.fld wGpio F.VIO_GPIO_IN_IN).testBit 5 ∧ AMap.get 0
      wGpio.vio.rawAt 5 + State.fld wGpio (F.VIO_GPIOCFG_FILT 5) * 1000 ≤ State.now wGpio)
    ∧ State.Live wGpio
    ∧ (State.Live w0 ∧ (State.gated w0 = false ∨ Req.warden = Req.warden))
    ∧ (State.Live wCan ∧ (State.gated wCan = false ∨ Req.host = Req.warden))
    ∧ (State.Live wPwm ∧ State.bit wPwm (F.VIO_PWM_EN 3) = true)
    ∧ (State.Live wPwm ∧ State.bit wPwm F.VIO_UART_CTL_EN = true ∧ wPwm.vio.uartBytes.length < 6)
    ∧ (State.Live wUart ∧ wUart.vio.uartAt + State.uartIdle wUart ≤ State.now wUart ∧ wUart.vio.uartBytes ≠ [])
    ∧ (State.Live wPwm ∧ State.bit wPwm (F.VIO_I3C_CTL_EN 1) = true ∧ State.bit wPwm (F.VIO_I3C_CTL_IBIEN 1) = true) :=
  ⟨by unfold State.Live; decide +kernel,
    by unfold State.Live; decide +kernel,
    by unfold State.Live; decide +kernel,
    by unfold State.Live; decide +kernel,
    by unfold State.Live; decide +kernel,
    by unfold State.Live; decide +kernel,
    by unfold State.Live; decide +kernel,
    by unfold State.Live; decide +kernel,
    by unfold State.Live; decide +kernel,
    by unfold State.Live; decide +kernel,
    by unfold State.Live; decide +kernel,
    by unfold State.Live; decide +kernel,
    by unfold State.Live; decide +kernel,
    by unfold State.Live; decide +kernel,
    by unfold State.Live; decide +kernel,
    by unfold State.Live; decide +kernel,
    by unfold State.Live; decide +kernel,
    by unfold State.Live; decide +kernel,
    by unfold State.Live; decide +kernel,
    by unfold State.Live; decide +kernel⟩

end OfPorts

namespace OfSupply

def wUmb : State :=
  regs [(F.VIO_WAKE_EN 2, 1)] { w0 with
    mode := .umber
    power := { Power.reset with
      powered := false
      pmicEn := false
      parked := true
      pmicAt := 5
      wakeRuns := [(2, 255)] }
    time := { Timebase.reset with ns := 10000005#64, slow := true } }

def wSoon : State := { wUmb with time := { Timebase.reset with ns := 10000004#64 } }

def wWoken : State := { wUmb with power := { wUmb.power with wake := some 2 } }

def wOchre : State :=
  regs [(F.PWR_PGWAIT_MS, 10)] { w0 with
    power := { Power.reset with powered := false, epark := true, pmicAt := 5 }
    time := { Timebase.reset with ns := 10000005#64, slow := true } }

def wScript : State :=
  regs [(F.PWR_PMIC_EN, 1), (F.VIO_I3C_CTL_PMIC 1, 1), (F.PWR_PMIC_ADDR, 0x48), (⟨0xC120, 31, 0⟩, 0x10203),
    (⟨0xC128, 31, 0⟩, 0x10405), (F.ALM_SRC_CLASS aPmicNack, 1), (F.ALM_SRC_CLASS aPmicInt, 1), (F.VIO_WAKE_EN 2, 1)]
    { w0 with power := { Power.reset with scripts := [1] }, dram := [(5, 1#8)], flash := [(6, 2#8)] }

def supply : List (Fld × Nat) :=
  [(F.PWR_VCORE_WARN, 10), (F.PWR_VCORE_HYS, 2), (F.PWR_THERM_HOT, 100), (F.PWR_THERM_CRIT, 110),
    (F.PWR_KLTIME_MICRO, 20), (F.PWR_KLTIME_OV, 20), (F.PWR_KLTIME_RECOVER, 5)]

def sup (m : Mode) (l : List (Fld × Nat)) : State :=
  regs (l ++ supply) { w0 with mode := m, time := { Timebase.reset with ns := 1000000000#64 } }

def wGo (m : Mode) : State :=
  sup m [(F.LMP_CTL_ARM, 1), (F.ALM_MC_CTL_MC_LOCK, 1), (F.SPN_CTL_LOCK, 1), (F.FRY_CTL_LOCK, 1)]

def wRecover (m : Mode) : State :=
  { sup m [(F.PWR_STATUS_SHED, 2)] with power := { Power.reset with absent := [(1, 5), (2, 5)] } }

def wSafe : State := { wGo .ochre with power := { Power.reset with safeHeld := true } }

def wAlarm : State := regs [(F.ALM_PEND_PEND 0, 8), (F.ALM_SRC_CLASS 3, 3)] (wGo .vermilion)

def keys : AMap KeyVal :=
  [(0, .root), (1, .boot), (3, .bytes (leBytes 16 9)), (4, .bytes (leBytes 64 11)), (5, .bytes (leBytes 32 12)),
    (6, .bytes (leBytes 16 13))]

def gkp (o : Option GkpOp) : State :=
  regs [(F.GKP_STATUS_BUSY, b2n o.isSome), (F.GKP_LEN_LEN, 24)] { w0 with
    gkp := { Gkp.reset with keys := keys, op := o } }

def gop (op slot : Nat) (input : List Byte) : GkpOp := ⟨op, slot, 0, 24, 3, input, false⟩

def wImg : List Byte := List.replicate 24 0#8

def wInst : State :=
  { gkp (some (gop 12 0 [])) with
    gkp := { (gkp (some (gop 12 0 []))).gkp with
      keys := [(1, .bytes [1#8]), (3, .bytes (leBytes 16 9)), (4, .bytes (leBytes 64 11))] } }

def wRboot : State := gkp (some (gop 13 0 []))

def wKdf : State := gkp (some (gop 1 3 []))

def wZero : State := regs [(F.ALM_SRC_CLASS aGkpTamper, 3)] (gkp (some (gop 8 0 [])))

def wStream (l : List (Nat × W32)) (n k : Nat) : State :=
  setRegs l { sup .saffron [(F.GKP_SCTL_COUNT, n), (F.ALM_SRC_CLASS aGkpDigest, 1), (F.GKP_BOOT_NEXT, 2)] with
    gkp := { Gkp.reset with keys := keys, stream := some (0, k) }
    flash := [(3, 4#8)] }

def wPage6 : State := wStream [(0x1304, 20000#32), (0x1308, 6#32), (0x130C, 32768#32)] 0 0

def wPage7 : State := wStream [(0x1304, 20000#32), (0x1308, 7#32), (0x130C, 40#32)] 0 2

def wTag0 (n : Nat) : State := wStream [(0x1304, 16#32), (0x1308, 7#32), (0x130C, 40#32)] n 1

def wTagBytes : List Byte := ((wTag0 0).streamTag ((wTag0 0).streamEntry 0)).getD []

def wTag : State := (wTag0 0).setRegBytes 0x1420 wTagBytes

def wTag1 : State := (wTag0 1).setRegBytes 0x1420 wTagBytes

def wBad : State := { wTag0 0 with mode := .ochre }

def wTrialW : State :=
  { w0 with gkp := { Gkp.reset with trialAt := some 5 }, time := { Timebase.reset with ns := 120000000005#64 } }

theorem witness_PowerComesAndGoes :
    (wUmb.raised = [] ∧ State.bit wUmb (F.VIO_WAKE_EN 2) = true ∧ (wUmb.time.slow = true → State.fld wUmb
      (F.VIO_WAKE_FILT 2) ≤ AMap.get 0 wUmb.power.wakeRuns 2) ∧ wUmb.mode = Mode.umber ∧ State.holdOver wUmb = true)
    ∧ (wSoon.raised = [] ∧ State.bit wSoon (F.VIO_WAKE_EN 2) = true ∧ (wSoon.time.slow = true → State.fld wSoon
      (F.VIO_WAKE_FILT 2) ≤ AMap.get 0 wSoon.power.wakeRuns 2) ∧ wSoon.mode = Mode.umber ∧ State.holdOver wSoon =
      false ∧ wSoon.power.wake = none)
    ∧ (wScript.raised = [] ∧ State.bit wScript (F.VIO_WAKE_EN 2) = true ∧ (wScript.time.slow = true → State.fld wScript
      (F.VIO_WAKE_FILT 2) ≤ AMap.get 0 wScript.power.wakeRuns 2) ∧ wScript.mode ≠ Mode.umber ∧ wScript.mode ≠
      Mode.sable)
    ∧ (wWoken.raised = [] ∧ wWoken.mode = Mode.umber ∧ wWoken.power.parked = true ∧ State.holdOver wWoken = true ∧
      wWoken.power.wake = some 2)
    ∧ (wUmb.raised = [] ∧ wUmb.mode = Mode.umber ∧ wUmb.power.parked = true ∧ State.holdOver wUmb = true ∧ wUmb.power.wake
      = none ∧ wUmb.power.epark = false)
    ∧ (wOchre.raised = [] ∧ wOchre.mode = Mode.ochre ∧ wOchre.power.pmicEn = true ∧ wOchre.power.powered = false)
    ∧ (wOchre.raised = [] ∧ wOchre.mode = Mode.ochre ∧ wOchre.power.pmicEn = true ∧ wOchre.power.powered = false ∧
      wOchre.power.pmicAt + State.fld wOchre F.PWR_PGWAIT_MS * 1000000 ≤ State.now wOchre)
    ∧ (wScript.raised = [] ∧ wScript.power.powered = true ∧ wScript.power.scripts = [1] ∧ State.scriptsOn wScript = true)
    ∧ (wScript.raised = [] ∧ wScript.power.powered = true ∧ wScript.power.scripts = [1] ∧ State.scriptsOn wScript = true ∧
      (∃ e ∈ State.script wScript 1, e.1 = 2) ∧ State.fld wScript (F.ALM_SRC_CLASS aPmicNack) = 1)
    ∧ (wScript.raised = [] ∧ wScript.power.powered = true ∧ wScript.power.pmicLow = false ∧ State.fld wScript
      (F.ALM_SRC_CLASS aPmicInt) ≤ 1)
    ∧ (wScript.raised = [] ∧ wScript.power.powered = true)
    ∧ (wScript.raised = [] ∧ wScript.power.powered = true ∧ wScript.mode.awake = true)
    ∧ (wScript.raised = [] ∧ wScript.power.powered = true ∧ (Instr.pgFall 1, 5) ∈ [(Instr.pgFall 0, 5), (Instr.pgFall 1,
      5), (Instr.pgFall 2, 5), (Instr.vcoreFail, 2), (Instr.vcoreOver, 3), (Instr.vsramFail, 4)])
    ∧ (wScript.raised = [] ∧ wScript.power.powered = true ∧ (Instr.vcoreOver, 3) ∈ [(Instr.pgFall 0, 5), (Instr.pgFall 1,
      5), (Instr.pgFall 2, 5), (Instr.vcoreFail, 2), (Instr.vcoreOver, 3), (Instr.vsramFail, 4)])
    ∧ (wScript.raised = [] ∧ wScript.power.powered = true ∧ wScript.mode.awake = true ∧ wScript.mode ≠ Mode.ivory)
    ∧ wScript.raised = [] :=
  ⟨by decide +kernel,
    by decide +kernel,
    by decide +kernel,
    by decide +kernel,
    by decide +kernel,
    by decide +kernel,
    by decide +kernel,
    by decide +kernel,
    by decide +kernel,
    by decide +kernel,
    by decide +kernel,
    by decide +kernel,
    by decide +kernel,
    by decide +kernel,
    by decide +kernel,
    by decide +kernel⟩

theorem witness_ShedLevelsAndModes :
    (State.Live (sup Mode.ochre []) ∧ (sup Mode.ochre []).mode = Mode.ochre ∧ 669 < 620 + 5 * State.fld (sup Mode.ochre
      []) F.PWR_VCORE_WARN)
    ∧ (State.Live (sup Mode.ochre [(F.PWR_STATUS_VLOW, 1)]) ∧ (sup Mode.ochre [(F.PWR_STATUS_VLOW, 1)]).mode = Mode.ochre ∧
      620 + 5 * State.fld (sup Mode.ochre [(F.PWR_STATUS_VLOW, 1)]) F.PWR_VCORE_WARN + 5 * State.fld (sup Mode.ochre
      [(F.PWR_STATUS_VLOW, 1)]) F.PWR_VCORE_HYS < 681)
    ∧ (State.Live (sup Mode.ochre [(F.ALM_SRC_CLASS aThermHot, 1)]) ∧ (sup Mode.ochre [(F.ALM_SRC_CLASS aThermHot,
      1)]).mode = Mode.ochre ∧ (↑(State.fld (sup Mode.ochre [(F.ALM_SRC_CLASS aThermHot, 1)]) F.PWR_THERM_HOT) : ℤ) ≤
      100 ∧ 100 < 130 ∧ State.fld (sup Mode.ochre [(F.ALM_SRC_CLASS aThermHot, 1)]) (F.ALM_SRC_CLASS aThermHot) ≤ 1 ∧
      State.bit (sup Mode.ochre [(F.ALM_SRC_CLASS aThermHot, 1)]) F.PWR_STATUS_HOT = false)
    ∧ (State.Live (sup Mode.ochre [(F.PWR_STATUS_HOT, 1)]) ∧ (sup Mode.ochre [(F.PWR_STATUS_HOT, 1)]).mode = Mode.ochre ∧
      -40 < (↑(State.fld (sup Mode.ochre [(F.PWR_STATUS_HOT, 1)]) F.PWR_THERM_HOT) : ℤ) - 5 ∧ -40 < (↑(State.fld (sup
      Mode.ochre [(F.PWR_STATUS_HOT, 1)]) F.PWR_THERM_CRIT) : ℤ) - 5 ∧ -40 < 130)
    ∧ (State.Live (sup Mode.ochre []) ∧ (sup Mode.ochre []).mode = Mode.ochre ∧ 130 ≤ 130)
    ∧ (State.Live (sup Mode.ivory [(F.PWR_STATUS_KL30, 1)]) ∧ ((sup Mode.ivory [(F.PWR_STATUS_KL30, 1)]).mode = Mode.ochre
      ∨ (sup Mode.ivory [(F.PWR_STATUS_KL30, 1)]).mode = Mode.ivory ∧ (sup Mode.ivory [(F.PWR_STATUS_KL30,
      1)]).shep.epochs = []) ∧ (sup Mode.ivory [(F.PWR_STATUS_KL30, 1)]).power.kl2 = false ∧ State.fld (sup
      Mode.ivory [(F.PWR_STATUS_KL30, 1)]) F.PWR_STATUS_KL30 = 1 ∧ (sup Mode.ivory [(F.PWR_STATUS_KL30,
      1)]).power.klAt + State.fld (sup Mode.ivory [(F.PWR_STATUS_KL30, 1)]) F.PWR_KLTIME_MICRO * 1000000 ≤ State.now
      (sup Mode.ivory [(F.PWR_STATUS_KL30, 1)]))
    ∧ (State.Live (sup Mode.ochre [(F.PWR_STATUS_KL30, 2)]) ∧ ((sup Mode.ochre [(F.PWR_STATUS_KL30, 2)]).mode = Mode.ochre
      ∨ (sup Mode.ochre [(F.PWR_STATUS_KL30, 2)]).mode = Mode.ivory ∧ (sup Mode.ochre [(F.PWR_STATUS_KL30,
      2)]).shep.epochs = []) ∧ (sup Mode.ochre [(F.PWR_STATUS_KL30, 2)]).power.kl2 = false ∧ State.fld (sup
      Mode.ochre [(F.PWR_STATUS_KL30, 2)]) F.PWR_STATUS_KL30 = 2 ∧ (sup Mode.ochre [(F.PWR_STATUS_KL30,
      2)]).power.klAt + State.fld (sup Mode.ochre [(F.PWR_STATUS_KL30, 2)]) F.PWR_KLTIME_OV * 1000000 ≤ State.now
      (sup Mode.ochre [(F.PWR_STATUS_KL30, 2)]))
    ∧ (State.Live (wRecover Mode.slate) ∧ State.shedHeld (wRecover Mode.slate) < State.shed (wRecover Mode.slate) ∧
      ((wRecover Mode.slate).mode = Mode.ochre ∨ (wRecover Mode.slate).mode = Mode.slate ∧ State.shedHeld (wRecover
      Mode.slate) < 2))
    ∧ (State.Live (wGo Mode.ochre) ∧ (wGo Mode.ochre).mode = Mode.ochre ∧ State.bit (wGo Mode.ochre) F.LMP_CTL_ARM = true ∧
      (wGo Mode.ochre).power.safeHeld = false ∧ State.bit (wGo Mode.ochre) F.ALM_MC_CTL_MC_LOCK = true ∧ State.bit
      (wGo Mode.ochre) F.SPN_CTL_LOCK = true ∧ State.bit (wGo Mode.ochre) F.FRY_CTL_LOCK = true)
    ∧ (((wGo Mode.ochre).evr.flights = [] ∧ (wGo Mode.ochre).pic.jobs = [] ∧ ∀ c < 256, (State.cell (wGo Mode.ochre)
      c).sprig = none) ∧ State.Live (wGo Mode.ochre) ∧ (wGo Mode.ochre).mode = Mode.ochre ∧ State.bit (wGo
      Mode.ochre) F.LMP_CTL_ARM = true ∧ (wGo Mode.ochre).power.safeHeld = false ∧ (wGo Mode.ochre).vio.heldWrites =
      [] ∧ (wGo Mode.ochre).vio.taken = [])
    ∧ ((wSafe.evr.flights = [] ∧ wSafe.pic.jobs = [] ∧ ∀ c < 256, (State.cell wSafe c).sprig = none) ∧ State.Live wSafe ∧
      wSafe.mode = Mode.ochre ∧ State.bit wSafe F.LMP_CTL_ARM = true ∧ wSafe.power.safeHeld = true)
    ∧ (State.Live (wGo Mode.vermilion) ∧ (wGo Mode.vermilion).mode = Mode.vermilion ∧ State.safePending (wGo
      Mode.vermilion) = false ∧ State.fld (wGo Mode.vermilion) F.TAL_STATUS_FROZEN = 0 ∧ State.bit (wGo
      Mode.vermilion) F.WIT_STATUS_AB = false ∧ State.bit (wGo Mode.vermilion) F.WIT_STATUS_STEST = false)
    ∧ (State.Live wAlarm ∧ wAlarm.mode = Mode.vermilion ∧ State.safePending wAlarm = true) :=
  ⟨by unfold State.Live; decide +kernel,
    by unfold State.Live; decide +kernel,
    by unfold State.Live; decide +kernel,
    by unfold State.Live; decide +kernel,
    by unfold State.Live; decide +kernel,
    by unfold State.Live; decide +kernel,
    by unfold State.Live; decide +kernel,
    by unfold State.Live; decide +kernel,
    by unfold State.Live; decide +kernel,
    ⟨(⟨rfl, rfl, by decide +kernel⟩), by unfold State.Live; decide +kernel⟩,
    ⟨(⟨rfl, rfl, by decide +kernel⟩), by unfold State.Live; decide +kernel⟩,
    by unfold State.Live; decide +kernel,
    by unfold State.Live; decide +kernel⟩

theorem witness_GatekeeperOperations :
    ((Instr.gkpSha Req.warden, 8) ∈ [(Instr.gkpDerive Req.warden, 1), (Instr.gkpUnwrap Req.warden, 2), (Instr.gkpErase
      Req.warden, 3), (Instr.gkpLoadpub Req.warden, 4), (Instr.gkpHmac Req.warden, 5), (Instr.gkpHmacv Req.warden,
      6), (Instr.gkpCmac Req.warden, 7), (Instr.gkpSha Req.warden, 8), (Instr.gkpEcdsav Req.warden, 9),
      (Instr.gkpExtend Req.warden, 10), (Instr.gkpQuote Req.warden, 11), (Instr.gkpInstall Req.warden, 12),
      (Instr.gkpRboot Req.warden, 13), (Instr.gkpSvnup Req.warden, 14)] ∧ State.Live (gkp none) ∧ State.bit (gkp
      none) F.GKP_STATUS_BUSY = false ∧ State.gkpRefusal (gkp none) 8 0 = none)
    ∧ ((Instr.gkpDerive Req.warden, 1) ∈ [(Instr.gkpDerive Req.warden, 1), (Instr.gkpUnwrap Req.warden, 2), (Instr.gkpErase
      Req.warden, 3), (Instr.gkpLoadpub Req.warden, 4), (Instr.gkpHmac Req.warden, 5), (Instr.gkpHmacv Req.warden,
      6), (Instr.gkpCmac Req.warden, 7), (Instr.gkpSha Req.warden, 8), (Instr.gkpEcdsav Req.warden, 9),
      (Instr.gkpExtend Req.warden, 10), (Instr.gkpQuote Req.warden, 11), (Instr.gkpInstall Req.warden, 12),
      (Instr.gkpRboot Req.warden, 13), (Instr.gkpSvnup Req.warden, 14)] ∧ State.Live (gkp none) ∧ State.bit (gkp
      none) F.GKP_STATUS_BUSY = false ∧ State.gkpRefusal (gkp none) 1 3 = none)
    ∧ ((Instr.gkpDerive Req.warden, 1) ∈ [(Instr.gkpDerive Req.warden, 1), (Instr.gkpUnwrap Req.warden, 2), (Instr.gkpErase
      Req.warden, 3), (Instr.gkpLoadpub Req.warden, 4), (Instr.gkpHmac Req.warden, 5), (Instr.gkpHmacv Req.warden,
      6), (Instr.gkpCmac Req.warden, 7), (Instr.gkpSha Req.warden, 8), (Instr.gkpEcdsav Req.warden, 9),
      (Instr.gkpExtend Req.warden, 10), (Instr.gkpQuote Req.warden, 11), (Instr.gkpInstall Req.warden, 12),
      (Instr.gkpRboot Req.warden, 13), (Instr.gkpSvnup Req.warden, 14)] ∧ State.Live (gkp none) ∧ State.bit (gkp
      none) F.GKP_STATUS_BUSY = false ∧ State.gkpRefusal (gkp none) 1 0 = some gBadarg)
    ∧ (State.Live (gkp (some (gop 3 6 []))) ∧ (gkp (some (gop 3 6 []))).gkp.op = some (gop 3 6 []) ∧ (gop 3 6 []).host =
      false ∧ (gkp (some (gop 3 6 []))).gkp.erases = [] ∧ (gkp (some (gop 3 6 []))).gkp.stream = none ∧ (gop 3 6
      []).slot < 8 ∧ (gop 3 6 []).op = 3)
    ∧ (State.Live (gkp (some (gop 10 3 (leBytes 32 5)))) ∧ (gkp (some (gop 10 3 (leBytes 32 5)))).gkp.op = some (gop 10 3
      (leBytes 32 5)) ∧ (gop 10 3 (leBytes 32 5)).host = false ∧ (gkp (some (gop 10 3 (leBytes 32 5)))).gkp.erases =
      [] ∧ (gkp (some (gop 10 3 (leBytes 32 5)))).gkp.stream = none ∧ (gop 10 3 (leBytes 32 5)).slot < 8 ∧ (gop 10 3
      (leBytes 32 5)).op = 10)
    ∧ (State.Live (gkp (some (gop 11 5 (leBytes 32 5)))) ∧ (gkp (some (gop 11 5 (leBytes 32 5)))).gkp.op = some (gop 11 5
      (leBytes 32 5)) ∧ (gop 11 5 (leBytes 32 5)).host = false ∧ (gkp (some (gop 11 5 (leBytes 32 5)))).gkp.erases =
      [] ∧ (gkp (some (gop 11 5 (leBytes 32 5)))).gkp.stream = none ∧ (gop 11 5 (leBytes 32 5)).slot < 8 ∧ (gop 11 5
      (leBytes 32 5)).op = 11)
    ∧ (State.Live (gkp (some (gop 14 0 [63#8]))) ∧ (gkp (some (gop 14 0 [63#8]))).gkp.op = some (gop 14 0 [63#8]) ∧ (gop 14
      0 [63#8]).host = false ∧ (gkp (some (gop 14 0 [63#8]))).gkp.erases = [] ∧ (gkp (some (gop 14 0
      [63#8]))).gkp.stream = none ∧ (gop 14 0 [63#8]).slot < 8 ∧ (gop 14 0 [63#8]).op = 14 ∧ leNat (List.take 1 (gop
      14 0 [63#8]).input) ≤ 63)
    ∧ (State.Live wKdf ∧ wKdf.gkp.op = some (gop 1 3 []) ∧ (gop 1 3 []).host = false ∧ wKdf.gkp.erases = [] ∧
      wKdf.gkp.stream = none ∧ (gop 1 3 []).slot < 8 ∧ (gop 1 3 []).data wKdf = some (List.replicate 24 0#8) ∧ (gop 1
      3 []).op = 1 ∧ 1 ≤ (List.replicate 24 0#8).length ∧ (List.replicate 24 0#8).length ≤ 32)
    ∧ (State.Live (gkp (some (gop 5 6 []))) ∧ (gkp (some (gop 5 6 []))).gkp.op = some (gop 5 6 []) ∧ (gop 5 6 []).host =
      false ∧ (gkp (some (gop 5 6 []))).gkp.erases = [] ∧ (gkp (some (gop 5 6 []))).gkp.stream = none ∧ (gop 5 6
      []).slot < 8 ∧ (gop 5 6 []).data (gkp (some (gop 5 6 []))) = some (List.replicate 24 0#8) ∧ (gop 5 6 []).op = 5)
    ∧ (State.Live (gkp (some (gop 6 6 []))) ∧ (gkp (some (gop 6 6 []))).gkp.op = some (gop 6 6 []) ∧ (gop 6 6 []).host =
      false ∧ (gkp (some (gop 6 6 []))).gkp.erases = [] ∧ (gkp (some (gop 6 6 []))).gkp.stream = none ∧ (gop 6 6
      []).slot < 8 ∧ (gop 6 6 []).data (gkp (some (gop 6 6 []))) = some (List.replicate 24 0#8) ∧ (gop 6 6 []).op = 6)
    ∧ (State.Live (gkp (some (gop 7 6 []))) ∧ (gkp (some (gop 7 6 []))).gkp.op = some (gop 7 6 []) ∧ (gop 7 6 []).host =
      false ∧ (gkp (some (gop 7 6 []))).gkp.erases = [] ∧ (gkp (some (gop 7 6 []))).gkp.stream = none ∧ (gop 7 6
      []).slot < 8 ∧ (gop 7 6 []).data (gkp (some (gop 7 6 []))) = some (List.replicate 24 0#8) ∧ (gop 7 6 []).op = 7
      ∧ ((State.keyBytes (gkp (some (gop 7 6 []))) (gop 7 6 []).slot).getD []).length = 16)
    ∧ (State.Live (gkp (some (gop 8 6 []))) ∧ (gkp (some (gop 8 6 []))).gkp.op = some (gop 8 6 []) ∧ (gop 8 6 []).host =
      false ∧ (gkp (some (gop 8 6 []))).gkp.erases = [] ∧ (gkp (some (gop 8 6 []))).gkp.stream = none ∧ (gop 8 6
      []).slot < 8 ∧ (gop 8 6 []).data (gkp (some (gop 8 6 []))) = some (List.replicate 24 0#8) ∧ (gop 8 6 []).op = 8)
    ∧ (State.Live (gkp (some (gop 9 6 []))) ∧ (gkp (some (gop 9 6 []))).gkp.op = some (gop 9 6 []) ∧ (gop 9 6 []).host =
      false ∧ (gkp (some (gop 9 6 []))).gkp.erases = [] ∧ (gkp (some (gop 9 6 []))).gkp.stream = none ∧ (gop 9 6
      []).slot < 8 ∧ (gop 9 6 []).data (gkp (some (gop 9 6 []))) = some (List.replicate 24 0#8) ∧ (gop 9 6 []).op = 9
      ∧ State.sysBytes (gkp (some (gop 9 6 []))) ((gop 9 6 []).addr + (gop 9 6 []).len) 64 = some (List.replicate 64
      0#8))
    ∧ (State.Live wInst ∧ wInst.gkp.op = some (gop 12 0 []) ∧ (gop 12 0 []).host = false ∧ wInst.gkp.erases = [] ∧
      wInst.gkp.stream = none ∧ (gop 12 0 []).slot < 8 ∧ (gop 12 0 []).data wInst = some (List.replicate 24 0#8) ∧
      (gop 12 0 []).op = 12 ∧ State.keyBytes wInst 1 = some [1#8] ∧ State.keyBytes wInst 3 = some (leBytes 16 9) ∧
      State.keyBytes wInst 4 = some (leBytes 64 11) ∧ imageOk (List.replicate 24 0#8) = false)
    ∧ (State.Live wRboot ∧ wRboot.gkp.op = some (gop 13 0 []) ∧ (gop 13 0 []).host = false ∧ wRboot.gkp.erases = [] ∧
      wRboot.gkp.stream = none ∧ (gop 13 0 []).slot < 8 ∧ (gop 13 0 []).data wRboot = some (List.replicate 24 0#8) ∧
      (gop 13 0 []).op = 13 ∧ State.keyBytes wRboot 4 = some (leBytes 64 11) ∧ imageOk (List.replicate 24 0#8) =
      false) :=
  ⟨⟨(.tail _ (.tail _ (.tail _ (.tail _ (.tail _ (.tail _ (.tail _ (.head _)))))))), by
      unfold State.Live; decide +kernel⟩,
    ⟨(.head _), by unfold State.Live; decide +kernel⟩,
    ⟨(.head _), by unfold State.Live; decide +kernel⟩,
    by unfold State.Live; decide +kernel,
    by unfold State.Live; decide +kernel,
    by unfold State.Live; decide +kernel,
    by unfold State.Live; decide +kernel,
    by unfold State.Live; decide +kernel,
    by unfold State.Live; decide +kernel,
    by unfold State.Live; decide +kernel,
    by unfold State.Live; decide +kernel,
    by unfold State.Live; decide +kernel,
    by unfold State.Live; decide +kernel,
    by unfold State.Live; decide +kernel,
    by unfold State.Live; decide +kernel⟩

theorem witness_ZeroizeStreamAndTrial :
    (Instr.gkpZeroize Req.warden ∈ [Instr.gkpZeroize Req.warden, Instr.tamperDetect] ∧ State.Live wZero ∧
      wZero.gkp.stream = none ∧ wZero.mode = Mode.ochre ∧ State.fld wZero (F.ALM_SRC_CLASS aGkpTamper) = 3)
    ∧ (Instr.tamperDetect ∈ [Instr.gkpZeroize Req.warden, Instr.tamperDetect] ∧ State.Live wZero ∧ wZero.gkp.stream = none
      ∧ wZero.mode = Mode.ochre ∧ State.fld wZero (F.ALM_SRC_CLASS aGkpTamper) = 3)
    ∧ (State.Live w0 ∧ w0.gkp.stream = none)
    ∧ (State.Live wPage6 ∧ wPage6.gkp.stream = some (0, 0) ∧ 0 < (State.streamEntry wPage6 0).pages)
    ∧ (State.Live wPage7 ∧ wPage7.gkp.stream = some (0, 2) ∧ 2 < (State.streamEntry wPage7 0).pages)
    ∧ (State.Live wTrialW ∧ wTrialW.gkp.trialAt = some 5 ∧ 5 + State.trialLimit wTrialW * 1000000000 ≤ State.now wTrialW) :=
  ⟨⟨(.head _), by unfold State.Live; decide +kernel⟩,
    ⟨(.tail _ (.head _)), by unfold State.Live; decide +kernel⟩,
    by unfold State.Live; decide +kernel,
    by unfold State.Live; decide +kernel,
    by unfold State.Live; decide +kernel,
    by unfold State.Live; decide +kernel⟩

end OfSupply

namespace OfFaults

def wRaise : State :=
  regs [(F.ALM_SRC_CLASS (aSw0 + 3), 1), (F.ALM_SRC_CLASS aEccLarder, 1), (F.ALM_SRC_CLASS aEccDram, 1),
    (F.ALM_SRC_CLASS aCellBist, 1), (F.PLT_DDR_STAT_CAP, 64), (F.PLT_DDR_STAT_READY, 1)] (heapOf [(16384, fix 5)] w0)

def wLockS : State :=
  regs [(F.ALM_SRC_CLASS aWardenLock, 4), (F.ALM_SRC_CLASS aWardenWdog, 4), (F.ALM_WDOG_EN, 1), (F.ALM_WDOG_PERIOD, 5)]
    { w0 with
    warden := { Warden.reset with kick := true, wdogAt := 3 }
    dram := [(5, 1#8)]
    time := { Timebase.reset with ns := 5000003#64 } }

def wPendA : State := setRegs [(0xE010, 0x15#32), (0xE100, 0x301#32), (0xE108, 0x301#32), (0x9010, 0x76#32)] w0

def wVerm : State := { wPendA with mode := .vermilion }

def wCorr : State := regs [(F.ALM_SRC_CLASS aEccCorr, 0)] wRaise

def wQuar : State := setRegs [(0xE060, 0x20#32)] wRaise

def wTest : State := { wQuar with warden := { Warden.reset with test := some 5 } }

def wDdr : State := regs [(F.PLT_DDR_CFG_CHEN, 1)] w0

def wBusy : State := regs [(F.PLT_DDR_STAT_BUSY, 1)] wDdr

def wXsp (a : Nat) : State :=
  regs [(F.PLT_XSP_CTL_EN, 1), (F.PLT_XSP_ADDR_ADDR, a), (F.PLT_XSP_LEN_LEN, 2), (F.PLT_XSP_BUF_DATA 0, 0x3F0F)] w0

def wFlash (o : FlashOp) : State :=
  { wXsp 0 with
    flash := [(3, 0x55#8), (4, 0xAA#8), (70000, 7#8)]
    warden := { Warden.reset with flashOp := some o } }

theorem witness_FaultsAreCaughtAndCleared :
    (State.Live wLockS ∧ State.fld wLockS (F.ALM_SRC_CLASS aWardenLock) = 4)
    ∧ State.Live wLockS
    ∧ (State.Live wLockS ∧ wLockS.warden.kick = true)
    ∧ (State.Live wLockS ∧ 7 ≠ 90#8 ∧ 7 ≠ 165#8)
    ∧ (State.Live wLockS ∧ State.bit wLockS F.ALM_WDOG_EN = true ∧ wLockS.warden.wdogAt + State.fld wLockS
      F.ALM_WDOG_PERIOD * 1000000 ≤ State.now wLockS ∧ State.fld wLockS (F.ALM_SRC_CLASS aWardenWdog) = 4)
    ∧ (State.Live wRaise ∧ State.fld wRaise (F.ALM_SRC_CLASS (aSw0 + 3)) ≤ 1)
    ∧ State.Live wPendA
    ∧ (State.Live wVerm ∧ wVerm.mode = Mode.vermilion)
    ∧ (State.Live wPendA ∧ wPendA.mode ≠ Mode.vermilion ∧ State.reg wPendA 36880 &&& 50#32 &&& 6#32 ≠ 0#32)
    ∧ (State.Live wRaise ∧ State.resident wRaise (pageOf 16384) = true ∧ 16384 ∉ wRaise.heap.badWords ∧ State.fld wRaise
      (F.ALM_SRC_CLASS aEccLarder) = 1)
    ∧ (State.Live wCorr ∧ State.resident wCorr (pageOf 16384) = true ∧ 16384 ∉ wCorr.heap.badWords ∧ State.fld wCorr
      (F.ALM_SRC_CLASS aEccCorr) = 0 ∧ State.fld wCorr F.ALM_ECCCORR_CNT_COUNT < 2 ^ 32 - 2)
    ∧ (State.Live wRaise ∧ 77 < State.dramSize wRaise ∧ 77 < 2 ^ 34 ∧ State.fld wRaise (F.ALM_SRC_CLASS aEccDram) = 1)
    ∧ (State.Live wQuar ∧ State.bit wQuar F.ALM_CELLSTAT_BUSY = false ∧ State.quarantined wQuar 5 = true)
    ∧ (State.Live wQuar ∧ State.bit wQuar F.ALM_CELLSTAT_BUSY = false ∧ State.quarantined wQuar 6 = false)
    ∧ (State.Live wTest ∧ 5 < 256 ∧ wTest.warden.test = some 5)
    ∧ (State.Live wTest ∧ 5 < 256 ∧ wTest.warden.test = some 5 ∧ State.fld wTest (F.ALM_SRC_CLASS aCellBist) = 1) :=
  ⟨by unfold State.Live; decide +kernel,
    by unfold State.Live; decide +kernel,
    by unfold State.Live; decide +kernel,
    by unfold State.Live; decide +kernel,
    by unfold State.Live; decide +kernel,
    by unfold State.Live; decide +kernel,
    by unfold State.Live; decide +kernel,
    by unfold State.Live; decide +kernel,
    by unfold State.Live; decide +kernel,
    by unfold State.Live; decide +kernel,
    by unfold State.Live; decide +kernel,
    by unfold State.Live; decide +kernel,
    by unfold State.Live; decide +kernel,
    by unfold State.Live; decide +kernel,
    by unfold State.Live; decide +kernel,
    by unfold State.Live; decide +kernel⟩

theorem witness_MemoryControllers :
    (State.Live wDdr ∧ State.bit wDdr F.PLT_DDR_STAT_READY = false ∧ State.bit wDdr F.PLT_DDR_STAT_BUSY = false ∧
      State.fld wDdr F.PLT_DDR_CFG_CHEN ≠ 0)
    ∧ (State.Live wBusy ∧ State.bit wBusy F.PLT_DDR_STAT_BUSY = true)
    ∧ (State.Live w0 ∧ State.bit w0 F.PLT_XSP_CTL_EN = false)
    ∧ ((Instr.xspiProgram Req.warden, 3) ∈ [(Instr.xspiErase4k Req.warden, 1), (Instr.xspiErase64k Req.warden, 2),
      (Instr.xspiProgram Req.warden, 3)] ∧ State.Live (wXsp 510) ∧ State.bit (wXsp 510) F.PLT_XSP_CMD_BUSY = false ∧
      State.bit (wXsp 510) F.PLT_XSP_CTL_EN = true ∧ State.xspAligned (wXsp 510) 3 = true)
    ∧ ((Instr.xspiErase4k Req.warden, 1) ∈ [(Instr.xspiErase4k Req.warden, 1), (Instr.xspiErase64k Req.warden, 2),
      (Instr.xspiProgram Req.warden, 3)] ∧ State.Live (wXsp 69632) ∧ State.bit (wXsp 69632) F.PLT_XSP_CMD_BUSY =
      false ∧ State.bit (wXsp 69632) F.PLT_XSP_CTL_EN = true ∧ State.xspAligned (wXsp 69632) 1 = true)
    ∧ ((Instr.xspiErase64k Req.warden, 2) ∈ [(Instr.xspiErase4k Req.warden, 1), (Instr.xspiErase64k Req.warden, 2),
      (Instr.xspiProgram Req.warden, 3)] ∧ State.Live (wXsp 69632) ∧ State.bit (wXsp 69632) F.PLT_XSP_CMD_BUSY =
      false ∧ State.bit (wXsp 69632) F.PLT_XSP_CTL_EN = true ∧ State.xspAligned (wXsp 69632) 2 = false)
    ∧ (State.MemoriesOk (wFlash (FlashOp.mk 1 0 [])) ∧ State.Live (wFlash (FlashOp.mk 1 0 [])) ∧ (wFlash (FlashOp.mk 1 0
      [])).warden.flashOp = some (FlashOp.mk 1 0 []))
    ∧ (State.MemoriesOk (wFlash (FlashOp.mk 3 3 [15#8, 63#8])) ∧ State.Live (wFlash (FlashOp.mk 3 3 [15#8, 63#8])) ∧
      (wFlash (FlashOp.mk 3 3 [15#8, 63#8])).warden.flashOp = some (FlashOp.mk 3 3 [15#8, 63#8]))
    ∧ (State.MemoriesOk (wFlash (FlashOp.mk 3 3 [15#8, 63#8])) ∧ State.Live (wFlash (FlashOp.mk 3 3 [15#8, 63#8])) ∧
      (wFlash (FlashOp.mk 3 3 [15#8, 63#8])).warden.flashOp = some (FlashOp.mk 3 3 [15#8, 63#8]) ∧ [1#8, 2#8].length
      = (FlashOp.mk 3 3 [15#8, 63#8]).length) :=
  ⟨by unfold State.Live; decide +kernel,
    by unfold State.Live; decide +kernel,
    by unfold State.Live; decide +kernel,
    ⟨(.tail _ (.tail _ (.head _))), by unfold State.Live; decide +kernel⟩,
    ⟨(.head _), by unfold State.Live; decide +kernel⟩,
    ⟨(.tail _ (.head _)), by unfold State.Live; decide +kernel⟩,
    ⟨(⟨rfl, rfl, by decide +kernel, rfl⟩), by unfold State.Live; decide +kernel⟩,
    ⟨(⟨rfl, rfl, by decide +kernel, rfl⟩), by unfold State.Live; decide +kernel⟩,
    ⟨(⟨rfl, rfl, by decide +kernel, rfl⟩), by unfold State.Live; decide +kernel⟩⟩

theorem witness_MemoriesStayCanonical :
    step w0 = Host.Outcome.next w0 ∧ State.MemoriesOk w0 :=
  ⟨(rfl), by unfold State.MemoriesOk; decide +kernel⟩

end OfFaults

/-! ### Well-formedness: each check refuses an ill-formed command -/

theorem test_wf_aligned_offset : (Instr.registerWrite .warden 0x4002 0#32).wf = false := by decide
theorem test_wf_offset_in_window : (Instr.snapshotReadLo .host 0x11000).wf = false := by decide
theorem test_wf_word_colour : (Instr.gaAdd 3 ⟨0x02#6, 1#2, 0#64⟩).wf = false := by decide
theorem test_wf_word_no_fwd : (Instr.lxCar 3 (mkN tFWD 5)).wf = false := by decide
theorem test_wf_word_of_sysld : (Instr.sySysld 256 (mkN tFWD 5) .corrected).wf = false := by decide
theorem test_wf_safe_packet : (Instr.weavePacket 0 1 .safe 3 true).wf = false := by decide
theorem test_wf_packet : (Instr.weavePacket 0 1 .req 17 true).wf = false := by decide
theorem test_wf_relocated_page : (Instr.gcRelocateObject (2 ^ 30)).wf = false := by decide
theorem test_wf_swept_page : (Instr.gcSweepPage (2 ^ 30)).wf = false := by decide
theorem test_wf_requested_page : (Instr.pageInRequest 0 (2 ^ 30)).wf = false := by decide
theorem test_wf_code_page : (Instr.cpsetPatchComplete 8192).wf = false := by decide
theorem test_wf_host_memory : (Instr.cmdPiDoorbell 0 0#16 none [(2 ^ 64, 0#8)]).wf = false := by decide
theorem test_wf_can_length : (Instr.canFrameReceive 0 ⟨1#29, false, false, false, false, false, 2, [0#8]⟩).wf = false := by decide
theorem test_wf_lin_length : (Instr.linHeaderRx 0 0 true ⟨List.replicate 9 0#8, true, false⟩).wf = false := by decide
theorem test_wf_larder_address : (Instr.larderScrub [(2 ^ 40, true)]).wf = false := by decide
theorem test_wf_dram_address : (Instr.dramPatrol [(2 ^ 33, false)]).wf = false := by decide
theorem test_wf_flash_bytes (l : List Byte) (h : 65536 < l.length) : (Instr.xspiCmdDone true l).wf = false := by
  simp only [Instr.wf, Instr.operandsOk, decide_eq_false (by omega : ¬ l.length ≤ 65536), Bool.false_and]
theorem test_wf_accepts : (Instr.gaAdd 3 (fix 5)).wf = true ∧ (Instr.registerWrite .host 0x6040 1#32).wf = true := by decide

/-- No row of the opcode table gives bits. -/
theorem test_no_word_spells_a_command : decodeTableWord 8 0 = none ∧ State.reset.withFetchWord 8 0 = State.reset :=
  ⟨rfl, rfl⟩

/-! ### Arithmetic. Expected results: the worked example and the Edges of 03, and its rules by hand -/

/-- The state after a command. -/
def after (c : Instr) (s : State) : State :=
  match exec c s with
  | .next t => t
  | _ => s

theorem test_mul_point_by_fixq :
    gaOp 2 (mkN tPT2 0x00788000FFD7C000) (mkN tFIXQ 0x0000000180000000) = .val (mkN tPT2 0x00B4C000FFC3A000) false := by
  decide +kernel
theorem test_add_points_overflows :
    gaOp 0 (mkN tPT2 0x00B4C000FFC3A000) (mkN tPT2 0x7FFF000000000000) = .val (mkN tPT2 0x80B3C000FFC3A000) true := by
  decide +kernel
theorem test_stamp_sub_fix : gaOp 1 (mkN tSTAMP 2000050000) (fix 50000) = .val (mkN tSTAMP 2000000000) false := by decide +kernel
theorem test_add_wraps : gaOp 0 (fix (2 ^ 63 - 1)) (fix 1) = .val (fix (-2 ^ 63)) true := by decide +kernel
theorem test_div_truncates : gaOp 3 (fix (-7)) (fix 2) = .val (fix (-3)) false := by decide +kernel
theorem test_rem_follows_dividend : gaOp 4 (fix (-7)) (fix 2) = .val (fix (-1)) false := by decide +kernel
theorem test_lt_is_signed : gaOp 7 (fix (-1)) (fix 1) = .val (boolW true) false := by decide +kernel
theorem test_compare_fix_with_flo_exactly :
    gaOp 7 (fix (2 ^ 53 + 1)) (mkN tFLO 0x4340000000000000) = .val (boolW false) false
      ∧ gaOp 9 (fix (2 ^ 53 + 1)) (mkN tFLO 0x4340000000000000) = .val (boolW true) false
      ∧ gaOp 11 (fix (2 ^ 53 + 1)) (mkN tFLO 0x4340000000000000) = .val (boolW false) false := by decide +kernel
theorem test_add_fix_to_flo_rounds_first :
    gaOp 0 (fix (2 ^ 53 + 1)) (mkN tFLO 0x4340000000000000) = .val (mkN tFLO 0x4350000000000000) false
      ∧ gaOp 1 (fix (2 ^ 53 + 1)) (mkN tFLO 0x4340000000000000) = .val (mkN tFLO 0) false := by decide +kernel
theorem test_shift_by_64 :
    gaOp 20 (fix (-5)) (fix 64) = .val (fix (-1)) false ∧ gaOp 21 (fix (-5)) (fix 64) = .val (fix 0) false := by decide +kernel
theorem test_rgba_saturates : gaOp 0 (mkN tRGBA 0xF0102030) (mkN tRGBA 0x20F00110) = .val (mkN tRGBA 0xFFFF2140) false := by
  decide +kernel
theorem test_fx_divides : fxOp 0x07 .ne 0x3FF0000000000000#64 0x4008000000000000#64 0#64
    = (mkN tFLO 0x3FD5555555555555, ⟨false, false, false, false, true⟩) := by decide +kernel
theorem test_fx_root : (fxOp 0x09 .ne 0#64 0x4000000000000000#64 0#64).1 = mkN tFLO 0x3FF6A09E667F3BCD := by decide +kernel
theorem test_fx_divides_by_zero : (fxOp 0x07 .ne 0x3FF0000000000000#64 0x8000000000000000#64 0#64).1
    = mkN tFLO 0xFFF0000000000000 := by decide +kernel

/-- An ADD in the window delivers into GA's result socket and advances by one move. -/
theorem test_add_steps :
    let t := after (.gaAdd 256 (fix 3)) OfUnits.wAdd
    (t.cell 256).sock .l0 0x1F0 = fix 8 ∧ (t.cell 256).pc = (((OfUnits.wAdd).cell 256).pc + 4) % 2 ^ 32 := by decide +kernel

/-! ### Words, addresses and handles. Expected results: the worked examples of 09 and 10 -/

theorem test_pair_header : mkHdr black 2 0 true false = ⟨tHDR, black, 0x100002#64⟩ := by decide
theorem test_handle : sprgW 0x1C7 9 = mkN tSPRG 0x91C7 := by decide
theorem test_page_payload :
    let s := regs [(F.SPN_HEAP_BASE_PAGE, 0x400), (F.SPN_HEAP_PAGES_COUNT, 0x10000), (F.FRY_HEAP_DBASE_BASE, 0x200),
      (F.FRY_SIDE_DBASE_BASE, 0x700)] w0
    pageOf 0x123CFA = 0x48F ∧ s.payloadAt 0x48F + 8 * (0x123CFA % 1024) = 0x2011E7D0 ∧ s.sidecarAt 0x48F = 0x70023C00 := by
  decide +kernel

/-! ### Blocks. Expected results: the worked examples of 02, 05, 15 and 16 -/


theorem test_tick_of_slow_source :
    let t := after (.timebaseTick 1#4) { w0 with time := { Timebase.reset with slow := true, frac := 60#6 } }
    t.time.ns = 30518#64 ∧ t.time.frac = 33#6 := by decide +kernel

/-- VIO_LSA17, LSB17 and LSC17 of the brake switch. -/
def brake : State := regs [(F.VIO_CAN_CTL_EN 1, 1)]
  { setRegs [(0xB4CC, 0x400001A4#32), (0xB4D0, 0x12C3222A#32), (0xB4D4, 1#32)] w0 with
    act := [(0xB4CC, 0x400001A4#32), (0xB4D0, 0x12C3222A#32), (0xB4D4, 1#32)] }

/-- A frame of identifier 0x1A4 of n bytes whose byte 5 is b. -/
def brakeFrame (b : Byte) (n : Fin 65) : CanFrame :=
  ⟨0x1A4#29, false, true, false, false, false, n, ([0#8, 0#8, 0#8, 0#8, 0#8, b, 0#8, 0#8] : List Byte).take n⟩

theorem test_listener_sets_its_signal : (after (.canFrameReceive 1 (brakeFrame 0x06#8 8)) brake).lsig 17 = true := by
  decide +kernel
theorem test_listener_clears_its_signal :
    (after (.canFrameReceive 1 (brakeFrame 0x4C#8 8)) (after (.canFrameReceive 1 (brakeFrame 0x06#8 8)) brake)).lsig 17
      = false := by decide +kernel
theorem test_listener_counts_a_short_frame :
    let t := after (.canFrameReceive 1 (brakeFrame 0x06#8 5)) brake
    t.lsig 17 = false ∧ t.fld F.VIO_LSHORT_CNT_COUNT = 1 ∧ t.vio.accepted = [] := by decide +kernel

theorem test_urgent_result_out_of_range :
    (after (.adcConversionComplete 1 4096) OfPorts.wRun).fld (F.ADC_URGRES_RES 1 2) = 0xAFFF := by decide +kernel

theorem test_gen_id : State.reset.reg 0 = 0xA1582560#32 := by decide +kernel
theorem test_sha256_abc : sha256 [0x61#8, 0x62#8, 0x63#8] = [0xBA#8, 0x78#8, 0x16#8, 0xBF#8, 0x8F#8, 0x01#8, 0xCF#8, 0xEA#8,
    0x41#8, 0x41#8, 0x40#8, 0xDE#8, 0x5D#8, 0xAE#8, 0x22#8, 0x23#8, 0xB0#8, 0x03#8, 0x61#8, 0xA3#8, 0x96#8, 0x17#8,
    0x7A#8, 0x9C#8, 0xB4#8, 0x10#8, 0xFF#8, 0x61#8, 0xF2#8, 0x00#8, 0x15#8, 0xAD#8] := by decide +kernel

/-- The commit microword of the spill example (08 R425). -/
theorem test_microword_of_the_example :
    uword 0x00000001306003FFFFF8000000000011#120
      = ⟨0, 0, 0, false, true, 3, 1, 0x800, 0xFFF, 0xFFE, 0, 0, 17⟩ := by decide +kernel

/-- A cell whose control store holds these words. -/
def micro (p : List (Nat × BitVec 120)) : State := { OfHeap.wSeq 0#120 with cstore := p }

theorem test_fifth_call_is_mcabort :
    (((after (.lxCons 3 (fix 5)) (micro [(1, 4 <<< 116 ||| 1 <<< 104 ||| 0xFFE <<< 50)])).cell 3).save.get .l1).info
      = rawW (1 + 3 * 4096) := by decide +kernel
theorem test_no_fwd_in_a_register :
    let s := micro [(1, 0xFFF <<< 74 ||| 6 <<< 50 ||| 0x0D <<< 44)]
    let x := (after (.lxCons 3 (fix 5)) s).cell 3
    (x.save.get .l1).info = rawW (1 + 9 * 4096) ∧ x.reg 6 = unb 0 := by decide +kernel

end Sys2Proof.Tests
end

section
/-!
PROOFS. Register reads (00 R25, R35): what a read leaves in the requester's copies, for a low half and for a high half of
a 64-bit register, and the obligation about the pair.
-/
namespace Sys2Proof.Machine

/-! ### One value per requester -/

@[simp] theorem PerReq.get_set_same {α : Type} (p : PerReq α) (r : Req) (x : α) : (p.set r x).get r = x := by
  cases r <;> rfl

/-! ### The two halves -/

/-- The offset is the low half of a 64-bit register that both requesters can reach: below the PLT window, itself not read
from the snapshot, and followed by the half that is. -/
def IsLowHalf (off : Nat) : Prop := off + 4 < 0x10000 ∧ snapOff off = false ∧ snapOff (off + 4) = true

/-- Neither ADC_FIFO nor the register after it is read from the snapshot, so no half of a 64-bit register is ADC_FIFO. -/
theorem IsLowHalf.ne_fifo {off : Nat} (h : IsLowHalf off) : off ≠ 0xA400 ∧ off + 4 ≠ 0xA400 := by
  obtain ⟨-, -, hhigh⟩ := h
  have hafter : snapOff (0xA400 + 4) = false := by decide
  have hfifo : snapOff 0xA400 = false := by decide
  refine ⟨?_, ?_⟩
  · rintro rfl
    simp [hafter] at hhigh
  · intro he
    simp [he, hfifo] at hhigh

/-- 00 R25: a read of a low half returns what the register shows and latches the high half for the requester. -/
theorem regRead_lowHalf {off : Nat} (h : IsLowHalf off) (req : Req) (s : State) :
    regRead req off s = { s with
      rdata := s.rdata.set req (BitVec.ofNat 32 (regView req off s))
      snap := s.snap.set req
        (AMap.put 0#32 (s.snap.get req) (off + 4) (BitVec.ofNat 32 (regView req (off + 4) s))) } := by
  have hfifo := h.ne_fifo.1
  obtain ⟨hreach, hlow, hhigh⟩ := h
  have hplt : ¬ (req = .host ∧ 0x10000 ≤ off) := by omega
  rw [regRead, if_neg hplt, if_neg hfifo]
  simp [readValue, hlow, hhigh]

/-- 00 R25: a read of a high half returns what was latched for the requester, and changes nothing else. -/
theorem regRead_highHalf {off : Nat} (h : IsLowHalf off) (req : Req) (s : State) :
    regRead req (off + 4) s
      = { s with rdata := s.rdata.set req (AMap.get 0#32 (s.snap.get req) (off + 4)) } := by
  have hfifo := h.ne_fifo.2
  obtain ⟨hreach, -, hhigh⟩ := h
  have hplt : ¬ (req = .host ∧ 0x10000 ≤ off + 4) := by omega
  rw [regRead, if_neg hplt, if_neg hfifo]
  simp [readValue, hhigh]

/-! ### The command -/

/-- A read of any register but ADC_FIFO changes at most the requester's read data and snapshot. -/
theorem regRead_frame {off : Nat} (h : off ≠ 0xA400) (req : Req) (s : State) :
    regRead req off s = { s with rdata := (regRead req off s).rdata, snap := (regRead req off s).snap } := by
  by_cases hplt : req = .host ∧ 0x10000 ≤ off
  · rw [regRead, if_pos hplt]
  · rw [regRead, if_neg hplt, if_neg h]
    split <;> rfl

/-- In a running chip the command answers exactly what the read does, for any register but ADC_FIFO. -/
theorem exec_snapshotReadLo {off : Nat} (h : off ≠ 0xA400) (req : Req) {s : State} (hs : s.Live) :
    exec (.snapshotReadLo req off) s = .next (regRead req off s) := by
  obtain ⟨hpow, hraised⟩ := hs
  have hframe := regRead_frame h req s
  exact run_exact hpow (by rw [hframe]; exact hraised) (by rw [hframe]) (by rw [hframe]) (by rw [hframe])

/-! ### The 64-bit registers of the tables -/

/-- The low halves of the readable 64-bit registers are, by the register tables, followed by their high halves. -/
theorem isLowHalf_of_mem {off : Nat}
    (h : off ∈ [0x8, 0x3024, 0x6030, 0x6130, 0x6038, 0x6138, 0x8008, 0x8010, 0x8020, 0x9014, 0x901C, 0xAA00, 0xC02C,
      0xD010, 0xD024, 0xE008, 0xE044, 0xF000, 0xF008]) : IsLowHalf off := by
  revert off
  unfold IsLowHalf
  decide

/-- Settles O8: the offsets are low halves by the register tables, and the two reads have their equations. -/
theorem highHalfIsLatched : Obligations.HighHalfIsLatched := by
  unfold Obligations.HighHalfIsLatched
  intro req off v s u hs hu hoff
  have hpair := isLowHalf_of_mem hoff
  obtain ⟨hlow, hhigh⟩ := hpair.ne_fifo
  refine ⟨⟨_, exec_snapshotReadLo hlow req hs, ?_⟩, fun hv => ⟨_, exec_snapshotReadLo hhigh req hu, ?_⟩⟩
  · simp [regRead_lowHalf hpair]
  · simp [regRead_highHalf hpair, hv]

end Sys2Proof.Machine
end

section
/-!
PROOFS. The words that GA's operations produce (03 R118 to R151): every result is built with colour 0b00 (R120).
-/
namespace Sys2Proof.Machine

/-! ### Words and outcomes of colour 0b00 -/

@[simp] theorem mk_colour (tag : Nat) (p : W64) : (mk tag p).colour = 0#2 := rfl
@[simp] theorem mkN_colour (tag p : Nat) : (mkN tag p).colour = 0#2 := rfl
@[simp] theorem fix_colour (i : Int) : (fix i).colour = 0#2 := rfl
@[simp] theorem boolW_colour (b : Bool) : (boolW b).colour = 0#2 := rfl
@[simp] theorem produce_colour (t : Nat) (p : W64) : (produce t p).colour = 0#2 := rfl
@[simp] theorem plain_colour (w : TWord) : w.plain.colour = 0#2 := rfl

/-- An outcome without a result word, or with one of colour 0b00. -/
def GaOut.Colourless : GaOut → Prop
  | .val r _ => r.colour = 0#2
  | _ => True

namespace GaOut

@[simp] theorem colourless_miss : Colourless .miss := trivial
@[simp] theorem colourless_reject : Colourless .reject := trivial
@[simp] theorem colourless_divz : Colourless .divz := trivial
@[simp] theorem colourless_val {r : TWord} {ov : Bool} : (val r ov).Colourless ↔ r.colour = 0#2 := Iff.rfl
@[simp] theorem colourless_ok {r : TWord} : (ok r).Colourless ↔ r.colour = 0#2 := Iff.rfl
@[simp] theorem colourless_signedOut (tag : Nat) (v : Int) (ov : Bool) : (signedOut tag v ov).Colourless := rfl
@[simp] theorem colourless_floOut (r : W64 × FFlags) : (floOut r).Colourless := rfl
@[simp] theorem colourless_ptOut (x y : Int) : (ptOut x y).Colourless := rfl
@[simp] theorem colourless_rgbaOut (f : Nat → Int) : (rgbaOut f).Colourless := rfl

end GaOut

/-! ### The operations, branch by branch -/

theorem gaAddSub_colourless (sub : Bool) (a b : TWord) : (gaAddSub sub a b).Colourless := by
  unfold gaAddSub
  split_ifs <;> simp

theorem ptMul_colourless (p f : TWord) : (ptMul p f).Colourless := by
  unfold ptMul
  split_ifs <;> simp

theorem gaMul_colourless (a b : TWord) : (gaMul a b).Colourless := by
  unfold gaMul
  split_ifs <;> simp [ptMul_colourless, rgbaScale]

theorem gaDivRem_colourless (rem : Bool) (a b : TWord) : (gaDivRem rem a b).Colourless := by
  unfold gaDivRem
  split_ifs <;> simp

theorem gaNegAbs_colourless (abs : Bool) (a : TWord) : (gaNegAbs abs a).Colourless := by
  unfold gaNegAbs
  split_ifs <;> simp

theorem gaCompare_colourless (ok : Ordering → Bool) (numeq : Bool) (a b : TWord) :
    (gaCompare ok numeq a b).Colourless := by
  unfold gaCompare
  split_ifs <;> simp

/-- Also where the word already has the tag: it is delivered plain. -/
theorem convertTo_colourless (tag : Nat) (w : TWord) : (convertTo tag w).Colourless := by
  unfold convertTo
  split_ifs <;> simp

theorem gaMinMax_colourless (mx : Bool) (a b : TWord) : (gaMinMax mx a b).Colourless := by
  unfold gaMinMax
  split
  · dsimp only
    split
    · simp
    · exact convertTo_colourless _ _
  · split <;> simp

theorem gaBitwise_colourless (f : W64 → W64 → W64) (a b : TWord) : (gaBitwise f a b).Colourless := by
  unfold gaBitwise
  split <;> simp

theorem gaNot_colourless (a : TWord) : (gaNot a).Colourless := by
  unfold gaNot
  split <;> simp

theorem gaShift_colourless (kind : Nat) (a b : TWord) : (gaShift kind a b).Colourless := by
  unfold gaShift
  dsimp only
  split_ifs <;> simp

theorem gaToFix_colourless (a : TWord) : (gaToFix a).Colourless := by
  unfold gaToFix
  split_ifs
  · simp
  · simp
  · simp
  · split <;> simp
  · simp

theorem gaToFixq_colourless (a : TWord) : (gaToFixq a).Colourless := by
  unfold gaToFixq
  split_ifs
  · simp
  · simp
  · cases floOf a.payload with
    | fin n m e => dsimp only; split <;> simp
    | inf n => simp
    | nan s => simp
  · simp

theorem gaToFlo_colourless (a : TWord) : (gaToFlo a).Colourless := by
  unfold gaToFlo
  split
  · exact convertTo_colourless _ _
  · simp

theorem gaOp_colourless (n : Nat) (a b : TWord) : (gaOp n a b).Colourless := by
  unfold gaOp
  split
  · exact gaAddSub_colourless ..
  · exact gaAddSub_colourless ..
  · exact gaMul_colourless ..
  · exact gaDivRem_colourless ..
  · exact gaDivRem_colourless ..
  · exact gaNegAbs_colourless ..
  · exact gaNegAbs_colourless ..
  · exact gaCompare_colourless ..
  · exact gaCompare_colourless ..
  · exact gaCompare_colourless ..
  · exact gaCompare_colourless ..
  · exact gaCompare_colourless ..
  · simp
  · exact gaMinMax_colourless ..
  · exact gaMinMax_colourless ..
  · exact gaBitwise_colourless ..
  · exact gaBitwise_colourless ..
  · exact gaBitwise_colourless ..
  · exact gaNot_colourless ..
  · exact gaShift_colourless ..
  · exact gaShift_colourless ..
  · exact gaShift_colourless ..
  · exact gaToFix_colourless ..
  · exact gaToFixq_colourless ..
  · exact gaToFlo_colourless ..
  · simp

/-- Settles O15: each operation builds its result word afresh or delivers an operand plain. -/
theorem gaResultsAreColourless : Obligations.GaResultsAreColourless := by
  unfold Obligations.GaResultsAreColourless
  intro n a b r ov hval
  have hop := gaOp_colourless n a b
  rwa [hval] at hop

end Sys2Proof.Machine
end

section
/-!
PROOFS. GA's triggers as moves of a ready cell (05 R222), an operation that starts and raises nothing (04 R177, R178),
and division by zero with ST.DZE clear (03 R143, R144).
-/
namespace Sys2Proof.Machine

/-! ### The trigger sockets of GA -/

theorem sockKind_gaTrigger {n : Nat} (hn : n < 25) : sockKind (0x101 + 2 * n) = .trigger := by
  have hodd : (0x101 + 2 * n) % 2 = 1 := by omega
  rw [sockKind, if_neg (by omega), if_neg (by omega), if_pos (by omega), if_pos hodd]

theorem needsFpa_gaTrigger {n : Nat} (hn : n < 25) : needsFpa (0x101 + 2 * n) = false := by
  have hfreg : ¬ 0x101 + 2 * n < 0x30 := by omega
  have hfx : ¬ 0x200 ≤ 0x101 + 2 * n := by omega
  simp [needsFpa, hfreg, hfx]

theorem sockCheck_gaTrigger (s : State) (c : Nat) {n : Nat} (hn : n < 25) :
    sockCheck c (0x101 + 2 * n) false s = none :=
  sockCheck_unit (by omega) (sockKind_gaTrigger hn) (needsFpa_gaTrigger hn) (by omega)

/-- A write to the trigger socket of operation n starts that operation. -/
theorem writeDst_gaTrigger (m : Mv) (ecc : Ecc) {n : Nat} (hn : n < 25) (w : TWord) (s : State) :
    writeDst m ecc (0x101 + 2 * n) w s = gaTrigger m n w s := by
  have hnum : (0x101 + 2 * n - 0x101) / 2 = n := by omega
  rw [writeDst, if_pos (sockKind_gaTrigger hn), trigger, if_pos (by omega), hnum]

/-! ### Starting an operation that raises nothing -/

/-- The cell once an operation that raises nothing has started: complete with ST.EXACT set, else in flight. -/
def Cell.started (o : PendOp) (x : Cell) : Cell :=
  if x.exact then finishOp o x else { x with ops := x.ops ++ [o] }

theorem Cell.started_exact (o : PendOp) {x : Cell} (h : x.exact = true) : x.started o = finishOp o x := if_pos h

theorem Cell.started_inFlight (o : PendOp) {x : Cell} (h : x.exact = false) :
    x.started o = { x with ops := x.ops ++ [o] } := by
  simp [Cell.started, h]

theorem startOp_quiet (m : Mv) {o : PendOp} (s : State) (h : o.exc = 0) :
    startOp m o s = okNext (s.modCell m.c (Cell.started o)) := by
  by_cases hx : (s.cell m.c).exact = true <;> simp [startOp, State.modCell, Cell.started, hx, h]

/-- Completing an operation delivers its result to the result socket of its unit. -/
theorem finishOp_sock {o : PendOp} (h : o.fflags = 0) (x : Cell) :
    (finishOp o x).sock o.level (if o.fx then 0x260 else 0x1F0) = o.res := by
  unfold finishOp
  rw [if_pos h]
  exact Cell.sock_setSock_self x _ _ _

/-- Completing an operation sets its sticky flags. -/
theorem finishOp_ustat (o : PendOp) (x : Cell) :
    (finishOp o x).ustat = x.ustat.set o.level
      (x.ustat.get o.level ||| BitVec.ofNat 2 (b2n o.setOv + 2 * b2n o.setDz)) := by
  by_cases h : o.fflags = 0 <;> simp [finishOp, Cell.setSock, h]

/-! ### Division by zero -/

@[simp] theorem plain_t (w : TWord) : w.plain.t = w.t := rfl
@[simp] theorem plain_p (w : TWord) : w.plain.p = w.p := rfl

/-- 03 R143: a FIX or FIXQ word by a zero FIX or FIXQ word. -/
theorem gaDivRem_zero (rem : Bool) {a b : TWord} (ha : a.t = tFIX ∨ a.t = tFIXQ) (hb : b.t = tFIX ∨ b.t = tFIXQ)
    (hzero : b.p = 0) : gaDivRem rem a b = .divz := by
  have hnum {w : TWord} (h : w.t = tFIX ∨ w.t = tFIXQ) : isNumTag w.t = true ∧ w.t ≠ tFLO := by
    rcases h with h | h <;> rw [h] <;> decide
  obtain ⟨hanum, haflo⟩ := hnum ha
  obtain ⟨hbnum, hbflo⟩ := hnum hb
  have hflo : ¬ (a.t = tFLO ∨ b.t = tFLO) := not_or.mpr ⟨haflo, hbflo⟩
  rw [gaDivRem, hanum, hbnum, Bool.and_self, if_pos rfl, if_neg hflo, if_pos hzero]

/-- The operation that a division by zero with ST.DZE clear starts in a cell (R144). -/
def divzOp (n : Nat) (x : Cell) : PendOp := ⟨false, n, unb 0, false, true, 0, 0, x.pc, 0, none, x.level⟩

theorem gaTrigger_divz {c n : Nat} {b : TWord} {s : State} (hdze : (s.cell c).dze = false)
    (hop : gaOp n ((s.cell c).sock (s.cell c).level (0x100 + 2 * n)) b = .divz) :
    gaTrigger ⟨c, (s.cell c).pc, 4⟩ n b s = okNext (s.modCell c (Cell.started (divzOp n (s.cell c)))) := by
  simp only [gaTrigger, hop, hdze]
  exact startOp_quiet ⟨c, (s.cell c).pc, 4⟩ s rfl

/-- A GA command at a ready cell that divides by zero with ST.DZE clear. -/
theorem run_divz {s : State} {c n : Nat} {w : TWord} (h : s.Ready c) (hn : n < 25) (hdze : (s.cell c).dze = false)
    (hop : gaOp n ((s.cell c).sock (s.cell c).level (0x100 + 2 * n)) w.plain = .divz) :
    ∃ t, run (sockRow c (0x101 + 2 * n) .none w) s = .next t ∧ s.OnlyCell c t
      ∧ t.cell c = { ((s.cell c).started (divzOp n (s.cell c))).retired with
          pc := ((s.cell c).pc + 4) % 2 ^ 32 } :=
  run_unit_cell h (sockCheck_gaTrigger s c hn) ((writeDst_gaTrigger _ _ hn _ _).trans (gaTrigger_divz hdze hop))

/-- Settles O14: DIV and REM both start `divzOp`, which completes with the move or is the last in flight. -/
theorem divisionByZeroGivesUnb : Obligations.DivisionByZeroGivesUnb := by
  unfold Obligations.DivisionByZeroGivesUnb
  intro c w s i n hmem hready hdze hw hzero ha
  have hrow : exec i s = run (sockRow c (0x101 + 2 * n) .none w) s ∧ n < 25
      ∧ gaOp n ((s.cell c).sock (s.cell c).level (0x100 + 2 * n)) w.plain = .divz := by
    simp only [List.mem_cons, Prod.mk.injEq, List.not_mem_nil, or_false] at hmem
    rcases hmem with ⟨rfl, rfl⟩ | ⟨rfl, rfl⟩
    · exact ⟨rfl, by decide, gaDivRem_zero false ha hw hzero⟩
    · exact ⟨rfl, by decide, gaDivRem_zero true ha hw hzero⟩
  obtain ⟨hexec, hn, hop⟩ := hrow
  obtain ⟨t, hrun, honly, hcell⟩ := run_divz hready hn hdze hop
  refine ⟨t, hexec.trans hrun, honly, fun hexact => ?_, fun hfly => ?_⟩
  · rw [Cell.started_exact _ hexact] at hcell
    have hsock := finishOp_sock (o := divzOp n (s.cell c)) rfl (s.cell c)
    have hustat := finishOp_ustat (divzOp n (s.cell c)) (s.cell c)
    rw [hcell]
    refine ⟨(Cell.sock_congr rfl _ _).trans hsock, ?_⟩
    exact (congrArg (·.get (s.cell c).level) hustat).trans (PerLevel.get_set_self _ _ _)
  · rw [Cell.started_inFlight _ hfly] at hcell
    simp [hcell, Cell.retired, divzOp]

end Sys2Proof.Machine
end
